-- ==== Sys2Proof/Word.lean ====
section
/-! DEFINITION. The byte, times on the device clock, and the plain integer arithmetic of the spec's conventions:
rounding up, saturation, the smoothing step, and sorting of short lists. -/

namespace Sys2Proof

/-- One character of the line, one byte of a record (R173). -/
abbrev Byte := BitVec 8

/-- A time or a length of time on the device clock, in microseconds. -/
abbrev Micros := Nat

/-- One second of device clock time. -/
def second : Micros := 1000000

/-- One minute of device clock time. -/
def minute : Micros := 60 * second

/-- The device clock read in milliseconds (R1). -/
def Micros.inMillis (t : Micros) : Nat := t / 1000

/-- A division rounded up (00, Arithmetic). -/
def ceilDiv (a b : Nat) : Nat := (a + b - 1) / b

/-- A counter raised by 1 that stops at its largest value (00, Saturation). -/
def saturatingSucc (limit n : Nat) : Nat := min limit (n + 1)

/-- S moved toward its target by the gap over 2^k, rounded toward plus infinity for a gap of either sign (R7). -/
def smoothed (s target k : Nat) : Nat :=
  ((s : Int) + -(((s : Int) - (target : Int)) / (2 ^ k : Int))).toNat

/-- A number put into an ascending list, before the first that is greater. -/
def insertAscending (n : Nat) : List Nat → List Nat
  | [] => [n]
  | m :: rest => if n ≤ m then n :: m :: rest else m :: insertAscending n rest

/-- The same numbers in ascending order. -/
def ascending : List Nat → List Nat
  | [] => []
  | n :: rest => insertAscending n (ascending rest)

/-- Each number is below every number after it. -/
def strictlyAscending : List Nat → Bool
  | [] => true
  | [_] => true
  | a :: b :: rest => a < b && strictlyAscending (b :: rest)

/-- No number stands twice. -/
def noneTwice : List Nat → Bool
  | [] => true
  | a :: rest => !rest.contains a && noneTwice rest

end Sys2Proof
end

