-- ==== Sys2Proof/Types.lean ====
section
/-! DEFINITION. The names and records of the spec that commands, configuration and state share: phases, roles, orders,
carrier conditions, notice kinds, reasons and causes, profiles, the configuration image, line frames and beacons. -/

namespace Sys2Proof

/-- The phase of the own carrier (R78). -/
inductive Phase
  | awake | seeking | draining | standby | deep | waking | warming | loading | mute
  deriving DecidableEq, Repr

/-- The role of a station, from its configuration (R159). -/
inductive Role
  | anchor | capacity | stay
  deriving DecidableEq, Repr

/-- The instruction to the own carrier (R79). -/
inductive Order
  | run | drain | rest | dark
  deriving DecidableEq, Repr

/-- The carrier's report of itself (R151, R156). -/
inductive CarrierCondition
  | onAir | draining | drained | resting | dark | warming | fault
  deriving DecidableEq, Repr

/-- The state of the Load Estimator (R2). -/
inductive EstimatorState
  | unseeded | tracking | blind
  deriving DecidableEq, Repr

/-- The state of the carrier link (R151). -/
inductive LinkState
  | waiting | up | lost
  deriving DecidableEq, Repr

/-- The twelve kinds of notice (R136, R174). -/
inductive Kind
  | recall | coverAsk | coverGrant | coverDeny | resume | beacon
  | window | flags | profile | restart | askStatus | status
  deriving DecidableEq, Repr

/-- The reasons of a COVER-DENY, in the order of testing (R59). -/
inductive DenyReason
  | sector | role | clash | blind | closed | notAwake | full | noRoom
  deriving DecidableEq, Repr

/-- The causes under which a pledge leaves the book (R75). -/
inductive RemovalCause
  | resumed | seenAwake | replaced | lapsed | recallFailed | leanerLost | restart
  deriving DecidableEq, Repr

/-- The causes of a wake (R96). -/
inductive WakeCause
  | recall | close | rouse | orphan | settle | clash
  deriving DecidableEq, Repr

/-- The state of a pledge (R56). -/
inductive PledgeState
  | granted | resting | called
  deriving DecidableEq, Repr

/-- How deep a leaner was seen to rest (R56). -/
inductive Depth
  | standby | deep
  deriving DecidableEq, Repr

/-- The step of a drain (R78). -/
inductive DrainStep
  | drainOrdered | restOrdered
  deriving DecidableEq, Repr

/-- Whether the rest clock runs (R106). -/
inductive ClockMode
  | stopped | running | frozen
  deriving DecidableEq, Repr

/-- What the receiver of the line is doing: it waits for an idle line, has seen the line idle, or is in a frame
(R137, R144). -/
inductive Receiver
  | waiting | idle | inFrame
  deriving DecidableEq, Repr

/-- The state of the configuration load (R159). -/
inductive LoadState
  | reading | done
  deriving DecidableEq, Repr

/-- The action of a FLAGS notice on one site flag (R129). -/
inductive FlagAction
  | keep | set | clear | invert
  deriving DecidableEq, Repr

/-- Why a frame in reception is discarded (R144). -/
inductive FrameFault
  | framing | oversize | badCheck
  deriving DecidableEq, Repr

/-- A term: a condition code and its sense (R132). -/
structure Term where
  code : BitVec 4
  inverted : Bool
  deriving DecidableEq, Repr

/-- A profile record (R126). Percentages, seconds, minutes and used samples as the rule gives them. -/
structure Profile where
  quietLimit : Nat
  userLimit : Nat
  quietDwell : Nat
  margin : Nat
  ceiling : Nat
  wakeLevel : Nat
  shift : Nat
  deepDwell : Nat
  recallGuard : Nat
  restGuard : Nat
  awakeFloor : Nat
  hold : Term
  rouse : Term
  deriving DecidableEq, Repr

/-- The four profile records (R125). -/
structure Profiles where
  p0 : Profile
  p1 : Profile
  p2 : Profile
  p3 : Profile
  deriving DecidableEq, Repr

/-- The configuration image (R159): times in seconds, capacity in CU. -/
structure Image where
  sector : BitVec 3
  role : Role
  capacity : Nat
  periodCode : BitVec 2
  standbyAllowance : Nat
  deepAllowance : Nat
  drainLimit : Nat
  profiles : Profiles
  deriving DecidableEq, Repr

/-- The eight site flags (R120). -/
structure SiteFlags where
  sf0 : Bool
  sf1 : Bool
  sf2 : Bool
  sf3 : Bool
  sf4 : Bool
  sf5 : Bool
  sf6 : Bool
  sf7 : Bool
  deriving DecidableEq, Repr

/-- The eight actions of a FLAGS notice (R129). -/
structure FlagActions where
  sf0 : FlagAction
  sf1 : FlagAction
  sf2 : FlagAction
  sf3 : FlagAction
  sf4 : FlagAction
  sf5 : FlagAction
  sf6 : FlagAction
  sf7 : FlagAction
  deriving DecidableEq, Repr

/-- A frame of the line without its check (R174). The addressee 0xFF is ALL. -/
structure Frame where
  priority : BitVec 2
  sender : BitVec 6
  kind : BitVec 5
  sector : BitVec 3
  addressee : Byte
  payload : List Byte
  deriving DecidableEq, Repr

/-- The fields of a BEACON payload (R175), as they stand on the line. The cover 0xFF is an absent cover. -/
structure BeaconFields where
  phase : BitVec 3
  role : BitVec 2
  profile : BitVec 2
  clash : Bool
  capacity : BitVec 16
  level : BitVec 12
  room : BitVec 12
  cover : Byte
  covering : List Byte
  resting : List Byte
  deriving DecidableEq, Repr

/-- A REPLY to the radio unit (R155). -/
structure Reply where
  recognized : Bool
  phase : Phase
  order : Order
  deriving DecidableEq, Repr

/-- The beaconed part of a view entry (R36). -/
structure Heard where
  station : Nat
  role : Role
  phase : Phase
  capacity : Nat
  level : Nat
  room : Nat
  cover : Option Nat
  covering : List Nat
  resting : List Nat
  profile : BitVec 2
  clash : Bool
  deriving DecidableEq, Repr

/-- A view entry: what the peer last beaconed, and the marks the station keeps for itself (R36). -/
structure ViewEntry extends Heard where
  age : Nat
  misses : Nat
  shunned : Bool
  seenUs : Bool
  deriving DecidableEq, Repr

/-- A pledge of the book (R56). The reserve is in sixteenths of a CU. -/
structure Pledge where
  leaner : Nat
  tag : BitVec 8
  amount : Nat
  reserve : Nat
  state : PledgeState
  depth : Option Depth
  named : Bool
  grantAge : Nat
  attempts : Nat
  deriving DecidableEq, Repr

/-- Every 16-bit counter of the device (R171, page 3). -/
inductive Counter
  | sent (k : Kind) | arrivals (k : Kind) | abandonDiscards (k : Kind) | queueDiscards (k : Kind)
  | contentionLosses | abandons | statusReplaced | framingErrors | badChecks | malformedFrames | unknownKind
  | maintenanceFromCarrier | clashFrames
  | validSamples | linkBadRecords | unrecognizedRecords | repliesSent | repliesDropped | linkLosses | linkReturns
  | carrierFaults
  | setAside
  | malformedBeacons | otherSectorRemovals | evictions | ageRemovals | fullViewDrops
  | granted | removed (c : RemovalCause) | asksReceived | asksUnanswered | unmatchedResumes
  | overloadRecalls | continuousRecalls | recallsSent
  | deniesSent (r : DenyReason) | deniesReceived (r : DenyReason)
  | asksSent | grantsReceived | misses | askWaitExpiries | abandonedAsks | drainFailures | lateGrants
  | recallsReceived | recallsAnswered | wakes (c : WakeCause) | orphanWakes | unsettledRaisings
  | restsEntered | deepEntries | deepDecisions | dozeBeacons
  | windowsTaken | profilesTaken | flagsTaken | maskedOut | malformedProfiles | windowOpenings
  | closingsByNotice | closingsByExpiry | profileChanges
  | unrecognizedStatus
  | readsAbsent | readsTimedOut | fallbackLoads | loadingExits | lineRestarts
  deriving DecidableEq, Repr

/-- Page 0, its only section (R171, 13.3). -/
structure StationPage where
  strap : BitVec 6
  sector : BitVec 3
  role : Role
  capacity : Nat
  configBad : Bool
  clampCount : Nat
  phase : Phase
  orderImplied : Order
  currentOrder : Order
  cover : Option Nat
  windowOpen : Bool
  remainingMinutes : Nat
  activeProfile : BitVec 2
  flags : SiteFlags
  conditions : BitVec 16
  hold : Bool
  rouse : Bool
  estimator : EstimatorState
  workingLevel : Nat
  room : Nat
  pledges : Nat
  entries : Nat
  viewFull : Bool
  link : LinkState
  deriving DecidableEq, Repr

/-- Page 1 section 0: estimator, cover figures, recall timers, line and link (R171). Times remaining in microseconds. -/
structure FiguresSection where
  estimator : EstimatorState
  demand : Nat
  level : Nat
  lastUtilisation : Nat
  lastUsers : Nat
  lastDemand : Nat
  quiet : Nat
  ceiling : Nat
  wakeLimit : Nat
  committed : Nat
  normalRoom : Nat
  room : Nat
  recallRemaining : Micros
  guardRemaining : Micros
  continuousRecall : Bool
  queueEntries : Nat
  beaconRemaining : Micros
  watchRemaining : Micros
  lastCondition : Option CarrierCondition
  deriving DecidableEq, Repr

/-- Page 1 section 1: the Rest Sequencer (R171). Times remaining in microseconds, the rest clock in whole seconds. -/
structure SequencerSection where
  tag : BitVec 8
  askWaitRemaining : Micros
  backoffRemaining : Micros
  drainRemaining : Micros
  restGuardRemaining : Micros
  drainStep : DrainStep
  darkGiven : Bool
  wakeCause : Option WakeCause
  omissions : Nat
  recentRecall : Bool
  noCover : Bool
  restSeconds : Nat
  restMode : ClockMode
  settleCount : Nat
  settled : Bool
  unsettled : Bool
  doze : Nat
  freshAwake : Nat
  deriving DecidableEq, Repr

/-- The fields of a view entry that page 2 reports (R54). -/
structure ViewRow where
  station : Nat
  phase : Phase
  role : Role
  capacity : Nat
  level : Nat
  room : Nat
  cover : Option Nat
  profile : BitVec 2
  clash : Bool
  age : Nat
  misses : Nat
  shunned : Bool
  seenUs : Bool
  deriving DecidableEq, Repr

/-- The contents of one STATUS section (R171). -/
inductive Section
  | station (p : StationPage)
  | figures (f : FiguresSection)
  | sequencer (q : SequencerSection)
  | pledge (p : Option Pledge)
  | profile (p : Profile)
  | viewSummary (pointer : Nat) (viewFull isolated : Bool) (fresh : Nat)
  | slot (r : Option ViewRow)
  | energy (standby deep draining returning windowOpen : Nat) (counts : List (Counter × Nat))
  | counts (counts : List (Counter × Nat))
  deriving DecidableEq, Repr

end Sys2Proof
end

