-- ==== Sys2Proof/Syntax.lean ====
section
/-! DEFINITION. The commands the device takes, one constructor for each row of spec/opcode_table.json. -/

namespace Sys2Proof

/-- A command: an event of a bus, a pin or a timer. Every command carries `after`, the device-clock time in microseconds
since the command before it (DESIGN CHOICE, log 1). Operands are the fields the spec gives the event; a notice's
addressee is not among them, since an arrival is one addressed to this station or to ALL (00, Queued and sent). -/
inductive Instr
  /-- POWER_ON (R166): reset is left, the straps read `straps`. -/
  | powerOn (after : Micros) (straps : BitVec 6)
  /-- READ_COMPLETE (R161): the bytes of the configuration record. -/
  | readComplete (after : Micros) (record : List Byte)
  /-- READ_ABSENT (R161). -/
  | readAbsent (after : Micros)
  /-- READ_TIMER_EXPIRY (R161). -/
  | readTimerExpiry (after : Micros)
  /-- VALID_SAMPLE (R154): utilisation, user count, carrier condition. -/
  | validSample (after : Micros) (utilisation : BitVec 10) (users : BitVec 11) (condition : CarrierCondition)
  /-- LINK_BAD_RECORD (R152). -/
  | linkBadRecord (after : Micros)
  /-- UNRECOGNIZED_RECORD (R153). -/
  | unrecognizedRecord (after : Micros)
  /-- REPLY_SENT (R155). -/
  | replySent (after : Micros)
  /-- LINK_WATCH_EXPIRY (R158). -/
  | linkWatchExpiry (after : Micros)
  /-- TRANSMISSION_ATTEMPT (R137). -/
  | transmissionAttempt (after : Micros)
  /-- CONTENTION_LOSS (R138). -/
  | contentionLoss (after : Micros)
  /-- ABANDON (R139). -/
  | abandon (after : Micros)
  /-- ATTEMPT_COMPLETE (R140). -/
  | attemptComplete (after : Micros)
  /-- FRAME_DISCARDED (R144): what was wrong with the frame. -/
  | frameDiscarded (after : Micros) (why : FrameFault)
  /-- CLASH_FRAME (R145). -/
  | clashFrame (after : Micros)
  /-- FRAME_IGNORED (R146): the good frame, tested against the station. -/
  | frameIgnored (after : Micros) (frame : Frame)
  /-- BEACON (R38). -/
  | beacon (after : Micros) (sender : BitVec 6) (sector : BitVec 3) (fields : BeaconFields)
  /-- COVER_ASK (R57). -/
  | coverAsk (after : Micros) (sender : BitVec 6) (sector : BitVec 3) (tag : BitVec 8) (amount : BitVec 16)
  /-- RESUME (R66). -/
  | resume (after : Micros) (sender : BitVec 6) (tag : BitVec 8)
  /-- COVER_GRANT (R85). -/
  | coverGrant (after : Micros) (sender : BitVec 6) (tag : BitVec 8) (amount : BitVec 16)
  /-- COVER_DENY (R87). -/
  | coverDeny (after : Micros) (sender : BitVec 6) (tag : BitVec 8) (reason : Byte) (room : BitVec 16)
  /-- RECALL (R100). -/
  | recall (after : Micros) (sender : BitVec 6) (tag : BitVec 8)
  /-- WINDOW_OPEN (R122): duration in minutes, sector mask. -/
  | windowOpen (after : Micros) (sender : BitVec 6) (duration : BitVec 16) (mask : BitVec 8)
  /-- WINDOW_CLOSE (R123). -/
  | windowClose (after : Micros) (sender : BitVec 6) (mask : BitVec 8)
  /-- WINDOW_TIMER_EXPIRY (R124). -/
  | windowTimerExpiry (after : Micros)
  /-- FLAGS (R129). -/
  | flags (after : Micros) (sender : BitVec 6) (actions : FlagActions) (mask : BitVec 8)
  /-- PROFILE (R127): the profile number byte as it stands. -/
  | profile (after : Micros) (sender : BitVec 6) (number : Byte) (mask : BitVec 8)
  /-- ASK_STATUS (R170). -/
  | askStatus (after : Micros) (sender : BitVec 6) (page : BitVec 3) (clearCounters : Bool)
  /-- RESTART (R167): the straps read `straps` (R160). -/
  | restart (after : Micros) (sender : BitVec 6) (straps : BitVec 6)
  /-- STATUS_ARRIVAL (R146). -/
  | statusArrival (after : Micros) (sender : BitVec 6)
  /-- OWN_BEACON_TIME (R147). -/
  | ownBeaconTime (after : Micros)
  /-- ASK_WAIT_EXPIRY (R88). -/
  | askWaitExpiry (after : Micros)
  /-- BACKOFF_EXPIRY (R90). -/
  | backoffExpiry (after : Micros)
  /-- DRAIN_TIMER_EXPIRY (R93). -/
  | drainTimerExpiry (after : Micros)
  /-- RECALL_TIMER_EXPIRY (R73). -/
  | recallTimerExpiry (after : Micros)
  /-- RECALL_GUARD_EXPIRY (R69). -/
  | recallGuardExpiry (after : Micros)
  /-- REST_GUARD_EXPIRY (R99). -/
  | restGuardExpiry (after : Micros)
  /-- HELD_IN_RESET (R166). -/
  | heldInReset (after : Micros)
  /-- LINE_IDLE (R144). -/
  | lineIdle (after : Micros)
  deriving DecidableEq, Repr

end Sys2Proof
end

