-- ==== Sys2Proof/Decode.lean ====
section
/-! DEFINITION. The command a table word spells. No row of spec/opcode_table.json gives bits (its "fixed" and "fields" are
empty), so no word spells a command. Frames and records of the line and the link are read in Machine/Formats.lean. -/

namespace Sys2Proof

/-- The command spelled by a word of the table: none, since no row has bits. -/
def decodeTableWord (_nbits _w : Nat) : Option Instr := none

end Sys2Proof
end

