-- ==== Sys2Proof/Config.lean ====
section
/-! DEFINITION. What the device fixes (factory profile, fallback image, limits) and the free values: what the spec leaves
open, as constants without a body. -/

namespace Sys2Proof

/-- The factory profile (R126). -/
def Config.factoryProfile : Profile where
  quietLimit := 10
  userLimit := 4
  quietDwell := 900
  margin := 25
  ceiling := 80
  wakeLevel := 90
  shift := 4
  deepDwell := 30
  recallGuard := 120
  restGuard := 30
  awakeFloor := 1
  hold := { code := 12, inverted := false }
  rouse := { code := 15, inverted := true }

/-- The fallback image, with the sector R163 chooses. -/
def Config.fallbackImage (sector : BitVec 3) : Image where
  sector := sector
  role := .stay
  capacity := 1
  periodCode := 1
  standbyAllowance := 10
  deepAllowance := 240
  drainLimit := 120
  profiles :=
    { p0 := factoryProfile, p1 := factoryProfile, p2 := factoryProfile, p3 := factoryProfile }

/-- The straps sampled by the reset of State.reset. DESIGN CHOICE (log 6): the spec gives the pins no level. -/
def Config.resetStraps : BitVec 6 := 0

/-- The 7-bit I2C address and the memory address of the configuration record (13.5). -/
def Config.memoryAddress : BitVec 7 × BitVec 16 := (0x53, 0x0000)

/-- The length of the configuration record (13.5). -/
def Config.recordLength : Nat := 71

/-- The link watch runs for 5 s (R151). -/
def Config.linkWatch : Micros := 5 * second

/-- The read timer runs for 50 ms (R159). -/
def Config.readLimit : Micros := 50000

/-- The ask wait runs for 1 s (R84). -/
def Config.askWait : Micros := second

/-- The outbound queue holds at most 8 notices (R141). -/
def Config.queueLimit : Nat := 8

/-- The book holds at most 6 pledges (R55). -/
def Config.bookLimit : Nat := 6

/-- The settle limit, in own beacon periods (R108). -/
def Config.settleLimit : Nat := 8

/-- The largest value of a 16-bit counter (00, Saturation). -/
def Config.counterLimit : Nat := 65535

/-- The largest value of a seconds counter and of the rest clock (00, Saturation; R106). -/
def Config.secondsLimit : Nat := 4294967295

/-- How many 16-bit counters the device has (R171, page 3). -/
def Config.counterTotal : Nat := 137

/-- FREE VALUE (log 10): the bytes of a STATUS section other than section 0 of page 0. R171: "The order and byte width of
the items in those sections are not specified". -/
opaque Config.sectionBytes : Section → List Byte

/-- FREE VALUE (log 10): the section number byte of a STATUS whose recognized marker is clear; R170 gives it none. -/
opaque Config.unrecognizedSectionByte : BitVec 3 → Byte

end Sys2Proof
end

