-- ==== Sys2Proof/Machine/State.lean ====
section
/-! DEFINITION. The state of the device, block by block, as plain data, and the state right after reset. A timer is none
when stopped, or the device-clock time of its expiry: "stopped, or running toward an expiry". -/

namespace Sys2Proof.Machine

/-- A timer: stopped, or running toward an expiry at a device-clock time. -/
abbrev Timer := Option Micros

/-- A STATUS notice (R170). `contents` is the section number with its contents, none when the page is unrecognized. -/
structure StatusReport where
  page : BitVec 3
  contents : Option (Nat × Section)
  deriving DecidableEq, Repr

/-- A notice in the outbound queue. The beacon slot holds no contents: they are composed at each attempt (R148). -/
inductive Notice
  | recall (peer : Nat) (tag : BitVec 8)
  | coverAsk (peer : Nat) (tag : BitVec 8) (amount : Nat)
  | coverGrant (peer : Nat) (tag : BitVec 8) (amount : Nat)
  | coverDeny (peer : Nat) (tag : BitVec 8) (reason : DenyReason) (room : Nat)
  | resume (peer : Nat) (tag : BitVec 8)
  | beacon
  | status (peer : Nat) (report : StatusReport)
  deriving DecidableEq, Repr

/-- What an attempt in progress drives: the contents the entry joined with, or the beacon composed at its start. -/
inductive Attempt
  | asQueued
  | beacon (fields : BeaconFields)
  deriving DecidableEq, Repr

/-- An entry of the outbound queue (R141). `attempt` is set while the attempt in progress is this entry's. -/
structure Entry where
  notice : Notice
  abandons : Nat
  attempt : Option Attempt
  deriving DecidableEq, Repr

/-- The Line Interface (R141, R144). The queue is in sending order. -/
structure LineInterface where
  receiver : Receiver
  queue : List Entry
  beaconTimer : Timer
  clash : Bool
  deriving DecidableEq, Repr

/-- The Peer View Table (R37). The slots are 16. -/
structure PeerView where
  slots : List (Option ViewEntry)
  pointer : Nat
  viewFull : Bool
  isolated : Bool
  deriving DecidableEq, Repr

/-- The Load Estimator (R1). `lastUsed` is a reading of the device clock in milliseconds. -/
structure LoadEstimator where
  state : EstimatorState
  demand : Option Nat
  level : Option Nat
  lastUtilisation : Option Nat
  lastUsers : Option Nat
  lastDemand : Option Nat
  quiet : Nat
  lastUsed : Option Nat
  linkLost : Bool
  deriving DecidableEq, Repr

/-- The Cover Unit (R55). The book is oldest grant first. -/
structure CoverUnit where
  book : List Pledge
  recallTimer : Timer
  recallGuard : Timer
  deriving DecidableEq, Repr

/-- The rest clock (R106, R110): what it has measured, in microseconds, and whether it runs. -/
structure RestClock where
  mode : ClockMode
  measured : Micros
  deriving DecidableEq, Repr

/-- The Rest Sequencer (R78, R106). -/
structure RestSequencer where
  phase : Phase
  cover : Option Nat
  tag : BitVec 8
  askWait : Timer
  backoff : Timer
  drainTimer : Timer
  drainStep : DrainStep
  darkGiven : Bool
  wakeCause : Option WakeCause
  omissions : Nat
  restGuard : Timer
  recentRecall : Bool
  noCover : Bool
  restClock : RestClock
  settleCount : Nat
  settled : Bool
  unsettled : Bool
  doze : Nat
  deriving DecidableEq, Repr

/-- The Policy Unit (R120). The remaining minutes follow from the window timer, the condition set from its suppliers. -/
structure PolicyUnit where
  windowOpen : Bool
  windowTimer : Timer
  activeProfile : BitVec 2
  flags : SiteFlags
  hold : Bool
  rouse : Bool
  deriving DecidableEq, Repr

/-- The Carrier Link Port (R151). -/
structure CarrierLink where
  link : LinkState
  watch : Timer
  lastCondition : Option CarrierCondition
  carrierFault : Bool
  currentOrder : Order
  backlog : List Reply
  deriving DecidableEq, Repr

/-- The Configuration Loader (R159). -/
structure Loader where
  station : BitVec 6
  image : Image
  configBad : Bool
  clampCount : Nat
  load : LoadState
  readTimer : Timer
  deriving DecidableEq, Repr

/-- A seconds counter with its sub-second remainder in milliseconds (R168, R169). -/
structure SecondsCounter where
  seconds : Nat
  remainder : Nat
  deriving DecidableEq, Repr

/-- Accounting (R168, R169): the 16-bit counters, the five seconds counters and the section cursors. -/
structure Accounting where
  counts : Vector Nat Config.counterTotal
  standby : SecondsCounter
  deep : SecondsCounter
  draining : SecondsCounter
  returning : SecondsCounter
  windowOpen : SecondsCounter
  cursor0 : Nat
  cursor1 : Nat
  cursor2 : Nat
  cursor3 : Nat
  deriving DecidableEq, Repr

/-- The device: reset, clock, the commands waiting, and its nine blocks. -/
structure State where
  held : Bool
  clock : Micros
  pending : List Instr
  lif : LineInterface
  pvt : PeerView
  lde : LoadEstimator
  cvu : CoverUnit
  rsq : RestSequencer
  plu : PolicyUnit
  clp : CarrierLink
  cfl : Loader
  acc : Accounting
  deriving DecidableEq, Repr

/-- No rule of the spec stops the device: no meaning answers with a fault. -/
inductive Fault
  deriving DecidableEq, Repr

/-- Why a command has no meaning. Only an arm of exec that is still unmodelled would answer with it; safe. -/
inductive Refusal
  /-- The command of this mnemonic is not modelled yet. Raised by exec alone; safe. -/
  | notModelled (mnemonic : String)
  deriving DecidableEq, Repr

/-- The outcome of a command. -/
abbrev Result := Host.Outcome State Fault Refusal

/-- A seconds counter at 0. -/
def SecondsCounter.zero : SecondsCounter := { seconds := 0, remainder := 0 }

/-- The device at its power-on values (each chapter's table) with the first LOADING begun at `clock` and the straps
sampled as `straps` (R160, R161, R166). The image before the first read is a DESIGN CHOICE (log 7). -/
def State.powerOn (clock : Micros) (straps : BitVec 6) : State where
  held := false
  clock := clock
  pending := []
  lif := { receiver := .waiting, queue := [], beaconTimer := none, clash := false }
  pvt := { slots := List.replicate 16 none, pointer := 0, viewFull := false, isolated := false }
  lde :=
    { state := .unseeded, demand := none, level := none, lastUtilisation := none, lastUsers := none
      lastDemand := none, quiet := 0, lastUsed := none, linkLost := false }
  cvu := { book := [], recallTimer := none, recallGuard := none }
  rsq :=
    { phase := .loading, cover := none, tag := 0, askWait := none, backoff := none, drainTimer := none
      drainStep := .drainOrdered, darkGiven := false, wakeCause := none, omissions := 0, restGuard := none
      recentRecall := false, noCover := false, restClock := { mode := .stopped, measured := 0 }
      settleCount := 0, settled := false, unsettled := false, doze := 0 }
  plu :=
    { windowOpen := false, windowTimer := none, activeProfile := 0
      flags :=
        { sf0 := false, sf1 := false, sf2 := false, sf3 := false
          sf4 := false, sf5 := false, sf6 := false, sf7 := false }
      hold := false, rouse := false }
  clp :=
    { link := .waiting, watch := some (clock + Config.linkWatch), lastCondition := none, carrierFault := false
      currentOrder := .run, backlog := [] }
  cfl :=
    { station := straps, image := Config.fallbackImage 0, configBad := false, clampCount := 0
      load := .reading, readTimer := some (clock + Config.readLimit) }
  acc :=
    { counts := Vector.replicate Config.counterTotal 0
      standby := .zero, deep := .zero, draining := .zero, returning := .zero, windowOpen := .zero
      cursor0 := 0, cursor1 := 0, cursor2 := 0, cursor3 := 0 }

/-- The machine right after reset: the device clock at 0 (log 9), the straps of `Config.resetStraps` (log 6), nothing
waiting (log 17). -/
def State.reset : State := State.powerOn 0 Config.resetStraps

end Sys2Proof.Machine
end

