-- ==== Sys2Proof/Machine/Ops.lean ====
section
/-! DEFINITION. The named operations the meanings share: updates of one block, counters, time on the device clock, timers,
the wrapper of a command, and what is read of the configuration, the view and the sequencer. -/

namespace Sys2Proof.Machine

/-! ## Updates of one block -/

/-- The state with its Line Interface changed. -/
def State.onLif (s : State) (f : LineInterface → LineInterface) : State := { s with lif := f s.lif }
/-- The state with its Peer View Table changed. -/
def State.onPvt (s : State) (f : PeerView → PeerView) : State := { s with pvt := f s.pvt }
/-- The state with its Load Estimator changed. -/
def State.onLde (s : State) (f : LoadEstimator → LoadEstimator) : State := { s with lde := f s.lde }
/-- The state with its Cover Unit changed. -/
def State.onCvu (s : State) (f : CoverUnit → CoverUnit) : State := { s with cvu := f s.cvu }
/-- The state with its Rest Sequencer changed. -/
def State.onRsq (s : State) (f : RestSequencer → RestSequencer) : State := { s with rsq := f s.rsq }
/-- The state with its Policy Unit changed. -/
def State.onPlu (s : State) (f : PolicyUnit → PolicyUnit) : State := { s with plu := f s.plu }
/-- The state with its Carrier Link Port changed. -/
def State.onClp (s : State) (f : CarrierLink → CarrierLink) : State := { s with clp := f s.clp }
/-- The state with its Configuration Loader changed. -/
def State.onCfl (s : State) (f : Loader → Loader) : State := { s with cfl := f s.cfl }
/-- The state with its Accounting changed. -/
def State.onAcc (s : State) (f : Accounting → Accounting) : State := { s with acc := f s.acc }

/-! ## Counters (R168) -/

/-- The place of a kind among the twelve. -/
def kindIndex : Kind → Nat
  | .recall => 0 | .coverAsk => 1 | .coverGrant => 2 | .coverDeny => 3 | .resume => 4 | .beacon => 5
  | .window => 6 | .flags => 7 | .profile => 8 | .restart => 9 | .askStatus => 10 | .status => 11

/-- The place of a deny reason among the eight. -/
def reasonIndex : DenyReason → Nat
  | .sector => 0 | .role => 1 | .clash => 2 | .blind => 3 | .closed => 4 | .notAwake => 5 | .full => 6 | .noRoom => 7

/-- The place of a removal cause among the seven. -/
def causeIndex : RemovalCause → Nat
  | .resumed => 0 | .seenAwake => 1 | .replaced => 2 | .lapsed => 3 | .recallFailed => 4 | .leanerLost => 5
  | .restart => 6

/-- The place of a wake cause among the six. -/
def wakeIndex : WakeCause → Nat
  | .recall => 0 | .close => 1 | .rouse => 2 | .orphan => 3 | .settle => 4 | .clash => 5

/-- Where a counter is held. -/
def counterIndex : Counter → Nat
  | .sent k => kindIndex k
  | .arrivals k => 12 + kindIndex k
  | .abandonDiscards k => 24 + kindIndex k
  | .queueDiscards k => 36 + kindIndex k
  | .contentionLosses => 48 | .abandons => 49 | .statusReplaced => 50 | .framingErrors => 51 | .badChecks => 52
  | .malformedFrames => 53 | .unknownKind => 54 | .maintenanceFromCarrier => 55 | .clashFrames => 56
  | .validSamples => 57 | .linkBadRecords => 58 | .unrecognizedRecords => 59 | .repliesSent => 60
  | .repliesDropped => 61 | .linkLosses => 62 | .linkReturns => 63 | .carrierFaults => 64
  | .setAside => 65
  | .malformedBeacons => 66 | .otherSectorRemovals => 67 | .evictions => 68 | .ageRemovals => 69 | .fullViewDrops => 70
  | .granted => 71
  | .removed c => 72 + causeIndex c
  | .asksReceived => 79 | .asksUnanswered => 80 | .unmatchedResumes => 81
  | .overloadRecalls => 82 | .continuousRecalls => 83 | .recallsSent => 84
  | .deniesSent r => 85 + reasonIndex r
  | .deniesReceived r => 93 + reasonIndex r
  | .asksSent => 101 | .grantsReceived => 102 | .misses => 103 | .askWaitExpiries => 104 | .abandonedAsks => 105
  | .drainFailures => 106 | .lateGrants => 107 | .recallsReceived => 108 | .recallsAnswered => 109
  | .wakes c => 110 + wakeIndex c
  | .orphanWakes => 116 | .unsettledRaisings => 117
  | .restsEntered => 118 | .deepEntries => 119 | .deepDecisions => 120 | .dozeBeacons => 121
  | .windowsTaken => 122 | .profilesTaken => 123 | .flagsTaken => 124 | .maskedOut => 125 | .malformedProfiles => 126
  | .windowOpenings => 127 | .closingsByNotice => 128 | .closingsByExpiry => 129 | .profileChanges => 130
  | .unrecognizedStatus => 131
  | .readsAbsent => 132 | .readsTimedOut => 133 | .fallbackLoads => 134 | .loadingExits => 135 | .lineRestarts => 136

/-- Every counter has its place. -/
theorem counterIndex_lt (c : Counter) : counterIndex c < Config.counterTotal := by
  cases c with
  | sent k => cases k <;> decide
  | arrivals k => cases k <;> decide
  | abandonDiscards k => cases k <;> decide
  | queueDiscards k => cases k <;> decide
  | removed k => cases k <;> decide
  | deniesSent k => cases k <;> decide
  | deniesReceived k => cases k <;> decide
  | wakes k => cases k <;> decide
  | _ => decide

/-- The value of a counter. -/
def Accounting.count (a : Accounting) (c : Counter) : Nat := a.counts[counterIndex c]'(counterIndex_lt c)

/-- The counters with one of them written. -/
def Accounting.setCount (a : Accounting) (c : Counter) (n : Nat) : Accounting :=
  { a with counts := a.counts.set (counterIndex c) n (counterIndex_lt c) }

/-- The value of a counter of the device. -/
def State.count (s : State) (c : Counter) : Nat := s.acc.count c

/-- Accounting counts one event: the counter is raised by 1 and stops at 65535 (R168). -/
def State.bump (c : Counter) (s : State) : State :=
  s.onAcc fun a => a.setCount c (saturatingSucc Config.counterLimit (a.count c))

/-! ## Time (00, Time) -/

/-- Milliseconds added to a seconds counter: whole seconds to the counter, the rest to the remainder (R169). -/
def SecondsCounter.add (c : SecondsCounter) (millis : Nat) : SecondsCounter :=
  { seconds := min Config.secondsLimit (c.seconds + (c.remainder + millis) / 1000)
    remainder := (c.remainder + millis) % 1000 }

/-- A seconds counter over a time in which its condition holds or does not (R169). -/
def SecondsCounter.over (c : SecondsCounter) (condition : Bool) (millis : Nat) : SecondsCounter :=
  if condition then c.add millis else c

/-- The rest clock over a time: it measures while it runs, and stops at its largest value (R110). -/
def RestClock.over (k : RestClock) (t : Micros) : RestClock :=
  match k.mode with
  | .running => { k with measured := min (Config.secondsLimit * second) (k.measured + t) }
  | .frozen | .stopped => k

/-- What the rest clock reads: whole seconds (R110). -/
def RestClock.seconds (k : RestClock) : Nat := k.measured / second

/-- Time passes: the device clock goes on, the rest clock and the seconds counters measure it (R110, R169). Timers are
expiries on the clock, so nothing of theirs changes. -/
def State.elapse (t : Micros) (s : State) : State :=
  let millis := Micros.inMillis (s.clock + t) - Micros.inMillis s.clock
  let phase := s.rsq.phase
  { s with
    clock := s.clock + t
    rsq := { s.rsq with restClock := s.rsq.restClock.over t }
    acc :=
      { s.acc with
        standby := s.acc.standby.over (phase == .standby) millis
        deep := s.acc.deep.over (phase == .deep) millis
        draining := s.acc.draining.over (phase == .draining) millis
        returning := s.acc.returning.over (phase == .waking || phase == .warming) millis
        windowOpen := s.acc.windowOpen.over s.plu.windowOpen millis } }

/-- A timer has expired: it runs, and the clock has reached its expiry. -/
def Timer.due (t : Timer) (now : Micros) : Bool :=
  match t with
  | some expiry => expiry ≤ now
  | none => false

/-- The time a timer has left, 0 when it is stopped (R171). -/
def Timer.remaining (t : Timer) (now : Micros) : Micros :=
  match t with
  | some expiry => expiry - now
  | none => 0

/-- A command as one whole operation: the time since the last command passes, then its work is done. A device held in
reset does none (R166, log 8). -/
def State.event (s : State) (after : Micros) (work : State → State) : Result :=
  .next (if (s.elapse after).held then s.elapse after else work (s.elapse after))

/-- The work of an expiry command: done only when the timer is due; an expiry that is not changes nothing (log 2). -/
def State.expiring (timer : State → Timer) (work : State → State) (s : State) : State :=
  if (timer s).due s.clock then work s else s

/-! ## Configuration in force (R159) -/

/-- The own station number. -/
def State.own (s : State) : Nat := s.cfl.station.toNat

/-- The configuration in force. -/
def State.image (s : State) : Image := s.cfl.image

/-- The profile record of a number (R125). -/
def Profiles.get (p : Profiles) (n : BitVec 2) : Profile :=
  match n.toNat with
  | 0 => p.p0
  | 1 => p.p1
  | 2 => p.p2
  | _ => p.p3

/-- The active profile (R126). -/
def State.profile (s : State) : Profile := Profiles.get s.image.profiles s.plu.activeProfile

/-- The beacon period T_b: 1, 2, 4 or 8 s by its code (R147). -/
def State.beaconPeriod (s : State) : Micros := 2 ^ s.image.periodCode.toNat * second

/-! ## Reading the view (R36, R45, R47) -/

/-- FRESH: age 2 or less (R45). -/
def viewFresh (e : ViewEntry) : Bool := e.age ≤ 2

/-- The entries of the view. -/
def PeerView.entries (v : PeerView) : List ViewEntry := v.slots.filterMap id

/-- The entry of a station. -/
def PeerView.find (v : PeerView) (station : Nat) : Option ViewEntry := v.entries.find? (·.station == station)

/-- A slot is free. -/
def PeerView.hasFree (v : PeerView) : Bool := v.slots.any (·.isNone)

/-- How many entries are FRESH and AWAKE, of any role (R116). -/
def PeerView.freshAwake (v : PeerView) : Nat :=
  (v.entries.filter fun e => viewFresh e && e.phase == .awake).length

/-- A pledge is held for a leaner. -/
def CoverUnit.holds (c : CoverUnit) (leaner : Nat) : Bool := c.book.any (·.leaner == leaner)

/-- The entry of a station is pinned: the own cover, or a leaner of the own book (R47). -/
def State.pinned (s : State) (station : Nat) : Bool :=
  s.rsq.cover == some station || s.cvu.holds station

/-! ## Reading the sequencer and the policy -/

/-- The order the phase and its further state imply (R79). -/
def RestSequencer.order (q : RestSequencer) : Order :=
  match q.phase with
  | .loading | .awake | .seeking | .waking | .warming | .mute => .run
  | .draining =>
    match q.drainStep with
    | .drainOrdered => .drain
    | .restOrdered => .rest
  | .standby => if q.darkGiven then .dark else .rest
  | .deep => .dark

/-- The remaining minutes of the window: the time left in whole minutes, rounded up, 0 while CLOSED (R120). -/
def State.remainingMinutes (s : State) : Nat := ceilDiv (s.plu.windowTimer.remaining s.clock) minute

/-- The sector mask of a notice includes the own sector (R121). -/
def State.inMask (s : State) (mask : BitVec 8) : Bool := mask.getLsbD s.image.sector.toNat

end Sys2Proof.Machine
end

