-- ==== Sys2Proof/WellFormed.lean ====
section
/-! DEFINITION. When a command is one that can stand on the device's interfaces. The meanings are total and take an
ill-formed command too; nothing rests on this check but statements that name it. -/

namespace Sys2Proof

/-- The number of a maintenance station: 60 to 63 (00, Placement in the Cabinet). -/
def fromMaintenance (sender : BitVec 6) : Bool := 60 ≤ sender.toNat

/-- The two list counts of a BEACON are four-bit fields (R175). -/
def BeaconFields.wellFormed (b : BeaconFields) : Bool := b.covering.length ≤ 15 && b.resting.length ≤ 15

/-- The payload length of a good frame is at most 48 (R136, R144). -/
def Frame.wellFormed (f : Frame) : Bool := f.payload.length ≤ 48

/-- A record read complete has its 71 bytes (R161), a beacon and a frame keep their lengths, and an arrival of a
maintenance kind comes from a maintenance station (R146 test 5). -/
def Instr.wellFormed : Instr → Bool
  | .powerOn _ _ => true
  | .readComplete _ record => record.length == Config.recordLength
  | .readAbsent _ => true
  | .readTimerExpiry _ => true
  | .validSample _ _ _ _ => true
  | .linkBadRecord _ => true
  | .unrecognizedRecord _ => true
  | .replySent _ => true
  | .linkWatchExpiry _ => true
  | .transmissionAttempt _ => true
  | .contentionLoss _ => true
  | .abandon _ => true
  | .attemptComplete _ => true
  | .frameDiscarded _ _ => true
  | .clashFrame _ => true
  | .frameIgnored _ frame => frame.wellFormed
  | .beacon _ _ _ fields => fields.wellFormed
  | .coverAsk _ _ _ _ _ => true
  | .resume _ _ _ => true
  | .coverGrant _ _ _ _ => true
  | .coverDeny _ _ _ _ _ => true
  | .recall _ _ _ => true
  | .windowOpen _ sender _ _ => fromMaintenance sender
  | .windowClose _ sender _ => fromMaintenance sender
  | .windowTimerExpiry _ => true
  | .flags _ sender _ _ => fromMaintenance sender
  | .profile _ sender _ _ => fromMaintenance sender
  | .askStatus _ sender _ _ => fromMaintenance sender
  | .restart _ sender _ => fromMaintenance sender
  | .statusArrival _ _ => true
  | .ownBeaconTime _ => true
  | .askWaitExpiry _ => true
  | .backoffExpiry _ => true
  | .drainTimerExpiry _ => true
  | .recallTimerExpiry _ => true
  | .recallGuardExpiry _ => true
  | .restGuardExpiry _ => true
  | .heldInReset _ => true
  | .lineIdle _ => true

end Sys2Proof
end

