-- ==== Sys2Proof/Machine/Operands.lean ====
section
/-! DEFINITION. Reading the operands of commands: codes (R173), the field checks of a beacon (R39, R176), the duration of a
window (R121), the cyclic check (R177) and the configuration record with its clamps (R126, R162, R163, 13.5). -/

namespace Sys2Proof.Machine

/-! ## Codes (R173) -/

/-- The code of a phase. -/
def phaseCode : Phase → Nat
  | .awake => 0 | .seeking => 1 | .draining => 2 | .standby => 3 | .deep => 4
  | .waking => 5 | .warming => 6 | .loading => 7 | .mute => 8

/-- The phase a beacon's code shows; 7 is none (R175). -/
def beaconPhase (code : BitVec 3) : Option Phase :=
  match code.toNat with
  | 0 => some .awake
  | 1 => some .seeking
  | 2 => some .draining
  | 3 => some .standby
  | 4 => some .deep
  | 5 => some .waking
  | 6 => some .warming
  | _ => none

/-- The code of a role. -/
def roleCode : Role → Nat
  | .anchor => 0 | .capacity => 1 | .stay => 2

/-- The role of a code; any other code is none. -/
def roleOf (code : Nat) : Option Role :=
  match code with
  | 0 => some .anchor
  | 1 => some .capacity
  | 2 => some .stay
  | _ => none

/-- The code of an order. -/
def orderCode : Order → Nat
  | .run => 0 | .drain => 1 | .rest => 2 | .dark => 3

/-- The carrier condition of a code; 7 is none (R153). -/
def conditionOf (code : BitVec 3) : Option CarrierCondition :=
  match code.toNat with
  | 0 => some .onAir
  | 1 => some .draining
  | 2 => some .drained
  | 3 => some .resting
  | 4 => some .dark
  | 5 => some .warming
  | 6 => some .fault
  | _ => none

/-- The code of a deny reason: its place in the order of testing (R175). -/
def reasonCode (r : DenyReason) : Nat := reasonIndex r + 1

/-- The deny reason of a byte; outside 1 to 8 there is none (R176). -/
def reasonOf (code : Byte) : Option DenyReason :=
  match code.toNat with
  | 1 => some .sector
  | 2 => some .role
  | 3 => some .clash
  | 4 => some .blind
  | 5 => some .closed
  | 6 => some .notAwake
  | 7 => some .full
  | 8 => some .noRoom
  | _ => none

/-! ## A beacon's fields (R39, R176) -/

/-- The cover a byte names: 0xFF is an absent cover (R176). -/
def coverOf (cover : Byte) : Option Nat := if cover = 0xFF then none else some cover.toNat

/-- A list of station numbers as bytes. -/
def numbers (l : List Byte) : List Nat := l.map (·.toNat)

/-- The cover passes: absent, or 0 to 59 and not the sender (R39). -/
def coverPasses (sender : Nat) (cover : Option Nat) : Bool :=
  match cover with
  | none => true
  | some c => c ≤ 59 && c != sender

/-- A list passes: no item exceeds 59 and none is the sender (R39). -/
def itemsPass (sender : Nat) (l : List Nat) : Bool := l.all fun n => n ≤ 59 && n != sender

/-- The checks of R39 on the fields that are not codes. -/
def fieldsPass (sender : Nat) (b : BeaconFields) : Bool :=
  (1 ≤ b.capacity.toNat && b.capacity.toNat ≤ 4095) &&
    (b.covering.length ≤ 6 && noneTwice (numbers b.covering)) &&
    (b.resting.length ≤ 15 && strictlyAscending (numbers b.resting)) &&
    coverPasses sender (coverOf b.cover) &&
    itemsPass sender (numbers b.covering) && itemsPass sender (numbers b.resting)

/-- The fields of a beacon that passes every check of R39, none of a malformed one. Level and room are taken as they stand. -/
def readBeacon (sender : Nat) (b : BeaconFields) : Option Heard :=
  match beaconPhase b.phase, roleOf b.role.toNat with
  | some phase, some role =>
    if fieldsPass sender b then
      some
        { station := sender, role := role, phase := phase, capacity := b.capacity.toNat, level := b.level.toNat
          room := b.room.toNat, cover := coverOf b.cover, covering := numbers b.covering
          resting := numbers b.resting, profile := b.profile, clash := b.clash }
    else none
  | _, _ => none

/-! ## The window's duration (R121) -/

/-- The duration as taken: 0 as 1, above 720 as 720, in minutes. -/
def takenMinutes (duration : BitVec 16) : Nat := max 1 (min 720 duration.toNat)

/-! ## The check (R177) -/

/-- One shift of the register, combined with 0x1021 when the bit shifted out was 1. -/
def crcShift (r : BitVec 16) : BitVec 16 := if r.msb then (r <<< 1) ^^^ 0x1021 else r <<< 1

/-- One covered byte: combined into the upper eight bits, then eight shifts. -/
def crcByte (r : BitVec 16) (b : Byte) : BitVec 16 :=
  crcShift (crcShift (crcShift (crcShift (crcShift (crcShift (crcShift (crcShift (r ^^^ (b ++ (0 : BitVec 8)))))))))) 

/-- The check of a run of bytes, the register starting at 0xFFFF. -/
def crc (bytes : List Byte) : BitVec 16 := bytes.foldl crcByte 0xFFFF

/-- A number as two bytes, the most significant first (R173). -/
def twoBytes (n : BitVec 16) : List Byte := [n.extractLsb' 8 8, n.extractLsb' 0 8]

/-- Bytes followed by their check, high byte first. -/
def withCheck (bytes : List Byte) : List Byte := bytes ++ twoBytes (crc bytes)

/-- The bytes before a check of two bytes that matches them; none when it does not match. -/
def checkedBody (bytes : List Byte) : Option (List Byte) :=
  let body := bytes.take (bytes.length - 2)
  if 2 ≤ bytes.length ∧ bytes.drop (bytes.length - 2) = twoBytes (crc body) then some body else none

/-! ## The configuration record (13.5, R126, R162) -/

/-- One byte of a record, as a number. -/
def byteAt (record : List Byte) (i : Nat) : Nat := (record.getD i 0).toNat

/-- Two bytes of a record, most significant first. -/
def wordAt (record : List Byte) (i : Nat) : Nat := 256 * byteAt record i + byteAt record (i + 1)

/-- A value clamped into a range. -/
def clampTo (low high n : Nat) : Nat := max low (min high n)

/-- A term byte: bit 7 the sense, bits 3 to 0 the code (13.5). -/
def termAt (record : List Byte) (i : Nat) : Term :=
  { code := (record.getD i 0).extractLsb' 0 4, inverted := (record.getD i 0).getLsbD 7 }

/-- A profile as written in the record, before its clamps; `at` is its first byte (13.5). -/
def rawProfile (record : List Byte) (at_ : Nat) : Profile where
  quietLimit := byteAt record at_
  userLimit := byteAt record (at_ + 1)
  quietDwell := wordAt record (at_ + 2)
  margin := byteAt record (at_ + 4)
  ceiling := byteAt record (at_ + 5)
  wakeLevel := byteAt record (at_ + 6)
  shift := byteAt record (at_ + 7)
  deepDwell := byteAt record (at_ + 8)
  recallGuard := wordAt record (at_ + 9)
  restGuard := byteAt record (at_ + 11)
  awakeFloor := byteAt record (at_ + 12)
  hold := termAt record (at_ + 13)
  rouse := termAt record (at_ + 14)

/-- A profile clamped field by field, the wake level after the ceiling (R126). -/
def clampProfile (p : Profile) : Profile :=
  let ceiling := clampTo 40 93 p.ceiling
  { p with
    quietLimit := clampTo 0 50 p.quietLimit
    quietDwell := clampTo 10 3600 p.quietDwell
    margin := clampTo 0 100 p.margin
    ceiling := ceiling
    wakeLevel := clampTo (ceiling + 5) 98 p.wakeLevel
    shift := clampTo 2 6 p.shift
    deepDwell := clampTo 0 240 p.deepDwell
    recallGuard := clampTo 0 600 p.recallGuard
    restGuard := clampTo 0 120 p.restGuard
    awakeFloor := clampTo 1 4 p.awakeFloor }

/-- The record's image as written, before its clamps, with a role already read (13.5). -/
def rawImage (record : List Byte) (role : Role) : Image where
  sector := BitVec.ofNat 3 (byteAt record 0)
  role := role
  capacity := wordAt record 2 % 4096
  periodCode := BitVec.ofNat 2 (wordAt record 2 / 4096)
  standbyAllowance := byteAt record 4
  deepAllowance := wordAt record 5
  drainLimit := wordAt record 7
  profiles :=
    { p0 := rawProfile record 9, p1 := rawProfile record 24, p2 := rawProfile record 39, p3 := rawProfile record 54 }

/-- The image clamped (R126, R162). -/
def clampImage (m : Image) : Image :=
  { m with
    standbyAllowance := clampTo 1 30 m.standbyAllowance
    deepAllowance := clampTo 30 900 m.deepAllowance
    drainLimit := clampTo 30 600 m.drainLimit
    profiles :=
      { p0 := clampProfile m.profiles.p0, p1 := clampProfile m.profiles.p1
        p2 := clampProfile m.profiles.p2, p3 := clampProfile m.profiles.p3 } }

/-- 1 for a field a clamp has changed. -/
def changed (a b : Nat) : Nat := if a = b then 0 else 1

/-- How many fields of a profile its clamps changed (R162). -/
def profileClamps (p q : Profile) : Nat :=
  changed p.quietLimit q.quietLimit + changed p.quietDwell q.quietDwell + changed p.margin q.margin +
    changed p.ceiling q.ceiling + changed p.wakeLevel q.wakeLevel + changed p.shift q.shift +
    changed p.deepDwell q.deepDwell + changed p.recallGuard q.recallGuard + changed p.restGuard q.restGuard +
    changed p.awakeFloor q.awakeFloor

/-- The clamp count of an image (R162). -/
def imageClamps (m n : Image) : Nat :=
  changed m.standbyAllowance n.standbyAllowance + changed m.deepAllowance n.deepAllowance +
    changed m.drainLimit n.drainLimit + profileClamps m.profiles.p0 n.profiles.p0 +
    profileClamps m.profiles.p1 n.profiles.p1 + profileClamps m.profiles.p2 n.profiles.p2 +
    profileClamps m.profiles.p3 n.profiles.p3

/-- The result of a load: the image that takes force, the config-bad marker and the clamp count (R162, R163). -/
structure Loaded where
  image : Image
  configBad : Bool
  clampCount : Nat
  deriving DecidableEq, Repr

/-- The fallback with the sector it takes (R163). -/
def fallback (sector : BitVec 3) : Loaded :=
  { image := Config.fallbackImage sector, configBad := true, clampCount := 0 }

/-- A record whose check matches: bad by one of the three config-bad fields, or clamped (R162). The fallback keeps the
record's sector when it is 0 to 7 (R163). -/
def loadBody (record : List Byte) : Loaded :=
  if 7 < byteAt record 0 then fallback 0
  else
    match roleOf (byteAt record 1) with
    | none => fallback (BitVec.ofNat 3 (byteAt record 0))
    | some role =>
      let raw := rawImage record role
      if raw.capacity = 0 then fallback (BitVec.ofNat 3 (byteAt record 0))
      else { image := clampImage raw, configBad := false, clampCount := imageClamps raw (clampImage raw) }

/-- A record read complete, checked and clamped or replaced by the fallback (R162, R163). -/
def loadRecord (record : List Byte) : Loaded :=
  if record.length = Config.recordLength then
    match checkedBody record with
    | some body => loadBody body
    | none => fallback 0
  else fallback 0

end Sys2Proof.Machine
end

