-- ==== Sys2Proof/Machine/Estimator.lean ====
section
/-! DEFINITION. The Load Estimator's own work: what it hands out (R2), the sample guard (R3), a used sample (R5 to R8) and the
quiet test (R10). -/

namespace Sys2Proof.Machine

/-- S as handed out: 0 while UNSEEDED, the held S while BLIND (R2). -/
def LoadEstimator.handedDemand (e : LoadEstimator) : Nat :=
  match e.state with
  | .unseeded => 0
  | .tracking | .blind => e.demand.getD 0

/-- The blind indication: clear only while TRACKING (R2). -/
def LoadEstimator.isBlind (e : LoadEstimator) : Bool := e.state != .tracking

/-- The working level: L while TRACKING, C otherwise (R2). -/
def State.workingLevel (s : State) : Nat :=
  match s.lde.state with
  | .tracking => s.lde.level.getD 0
  | .unseeded | .blind => s.image.capacity

/-- The sample guard: used when no sample was used before, or 500 ms or more after the last used one (R3, log 11). -/
def State.guardPasses (s : State) : Bool :=
  match s.lde.lastUsed with
  | none => true
  | some last => last + 500 ≤ Micros.inMillis s.clock

/-- The utilisation as kept: 1001 to 1023 taken as 1000 (R5). -/
def clampUtilisation (u : BitVec 10) : Nat := min 1000 u.toNat

/-- The instant demand D = ⌈u × C / 1000⌉ (R5). -/
def instantDemand (u capacity : Nat) : Nat := ceilDiv (u * capacity) 1000

/-- The level L = ⌈S / 16⌉ (R8). -/
def levelOf (demand : Nat) : Nat := ceilDiv demand 16

/-- S after a used sample of demand D: seeded in UNSEEDED and BLIND, one smoothing step in TRACKING (R6, R7). -/
def LoadEstimator.nextDemand (e : LoadEstimator) (d shift : Nat) : Nat :=
  match e.state with
  | .unseeded | .blind => 16 * d
  | .tracking => smoothed (e.demand.getD 0) (16 * d) shift

/-- The quiet threshold ⌊C × Q / 100⌋ (R10). -/
def State.quietThreshold (s : State) : Nat := s.image.capacity * s.profile.quietLimit / 100

/-- The quiet counter after the quiet test of a level and a user count (R10). -/
def State.quietAfter (s : State) (level users : Nat) : Nat :=
  if level ≤ s.quietThreshold ∧ users ≤ s.profile.userLimit then saturatingSucc Config.counterLimit s.lde.quiet else 0

/-- Stage 1 of a used sample: the estimator's own work (R5 to R10, R12). The quiet test is applied to a sample that arrived
in AWAKE (log 13). -/
def State.useSample (u : BitVec 10) (n : BitVec 11) (arrivedAwake : Bool) (s : State) : State :=
  let utilisation := clampUtilisation u
  let d := instantDemand utilisation s.image.capacity
  let demand := s.lde.nextDemand d s.profile.shift
  let quiet := if arrivedAwake then s.quietAfter (levelOf demand) n.toNat else s.lde.quiet
  s.onLde fun e =>
    { e with
      state := .tracking, demand := some demand, level := some (levelOf demand)
      lastUtilisation := some utilisation, lastUsers := some n.toNat, lastDemand := some d
      quiet := quiet, lastUsed := some (Micros.inMillis s.clock) }

/-- The quiet counter zeroed by an event of R11. -/
def State.zeroQuiet (s : State) : State := s.onLde fun e => { e with quiet := 0 }

end Sys2Proof.Machine
end

