-- ==== Sys2Proof/Machine/Flags.lean ====
section
/-! DEFINITION. The condition set, the hold and rouse terms, and forming them (R130 to R133). A rouse term that turns true is
a wake cause; that report is in Machine/Wake.lean. -/

namespace Sys2Proof.Machine

/-- Site flag n, the condition of code n (R130). -/
def flagValue (f : SiteFlags) (n : Nat) : Bool :=
  match n with
  | 0 => f.sf0 | 1 => f.sf1 | 2 => f.sf2 | 3 => f.sf3
  | 4 => f.sf4 | 5 => f.sf5 | 6 => f.sf6 | _ => f.sf7

/-- A flag after an action (R129). -/
def flagAfter (action : FlagAction) (value : Bool) : Bool :=
  match action with
  | .keep => value
  | .set => true
  | .clear => false
  | .invert => !value

/-- All eight flags after a FLAGS notice (R129). -/
def flagsAfter (a : FlagActions) (f : SiteFlags) : SiteFlags where
  sf0 := flagAfter a.sf0 f.sf0
  sf1 := flagAfter a.sf1 f.sf1
  sf2 := flagAfter a.sf2 f.sf2
  sf3 := flagAfter a.sf3 f.sf3
  sf4 := flagAfter a.sf4 f.sf4
  sf5 := flagAfter a.sf5 f.sf5
  sf6 := flagAfter a.sf6 f.sf6
  sf7 := flagAfter a.sf7 f.sf7

/-- The condition a code names, read from its supplier (R130). -/
def State.condition (s : State) (code : BitVec 4) : Bool :=
  match code.toNat with
  | 8 => s.lde.linkLost
  | 9 => s.clp.carrierFault
  | 10 => s.rsq.noCover
  | 11 => s.rsq.unsettled
  | 12 => s.rsq.recentRecall
  | 13 => s.lif.clash
  | 14 => s.pvt.isolated
  | 15 => true
  | n => flagValue s.plu.flags n

/-- A term tests true when its condition, taken in its sense, is true (R132). -/
def State.testTerm (s : State) (t : Term) : Bool := s.condition t.code != t.inverted

/-- A changed hold term freezes a running rest clock or lets a frozen one run on (R110, R133). -/
def RestClock.holdReport (k : RestClock) (hold : Bool) : RestClock :=
  match k.mode, hold with
  | .running, true => { k with mode := .frozen }
  | .frozen, false => { k with mode := .running }
  | _, _ => k

/-- The term values formed afresh and kept, with a change of the hold term reported to the rest clock. In LOADING both
values stay false and no report is made (R131, R132, R133). -/
def State.formValues (s : State) : State :=
  if s.rsq.phase = .loading then s
  else
    let hold := s.testTerm s.profile.hold
    let rouse := s.testTerm s.profile.rouse
    let kept := s.onPlu fun p => { p with hold := hold, rouse := rouse }
    if hold = s.plu.hold then kept
    else kept.onRsq fun q => { q with restClock := q.restClock.holdReport hold }

end Sys2Proof.Machine
end

