-- ==== Sys2Proof/Machine/Line.lean ====
section
/-! DEFINITION. The outbound queue of the Line Interface: joining, the full queue, and the attempt in progress (R137 to
R143). -/

namespace Sys2Proof.Machine

/-- The kind of a queued notice. -/
def Notice.kind : Notice → Kind
  | .recall _ _ => .recall
  | .coverAsk _ _ _ => .coverAsk
  | .coverGrant _ _ _ => .coverGrant
  | .coverDeny _ _ _ _ => .coverDeny
  | .resume _ _ => .resume
  | .beacon => .beacon
  | .status _ _ => .status

/-- The fixed priority of a kind; a lower number is more urgent (R136). -/
def kindPriority : Kind → Nat
  | .recall => 0
  | .coverAsk | .coverGrant | .coverDeny | .resume => 1
  | .window | .flags | .profile | .restart | .askStatus | .status => 2
  | .beacon => 3

/-- The priority of a queued notice. -/
def Notice.priority (n : Notice) : Nat := kindPriority n.kind

/-- The priority of an entry. -/
def Entry.priority (e : Entry) : Nat := e.notice.priority

/-- A notice as it joins: abandon count 0, no attempt (R142). -/
def Entry.fresh (n : Notice) : Entry := { notice := n, abandons := 0, attempt := none }

/-- The entry is in the middle of an attempt. -/
def Entry.driven (e : Entry) : Bool := e.attempt.isSome

/-- An entry joins behind the last entry of its own priority (R141, R142). -/
def joinQueue (e : Entry) : List Entry → List Entry
  | [] => [e]
  | f :: rest => if f.priority ≤ e.priority then f :: joinQueue e rest else e :: f :: rest

/-- The last entry that passes a test is taken out. -/
def dropLastWhere (test : Entry → Bool) (q : List Entry) : List Entry :=
  (q.reverse.eraseP test).reverse

/-- An entry a new notice may remove from a full queue: outranked, and not in the middle of an attempt (R143). -/
def displaceable (n : Notice) (e : Entry) : Bool := n.priority < e.priority && !e.driven

/-- The entry a new notice removes from a full queue: the newest of the largest priority number among those it outranks.
The queue is in sending order, so it is the last of them (R141, R143). -/
def displaced (n : Notice) (q : List Entry) : Option Entry := q.reverse.find? (displaceable n)

/-- A notice that joins, or is taken by the full-queue rule (R142, R143). -/
def State.enqueue (n : Notice) (s : State) : State :=
  if s.lif.queue.length < Config.queueLimit then s.onLif fun l => { l with queue := joinQueue (.fresh n) l.queue }
  else
    match displaced n s.lif.queue with
    | some e =>
      (s.onLif fun l => { l with queue := joinQueue (.fresh n) (dropLastWhere (displaceable n) l.queue) }).bump
        (.queueDiscards e.notice.kind)
    | none => s.bump (.queueDiscards n.kind)

/-- A queued STATUS with no attempt in progress (R142). -/
def replaceable (e : Entry) : Bool := e.notice.kind == .status && !e.driven

/-- A block offers a notice to the Line Interface (R142). In MUTE it is dropped without count, and in LOADING none is
taken (R149). Of two queued STATUS entries with no attempt in progress, a further STATUS replaces the first in sending order
(DESIGN CHOICE, log 26). -/
def State.offer (n : Notice) (s : State) : State :=
  if s.rsq.phase = .mute ∨ s.rsq.phase = .loading then s
  else
    match n.kind with
    | .beacon => if s.lif.queue.any (·.notice.kind == .beacon) then s else s.enqueue n
    | .status =>
      if s.lif.queue.any replaceable then
        (s.onLif fun l => { l with queue := joinQueue (.fresh n) (l.queue.eraseP replaceable) }).bump .statusReplaced
      else s.enqueue n
    | _ => s.enqueue n

/-- An attempt of the station's own is in progress (R141). -/
def LineInterface.attempting (l : LineInterface) : Bool := l.queue.any Entry.driven

/-- The entry of the attempt in progress. -/
def LineInterface.drivenEntry (l : LineInterface) : Option Entry := l.queue.find? Entry.driven

/-- The head of the queue taken for an attempt, a beacon with the contents composed now (R137, R148). -/
def startAttempt (beacon : BeaconFields) : List Entry → List Entry
  | [] => []
  | e :: rest =>
    { e with attempt := some (if e.notice = .beacon then .beacon beacon else .asQueued) } :: rest

/-- The attempt in progress given up, its entry left where it stood (R138). -/
def endAttempt (q : List Entry) : List Entry := q.map fun e => { e with attempt := none }

/-- The attempt in progress abandoned: its entry's count raised (R139). -/
def abandonAttempt (q : List Entry) : List Entry :=
  q.map fun e => if e.driven then { e with attempt := none, abandons := e.abandons + 1 } else e

/-- The entry of the attempt in progress leaves the queue (R139, R140). -/
def removeDriven (q : List Entry) : List Entry := q.eraseP Entry.driven

/-- A frame on the line may reach this station: not in LOADING, the receiver has seen the line idle or is in a frame, and
no frame of the station's own is being driven (R144, log 4). -/
def State.canReceive (s : State) : Bool :=
  s.rsq.phase != .loading && s.lif.receiver != .waiting && !s.lif.attempting

/-- A received frame as it ends: the receiver then waits for an idle line, and the frame's work is done (R144). -/
def State.receive (work : State → State) (s : State) : State :=
  if s.canReceive then work (s.onLif fun l => { l with receiver := .waiting }) else s

end Sys2Proof.Machine
end

