-- ==== Sys2Proof/Machine/Wake.lean ====
section
/-! DEFINITION. Wake causes and what a wake does (R96 to R99), the full forming of the terms with its rouse report (R134),
and the changes of the conditions the Policy Unit tests (R130). -/

namespace Sys2Proof.Machine

/-- Work done only in the case given. -/
def doWhen (b : Bool) (work : State → State) (s : State) : State := if b then work s else s

/-- A RESUME with the current tag is queued to the recorded cover, when there is one (R93, R98, R99). -/
def State.resumeToCover (s : State) : State :=
  match s.rsq.cover with
  | some cover => s.offer (.resume cover s.rsq.tag)
  | none => s

/-- RECENT_RECALL is set and the rest guard starts for the rest guard of the active profile; a rest guard of 0 sets
nothing (R98, R99). The phase is AWAKE here, so a rouse term that turns true has no effect. -/
def State.startRestGuard (s : State) : State :=
  if s.profile.restGuard = 0 then s
  else
    let guarded := s.onRsq fun q => { q with restGuard := some (s.clock + s.profile.restGuard * minute) }
    if s.rsq.recentRecall then guarded else (guarded.onRsq fun q => { q with recentRecall := true }).formValues

/-- A wake in DRAINING aborts the drain (R98). -/
def State.abortDrain (cause : WakeCause) (s : State) : State :=
  let resumed := (s.onRsq fun q => { q with drainTimer := none, wakeCause := some cause }).resumeToCover
  let awake := resumed.onRsq fun q => { q with cover := none, phase := .awake }
  if cause = .recall then awake.startRestGuard else awake

/-- A wake in STANDBY or DEEP: WAKING, or WARMING from DEEP and after a DARK order; the rest clock stops, and settlement
ends with STANDBY (R97, R109, R111). The new phase takes no wake cause, so UNSETTLED turning false only re-forms values. -/
def State.leaveRest (cause : WakeCause) (s : State) : State :=
  let next := if s.rsq.phase = .standby ∧ s.rsq.darkGiven = false then Phase.waking else Phase.warming
  let left := s.onRsq fun q =>
    { q with
      phase := next, wakeCause := some cause, restClock := { q.restClock with mode := .stopped }
      settled := false, unsettled := false }
  if s.rsq.unsettled then left.formValues else left

/-- Accounting counts each wake under its cause, and each orphan wake (R96, R101). -/
def State.countWake (cause : WakeCause) (s : State) : State :=
  if cause = .orphan then (s.bump (.wakes cause)).bump .orphanWakes else s.bump (.wakes cause)

/-- A wake cause is taken in DRAINING, STANDBY and DEEP and ignored in every other phase (R96). -/
def State.wake (cause : WakeCause) (s : State) : State :=
  match s.rsq.phase with
  | .draining => (s.countWake cause).abortDrain cause
  | .standby | .deep => (s.countWake cause).leaveRest cause
  | .awake | .seeking | .waking | .warming | .loading | .mute => s

/-- The term values formed; a rouse term that turns from false to true is reported as wake cause ROUSE (R132, R134). -/
def State.formTerms (s : State) : State :=
  doWhen (!s.plu.rouse && s.formValues.plu.rouse) (State.wake .rouse) s.formValues

/-- A rouse term already true at the entry into a phase is a wake cause there (R96, R134). -/
def State.rouseAtEntry (s : State) : State := doWhen s.plu.rouse (State.wake .rouse) s

/-- A condition takes a value; a change is reported, and the terms are formed in the same event (R130, R132). -/
def State.setCondition (old new : Bool) (write : State → State) (s : State) : State :=
  if old = new then s else (write s).formTerms

/-- LINK_LOST (R13, R15). -/
def State.setLinkLost (b : Bool) (s : State) : State :=
  s.setCondition s.lde.linkLost b fun s => s.onLde fun e => { e with linkLost := b }

/-- CARRIER_FAULT, with each raising counted (R157). -/
def State.setCarrierFault (b : Bool) (s : State) : State :=
  s.setCondition s.clp.carrierFault b fun s =>
    doWhen b (State.bump .carrierFaults) (s.onClp fun c => { c with carrierFault := b })

/-- NO_COVER (R82). -/
def State.setNoCover (b : Bool) (s : State) : State :=
  s.setCondition s.rsq.noCover b fun s => s.onRsq fun q => { q with noCover := b }

/-- UNSETTLED, with each raising counted (R108). -/
def State.setUnsettled (b : Bool) (s : State) : State :=
  s.setCondition s.rsq.unsettled b fun s =>
    doWhen b (State.bump .unsettledRaisings) (s.onRsq fun q => { q with unsettled := b })

/-- The rest guard expires: RECENT_RECALL becomes false (R99). -/
def State.endRecentRecall (s : State) : State :=
  s.setCondition s.rsq.recentRecall false fun s => s.onRsq fun q => { q with recentRecall := false }

/-- ISOLATED formed from the view; in LOADING and MUTE it is held false (R53). -/
def State.formIsolated (s : State) : State :=
  let isolated := !(s.rsq.phase == .loading || s.rsq.phase == .mute) && !s.pvt.entries.any viewFresh
  s.setCondition s.pvt.isolated isolated fun s => s.onPvt fun v => { v with isolated := isolated }

end Sys2Proof.Machine
end

