-- ==== Sys2Proof/Machine/Cover.lean ====
section
/-! DEFINITION. The cover arithmetic (R19 to R28) and the Cover Unit: recalls, the end of a call, asks, leaner beacons, lapse
and overload (R57 to R75). -/

namespace Sys2Proof.Machine

/-! ## Cover arithmetic -/

/-- The ask amount A = ⌈S × (100 + m) / 1600⌉, clamped to 1 to 4095 (R19). -/
def askAmount (demand margin : Nat) : Nat := max 1 (min 4095 (ceilDiv (demand * (100 + margin)) 1600))

/-- The amount a cover takes from an ask: 0 taken as 1, above 4095 as 4095 (R20). -/
def takenAmount (amount : BitVec 16) : Nat := max 1 (min 4095 amount.toNat)

/-- The ceiling N = ⌊C × F / 100⌋ (R21). -/
def State.ceilingN (s : State) : Nat := s.image.capacity * s.profile.ceiling / 100

/-- The wake limit W = ⌊C × Wk / 100⌋ (R21). -/
def State.wakeLimitW (s : State) : Nat := s.image.capacity * s.profile.wakeLevel / 100

/-- The committed load K16 = S + the sum of the reserves, in sixteenths (R26). -/
def State.committed16 (s : State) : Nat := s.lde.handedDemand + (s.cvu.book.map (·.reserve)).sum

/-- The committed load K = ⌈K16 / 16⌉ (R26). -/
def State.committed (s : State) : Nat := ceilDiv s.committed16 16

/-- The room in its normal form, max(0, N − K) (R28). -/
def State.normalRoom (s : State) : Nat := s.ceilingN - s.committed

/-- The conditions that force the room to 0 (R28). -/
def State.roomForced (s : State) : Bool :=
  s.rsq.phase != .awake || s.image.role == .stay || s.lde.isBlind || s.lif.clash || !s.plu.windowOpen

/-- The advertised room (R28). -/
def State.room (s : State) : Nat := if s.roomForced then 0 else s.normalRoom

/-- Continuous-recall mode: the window closed, the cover blind, or CLASH (R70). -/
def State.continuousRecall (s : State) : Bool := !s.plu.windowOpen || s.lde.isBlind || s.lif.clash

/-- A reserve decayed by one used sample: R − ⌊R / 2^k⌋ (R24). -/
def decayedReserve (reserve shift : Nat) : Nat := reserve - reserve / 2 ^ shift

/-- The decay of a pledge: a RESTING or CALLED pledge's reserve falls, a GRANTED one's stays (R23, R24). -/
def decayPledge (shift : Nat) (p : Pledge) : Pledge :=
  match p.state with
  | .granted => p
  | .resting | .called => { p with reserve := decayedReserve p.reserve shift }

/-! ## Recalls -/

/-- A pledge is CALLED. -/
def CoverUnit.calling (c : CoverUnit) : Bool := c.book.any (·.state == .called)

/-- The CALLED pledge, of which there is at most one (R72). -/
def CoverUnit.called (c : CoverUnit) : Option Pledge := c.book.find? (·.state == .called)

/-- The pledge a recall takes: the newest GRANTED, else the newest RESTING at depth STANDBY, else the newest RESTING at depth
DEEP (R71). -/
def chooseRecall (book : List Pledge) : Option Pledge :=
  (book.reverse.find? (·.state == .granted)).orElse fun _ =>
    (book.reverse.find? fun p => p.state == .resting && p.depth == some .standby).orElse fun _ =>
      book.reverse.find? fun p => p.state == .resting && p.depth == some .deep

/-- The recall timer's length: the wake allowance of the depth plus 2 T_b (R72). -/
def State.recallLength (s : State) (depth : Option Depth) : Micros :=
  (match depth with
    | some .deep => s.image.deepAllowance * second
    | some .standby | none => s.image.standbyAllowance * second) + 2 * s.beaconPeriod

/-- The book with the pledge of one leaner changed. -/
def changePledge (leaner : Nat) (f : Pledge → Pledge) (book : List Pledge) : List Pledge :=
  book.map fun p => if p.leaner = leaner then f p else p

/-- A RECALL for a pledge is queued and counted, and the recall timer starts for the pledge's depth (R72, R73). One that a full
outbound queue drops is counted as sent too (DESIGN CHOICE, log 25). -/
def State.sendRecall (p : Pledge) (s : State) : State :=
  ((s.offer (.recall p.leaner p.tag)).bump .recallsSent).onCvu fun c =>
    { c with recallTimer := some (s.clock + s.recallLength p.depth) }

/-- A recall starts, counted under the rule that started it: the chosen pledge becomes CALLED with one attempt, and its
RECALL is sent (R68, R70 to R72). -/
def State.startRecall (counted : Counter) (s : State) : State :=
  match chooseRecall s.cvu.book with
  | none => s
  | some p =>
    ((s.onCvu fun c =>
      { c with book := changePledge p.leaner (fun p => { p with state := .called, attempts := 1 }) c.book }).sendRecall
        p).bump counted

/-- The continuous-recall check: in the mode a recall starts when the book is not empty and no pledge is CALLED (R70). -/
def State.continuousCheck (s : State) : State :=
  if s.continuousRecall ∧ s.cvu.book ≠ [] ∧ s.cvu.calling = false then s.startRecall .continuousRecalls else s

/-- The causes that start the recall guard at the end of a call (R69, R75). -/
def guardsRecall : RemovalCause → Bool
  | .resumed | .seenAwake => true
  | .replaced | .lapsed | .recallFailed | .leanerLost | .restart => false

/-- The recall guard starts for the active profile's time; a time of 0 starts none (R69). -/
def State.startRecallGuard (s : State) : State :=
  if s.profile.recallGuard = 0 then s
  else s.onCvu fun c => { c with recallGuard := some (s.clock + s.profile.recallGuard * second) }

/-- The end of a call: the recall timer stops, the guard starts for its causes, and the continuous-recall check is made
(R74). -/
def State.endCall (cause : RemovalCause) (s : State) : State :=
  (doWhen (guardsRecall cause) State.startRecallGuard
    (s.onCvu fun c => { c with recallTimer := none })).continuousCheck

/-- The pledge of a leaner is removed with a cause, and counted under it; if it was CALLED its call ends (R74, R75). -/
def State.removePledge (p : Pledge) (cause : RemovalCause) (s : State) : State :=
  doWhen (p.state == .called) (State.endCall cause)
    ((s.onCvu fun c => { c with book := c.book.filter (·.leaner != p.leaner) }).bump (.removed cause))

/-- The pledge held for a leaner. -/
def CoverUnit.pledgeOf (c : CoverUnit) (leaner : Nat) : Option Pledge := c.book.find? (·.leaner == leaner)

/-! ## Asks (R57 to R61) -/

/-- Replacement: an earlier pledge for the asker is removed (R58). -/
def State.replaceFor (asker : Nat) (s : State) : State :=
  match s.cvu.pledgeOf asker with
  | some p => s.removePledge p .replaced
  | none => s

/-- The first deny test that applies (R59). -/
def State.denyReason (s : State) (sector : BitVec 3) (amount : Nat) : Option DenyReason :=
  if sector ≠ s.image.sector then some .sector
  else if s.image.role = .stay then some .role
  else if s.lif.clash then some .clash
  else if s.lde.isBlind then some .blind
  else if s.plu.windowOpen = false then some .closed
  else if s.rsq.phase ≠ .awake then some .notAwake
  else if Config.bookLimit ≤ s.cvu.book.length then some .full
  else if s.ceilingN < s.committed + amount then some .noRoom
  else none

/-- A new pledge (R23, R56, R60). -/
def newPledge (asker : Nat) (tag : BitVec 8) (amount : Nat) : Pledge where
  leaner := asker
  tag := tag
  amount := amount
  reserve := 16 * amount
  state := .granted
  depth := none
  named := false
  grantAge := 0
  attempts := 0

/-- The ask is granted (R60). -/
def State.grantAsk (asker : Nat) (tag : BitVec 8) (amount : Nat) (s : State) : State :=
  ((s.onCvu fun c => { c with book := c.book ++ [newPledge asker tag amount] }).offer
    (.coverGrant asker tag amount)).bump .granted

/-- The ask is denied with a reason and the room formed then (R29, R59). -/
def State.denyAsk (asker : Nat) (tag : BitVec 8) (reason : DenyReason) (s : State) : State :=
  (s.offer (.coverDeny asker tag reason s.room)).bump (.deniesSent reason)

/-- A COVER-ASK that reaches the Cover Unit is answered (R57 to R60). -/
def State.answerAsk (asker : Nat) (sector : BitVec 3) (tag : BitVec 8) (amount : Nat) (s : State) : State :=
  let replaced := (s.bump .asksReceived).replaceFor asker
  match replaced.denyReason sector amount with
  | some reason => replaced.denyAsk asker tag reason
  | none => replaced.grantAsk asker tag amount

/-! ## Leaner beacons, lapse, release -/

/-- The depth a resting phase shows. -/
def depthOf : Phase → Option Depth
  | .standby => some .standby
  | .deep => some .deep
  | .awake | .seeking | .draining | .waking | .warming | .loading | .mute => none

/-- A pledge after a stored beacon of its leaner that names this station, in a phase other than AWAKE (R63, R64). -/
def followLeaner (phase : Phase) (p : Pledge) : Pledge :=
  match p.state, depthOf phase with
  | .granted, some d => { p with named := true, state := .resting, depth := some d }
  | .granted, none => { p with named := true }
  | .resting, some .deep => { p with depth := some .deep }
  | .resting, _ => p
  | .called, some .deep => { p with named := true, depth := some .deep }
  | .called, some .standby =>
    { p with named := true, depth := if p.depth = some .deep then some .deep else some .standby }
  | .called, none => { p with named := true }

/-- A stored beacon handed to the Cover Unit: of a leaner of the book, it removes the pledge as SEEN_AWAKE or moves it on
(R62 to R64). -/
def State.leanerBeacon (b : Heard) (s : State) : State :=
  match s.cvu.pledgeOf b.station with
  | none => s
  | some p =>
    if b.phase = .awake ∨ b.cover ≠ some s.own then s.removePledge p .seenAwake
    else s.onCvu fun c => { c with book := changePledge b.station (followLeaner b.phase) c.book }

/-- The view entry of a leaner was removed: its pledge is removed (R67). -/
def State.leanerLost (leaner : Nat) (s : State) : State :=
  match s.cvu.pledgeOf leaner with
  | some p => s.removePledge p .leanerLost
  | none => s

/-- A RESUME releases the pledge of its sender and tag, or is counted unmatched (R66). -/
def State.takeResume (sender : Nat) (tag : BitVec 8) (s : State) : State :=
  match s.cvu.book.find? (fun p => p.leaner == sender && p.tag == tag) with
  | some p => s.removePledge p .resumed
  | none => s.bump .unmatchedResumes

/-- A pledge that lapses: GRANTED, not named, at grant age 4 (R65). -/
def lapses (p : Pledge) : Bool := p.state == .granted && !p.named && 4 ≤ p.grantAge

/-- A pledge one own beacon time older, its grant age stopping at 4 (R65). -/
def agePledge (p : Pledge) : Pledge := { p with grantAge := min 4 (p.grantAge + 1) }

/-- A counter raised once for each item of a list. -/
def State.bumpFor {α : Type} (c : Counter) : List α → State → State
  | [], s => s
  | _ :: rest, s => State.bumpFor c rest (s.bump c)

/-- The Cover Unit's work at an own beacon time: grant ages rise, and lapsed pledges are removed and counted (R65). -/
def State.lapsePledges (s : State) : State :=
  let aged := s.cvu.book.map agePledge
  (s.onCvu fun c => { c with book := aged.filter fun p => !lapses p }).bumpFor (.removed .lapsed) (aged.filter lapses)

/-! ## Used samples (R24, R68) -/

/-- The overload test fires when the working level is greater than W, and starts a recall when the book is not empty, no
pledge is CALLED, and the guard is not running or the level is at C or above (R22, R68). -/
def State.overloadTest (s : State) : State :=
  if s.wakeLimitW < s.workingLevel ∧ s.cvu.book ≠ [] ∧ s.cvu.calling = false ∧
      (s.cvu.recallGuard = none ∨ s.image.capacity ≤ s.workingLevel) then
    s.startRecall .overloadRecalls
  else s

/-- Stage 2 of a used sample: the decay, then the continuous-recall check in the mode, the overload test otherwise (R12,
R24, R68, R70). -/
def State.coverStage (s : State) : State :=
  let decayed := s.onCvu fun c => { c with book := c.book.map (decayPledge s.profile.shift) }
  if decayed.continuousRecall then decayed.continuousCheck else decayed.overloadTest

/-- The recall timer expires: the RECALL again below 3 attempts, otherwise RECALL_FAILED (R73). -/
def State.recallTimeout (s : State) : State :=
  match s.cvu.called with
  | none => s.onCvu fun c => { c with recallTimer := none }
  | some p =>
    if p.attempts < 3 then
      (s.onCvu fun c =>
        { c with book := changePledge p.leaner (fun p => { p with attempts := p.attempts + 1 }) c.book }).sendRecall p
    else s.removePledge p .recallFailed

/-- A line restart empties the book, each pledge counted as removed with cause RESTART, and stops both timers (R77). -/
def State.emptyBook (s : State) : State :=
  (s.onCvu fun _ => { book := [], recallTimer := none, recallGuard := none }).bumpFor (.removed .restart) s.cvu.book

end Sys2Proof.Machine
end

