-- ==== Sys2Proof/Machine/View.lean ====
section
/-! DEFINITION. The Peer View Table's own operations: storing a beacon, eviction, ageing, removal, and the local marks (R37 to
R52). What a change of the view sets off in other blocks is in Machine/Hearing.lean. -/

namespace Sys2Proof.Machine

/-- The entry of one station changed. -/
def changeEntry (station : Nat) (f : ViewEntry → ViewEntry) (slots : List (Option ViewEntry)) : List (Option ViewEntry) :=
  slots.map fun slot => slot.map fun e => if e.station = station then f e else e

/-- The slots with the entry of one station removed. -/
def freeEntry (station : Nat) (slots : List (Option ViewEntry)) : List (Option ViewEntry) :=
  slots.map fun slot => slot.filter fun e => e.station != station

/-- A removal that leaves a slot free clears VIEW_FULL (R44). -/
def PeerView.clearFull (v : PeerView) : PeerView := if v.hasFree then { v with viewFull := false } else v

/-- The view without the entry of a station (R41). -/
def PeerView.remove (v : PeerView) (station : Nat) : PeerView :=
  { v with slots := freeEntry station v.slots }.clearFull

/-- A beacon lists this station as resting. -/
def listsUs (own : Nat) (b : Heard) : Bool := b.resting.contains own

/-- The entry a beacon makes for a station new to the view (R42). -/
def newEntry (own : Nat) (b : Heard) : ViewEntry :=
  { b with age := 0, misses := 0, shunned := false, seenUs := listsUs own b }

/-- An entry updated by a beacon: the beaconed fields, age 0, the seen-us mark once set kept (R40). -/
def updateEntry (own : Nat) (b : Heard) (e : ViewEntry) : ViewEntry :=
  { b with age := 0, misses := e.misses, shunned := e.shunned, seenUs := e.seenUs || listsUs own b }

/-- A slot holds a candidate for eviction: an entry that is STALE and not pinned (R43). -/
def evictable (pinned : Nat → Bool) (slot : Option ViewEntry) : Bool :=
  match slot with
  | some e => 3 ≤ e.age && !pinned e.station
  | none => false

/-- The age of a slot's entry, 0 for a free slot. -/
def slotAge (slot : Option ViewEntry) : Nat :=
  match slot with
  | some e => e.age
  | none => 0

/-- The greatest age among the candidates for eviction (R43). -/
def greatestAge (pinned : Nat → Bool) (slots : List (Option ViewEntry)) : Nat :=
  ((slots.filter (evictable pinned)).map slotAge).foldl max 0

/-- The slot numbers in the order of the scan: from the pointer, wrapping from 15 to 0 (R43). -/
def scanOrder (pointer : Nat) : List Nat := (List.range 16).map fun i => (pointer + i) % 16

/-- The victim's slot: of the candidates of the greatest age, the first from the pointer on (R43). -/
def PeerView.victim (v : PeerView) (pinned : Nat → Bool) : Option Nat :=
  (scanOrder v.pointer).find? fun i =>
    let slot := v.slots.getD i none
    evictable pinned slot && slotAge slot == greatestAge pinned v.slots

/-- The free slot of lowest number (R42). -/
def PeerView.firstFree (v : PeerView) : Option Nat := (List.range 16).find? fun i => v.slots[i]? == some none

/-- What becomes of a beacon that passed the tests of R38 (R40, R42 to R44). -/
inductive Storing
  | updated (v : PeerView)
  | inserted (v : PeerView)
  | evicted (v : PeerView)
  | dropped
  deriving DecidableEq, Repr

/-- A beacon brought to the table: it updates its sender's entry, is inserted into the lowest free slot, takes the slot of a
victim, or is dropped (R40, R42 to R44). -/
def PeerView.store (v : PeerView) (own : Nat) (pinned : Nat → Bool) (b : Heard) : Storing :=
  if (v.find b.station).isSome then
    .updated { v with slots := changeEntry b.station (updateEntry own b) v.slots }
  else
    match v.firstFree with
    | some i => .inserted { v with slots := v.slots.set i (some (newEntry own b)) }
    | none =>
      match v.victim pinned with
      | some i =>
        .evicted { v with slots := v.slots.set i (some (newEntry own b)), pointer := (v.pointer + 1) % 16 }
      | none => .dropped

/-- An entry one own beacon time older, its age stopping at 31 (R45). -/
def ageEntry (e : ViewEntry) : ViewEntry := { e with age := min 31 (e.age + 1) }

/-- The removal age: 16 when the entry's phase is DEEP, 8 otherwise (R46). -/
def removalAge (e : ViewEntry) : Nat := if e.phase = .deep then 16 else 8

/-- An entry that has reached its removal age (R46). -/
def outlived (e : ViewEntry) : Bool := removalAge e ≤ e.age

/-- The slots with every age raised (R45). -/
def ageSlots (slots : List (Option ViewEntry)) : List (Option ViewEntry) := slots.map (Option.map ageEntry)

/-- The stations whose entries have reached their removal age, in slot order (R46, R48). -/
def outlivedStations (slots : List (Option ViewEntry)) : List Nat :=
  ((slots.filterMap id).filter outlived).map (·.station)

/-- The slots without the entries that have reached their removal age (R46). -/
def dropOutlived (slots : List (Option ViewEntry)) : List (Option ViewEntry) :=
  slots.map fun slot => slot.filter fun e => !outlived e

/-- The view at an own beacon time: ages raised, then the removals made; one that frees a slot clears VIEW_FULL (R44 to
R46). -/
def PeerView.ageAll (v : PeerView) : PeerView :=
  let aged := ageSlots v.slots
  let kept := { v with slots := dropOutlived aged }
  if (outlivedStations aged).isEmpty then kept else kept.clearFull

/-- A miss on an entry: misses rise by 1, stopping at 2, and at 2 the shunned mark is set (R49). -/
def missEntry (e : ViewEntry) : ViewEntry :=
  { e with misses := min 2 (e.misses + 1), shunned := e.shunned || 2 ≤ e.misses + 1 }

/-- A miss recorded against a station (R49). -/
def PeerView.miss (v : PeerView) (station : Nat) : PeerView :=
  { v with slots := changeEntry station missEntry v.slots }

/-- Misses 0 and shunned marks clear at a closed-to-open transition (R50). -/
def PeerView.forgive (v : PeerView) : PeerView :=
  { v with slots := v.slots.map (Option.map fun e => { e with misses := 0, shunned := false }) }

/-- Every seen-us mark clear at entry into STANDBY (R51). -/
def PeerView.clearSeen (v : PeerView) : PeerView :=
  { v with slots := v.slots.map (Option.map fun e => { e with seenUs := false }) }

/-- An entry shows a resting peer. -/
def showsResting (e : ViewEntry) : Bool := e.phase == .standby || e.phase == .deep

/-- The resting-seen list of the own beacon: the resting entries of any age, ascending; of more than 15 the 15 of least age,
ties to the lower number (R52). Age and number are ordered by one key, 64 × age + number. -/
def PeerView.restingSeen (v : PeerView) : List Nat :=
  let keys := (v.entries.filter showsResting).map fun e => 64 * e.age + e.station
  ascending (((ascending keys).take 15).map (· % 64))

/-- The view as both resets leave it (R53). -/
def emptyView : PeerView := { slots := List.replicate 16 none, pointer := 0, viewFull := false, isolated := false }

end Sys2Proof.Machine
end

