-- ==== Sys2Proof/Machine/Rest.lean ====
section
/-! DEFINITION. The Rest Sequencer: settlement (R107), standby and deep entry (R94, R95), eligibility and sleep attempts (R81 to
R90), draining and waking (R91 to R99), the orphan test (R101), and its work at an own beacon time (R112 to R117). -/

namespace Sys2Proof.Machine

/-! ## Settlement (R107, R108) -/

/-- An awake-side phase (R107). -/
def awakeSide : Phase → Bool
  | .awake | .seeking | .draining | .waking | .warming => true
  | .standby | .deep | .loading | .mute => false

/-- Every FRESH awake-side entry has its seen-us mark set (R107). -/
def PeerView.allSeen (v : PeerView) : Bool :=
  v.entries.all fun e => !(viewFresh e && awakeSide e.phase) || e.seenUs

/-- Settled and UNSETTLED formed afresh, in STANDBY alone (R107, R108). -/
def State.formSettled (s : State) : State :=
  if s.rsq.phase = .standby then
    let settled := s.pvt.allSeen
    (s.onRsq fun q => { q with settled := settled }).setUnsettled
      (!settled && s.rsq.settleCount == Config.settleLimit)
  else s

/-! ## Standby and deep (R94, R95) -/

/-- The rest clock started at 0, frozen while the hold term is true (R110). -/
def startedClock (hold : Bool) : RestClock := { mode := if hold then .frozen else .running, measured := 0 }

/-- The phase becomes STANDBY (R94, R51, R107, R108, R110); a rouse term already true wakes at once (R96). -/
def State.enterStandby (s : State) : State :=
  let entered := s.onRsq fun q =>
    { q with
      phase := .standby, drainTimer := none, darkGiven := false, settleCount := 0
      restClock := startedClock s.plu.hold }
  ((entered.onPvt PeerView.clearSeen).bump .restsEntered).formSettled.rouseAtEntry

/-- The phase becomes DEEP: settlement ends with STANDBY, the doze count is 0 (R95, R109, R113); a rouse term true at the
entry wakes at once (R96). -/
def State.enterDeep (s : State) : State :=
  let entered := (s.onRsq fun q => { q with phase := .deep, settled := false, unsettled := false, doze := 0 }).bump
    .deepEntries
  (if s.rsq.unsettled then entered.formValues else entered).rouseAtEntry

/-! ## Attempts (R80 to R90) -/

/-- An entry is a cover candidate for an ask amount (R83). -/
def candidate (amount : Nat) (e : ViewEntry) : Bool :=
  viewFresh e && e.phase == .awake && (e.role == .anchor || e.role == .capacity) && !e.shunned && !e.clash &&
    amount ≤ e.room

/-- The first entry is preferred to the second: ANCHOR before CAPACITY, then the larger room, then the lower number (R83). -/
def preferred (e f : ViewEntry) : Bool :=
  if e.role = f.role then
    if e.room = f.room then e.station < f.station else f.room < e.room
  else e.role == .anchor

/-- The preferred of a list of entries. -/
def mostPreferred : List ViewEntry → Option ViewEntry
  | [] => none
  | e :: rest =>
    match mostPreferred rest with
    | none => some e
    | some f => if preferred f e then some f else some e

/-- The cover chosen for an ask amount (R83). -/
def PeerView.chooseCover (v : PeerView) (amount : Nat) : Option ViewEntry :=
  mostPreferred (v.entries.filter (candidate amount))

/-- Tests 1 to 8 of eligibility (R81). -/
def State.readyToRest (s : State) : Bool :=
  s.image.role == .capacity && s.plu.windowOpen && !s.plu.hold &&
    (!s.lif.clash && !s.lde.linkLost && !s.clp.carrierFault) && s.clp.lastCondition == some .onAir &&
    s.cvu.book.isEmpty && s.profile.quietDwell ≤ s.lde.quiet && s.rsq.backoff.isNone

/-- Test 10, the awake floor (R116). -/
def State.floorHolds (s : State) : Bool := s.profile.awakeFloor ≤ s.pvt.freshAwake

/-- A sleep attempt starts: the tag raised, the cover recorded, the ask queued, the ask wait started, SEEKING (R84). -/
def State.startAttempt (cover amount : Nat) (s : State) : State :=
  let tagged := s.onRsq fun q => { q with tag := q.tag + 1, cover := some cover }
  let asked := (tagged.offer (.coverAsk cover tagged.rsq.tag amount)).bump .asksSent
  (asked.onRsq fun q => { q with askWait := some (s.clock + Config.askWait), phase := .seeking }).zeroQuiet

/-- The eligibility evaluation: NO_COVER is written, and an eligible station starts an attempt (R81, R82). -/
def State.evaluateEligibility (s : State) : State :=
  let amount := askAmount s.lde.handedDemand s.profile.margin
  if s.readyToRest then
    match s.pvt.chooseCover amount with
    | some e => if s.floorHolds then (s.setNoCover false).startAttempt e.station amount else s.setNoCover true
    | none => s.setNoCover true
  else s.setNoCover false

/-- The backoff timer starts, or starts over (R90). -/
def State.startBackoff (length : Micros) (s : State) : State :=
  s.onRsq fun q => { q with backoff := some (s.clock + length) }

/-- The length of the backoff after a miss, T_b × (1 + s mod 4) (R86). -/
def State.missBackoff (s : State) : Micros := s.beaconPeriod * (1 + s.own % 4)

/-- A miss against the recorded cover (R86, R49). -/
def State.takeMiss (s : State) : State :=
  let reported :=
    match s.rsq.cover with
    | some cover => s.onPvt fun v => v.miss cover
    | none => s
  ((reported.onRsq fun q => { q with cover := none, phase := .awake, askWait := none }).startBackoff
    s.missBackoff).bump .misses

/-- An ask in SEEKING is abandoned at a window close, CLASH or link loss (R89). -/
def State.abandonAsk (s : State) : State :=
  if s.rsq.phase = .seeking then
    (s.onRsq fun q => { q with askWait := none, cover := none, phase := .awake }).bump .abandonedAsks
  else s

/-! ## Draining and waking (R91 to R99) -/

/-- The drain limit of the configuration in force. -/
def State.drainLength (s : State) : Micros := s.image.drainLimit * second

/-- The attempt is granted: DRAINING begins, and a missing cover entry or a true rouse term aborts it at once (R91, R101). -/
def State.startDrain (s : State) : State :=
  let draining := (s.onRsq fun q =>
    { q with
      phase := .draining, askWait := none, drainStep := .drainOrdered
      drainTimer := some (s.clock + s.drainLength), omissions := 0, wakeCause := none }).bump .grantsReceived
  let covered :=
    match s.rsq.cover with
    | some cover => (s.pvt.find cover).isSome
    | none => false
  if covered then draining.rouseAtEntry else draining.wake .orphan

/-- A drain fails (R93). -/
def State.failDrain (s : State) : State :=
  let resumed := (s.onRsq fun q => { q with drainTimer := none }).resumeToCover
  ((resumed.onRsq fun q => { q with cover := none, phase := .awake }).startBackoff s.drainLength).bump .drainFailures

/-- A wake completes at ON_AIR (R99). -/
def State.completeWake (s : State) : State :=
  let awake := s.resumeToCover.onRsq fun q => { q with cover := none, phase := .awake }
  if s.rsq.wakeCause = some .recall then awake.startRestGuard else awake

/-- The Rest Sequencer reads a sample's carrier condition (R92, R94, R95, R99). -/
def State.carrierStep (condition : CarrierCondition) (s : State) : State :=
  match s.rsq.phase, condition with
  | .draining, .drained => s.onRsq fun q => { q with drainStep := .restOrdered }
  | .draining, .resting => s.enterStandby
  | .draining, .fault => s.failDrain
  | .standby, .dark => if s.rsq.darkGiven then s.enterDeep else s
  | .waking, .onAir => s.completeWake
  | .warming, .onAir => s.completeWake
  | _, _ => s

/-! ## The orphan test (R101) -/

/-- The phases in which the orphan test is applied (R101). -/
def orphanTested : Phase → Bool
  | .draining | .standby | .deep | .waking | .warming => true
  | .awake | .seeking | .loading | .mute => false

/-- A stored beacon handed to the orphan test: of the recorded cover, it counts or clears omissions or is an orphan
condition (R101). -/
def State.coverBeacon (b : Heard) (s : State) : State :=
  if orphanTested s.rsq.phase = true ∧ s.rsq.cover = some b.station then
    if b.phase ≠ .awake then s.wake .orphan
    else if b.covering.contains s.own then s.onRsq fun q => { q with omissions := 0 }
    else
      let counted := s.onRsq fun q => { q with omissions := min 2 (q.omissions + 1) }
      if 2 ≤ s.rsq.omissions + 1 then counted.wake .orphan else counted
  else s

/-! ## The own beacon time (R112, R114, R115, R117) -/

/-- How many resting peers come before this station in the order of the settle wake: FRESH, STANDBY, of higher number
(R117). -/
def State.restingAbove (s : State) : Nat :=
  (s.pvt.entries.filter fun e => viewFresh e && e.phase == .standby && s.own < e.station).length

/-- The station is among the first d of the settle wake's order, d the deficit against the floor (R117). -/
def State.settleWakeTakes (s : State) : Bool :=
  s.pvt.freshAwake < s.profile.awakeFloor && s.restingAbove < s.profile.awakeFloor - s.pvt.freshAwake

/-- The settle wake of STANDBY (R117). -/
def State.settleWake (s : State) : State :=
  if s.rsq.phase = .standby ∧ s.settleWakeTakes = true then s.wake .settle else s

/-- The entry of the recorded cover shows role ANCHOR (R112). -/
def State.coverIsAnchor (s : State) : Bool :=
  match s.rsq.cover with
  | some cover =>
    match s.pvt.find cover with
    | some e => e.role == .anchor
    | none => false
  | none => false

/-- The conditions of the deep decision (R112). -/
def State.deepReady (s : State) : Bool :=
  0 < s.profile.deepDwell && 60 * s.profile.deepDwell ≤ s.rsq.restClock.seconds && s.rsq.settled && s.coverIsAnchor

/-- The deep decision of STANDBY with DARK given clear (R112). -/
def State.decideDeep (s : State) : State :=
  if s.rsq.phase = .standby ∧ s.rsq.darkGiven = false ∧ s.deepReady = true then
    (s.onRsq fun q => { q with darkGiven := true }).bump .deepDecisions
  else s

/-- Step 1 in STANDBY: the settle count rises, settled and UNSETTLED are formed (R108, R114). -/
def State.countSettle (s : State) : State :=
  if s.rsq.phase = .standby then
    (s.onRsq fun q => { q with settleCount := min Config.settleLimit (q.settleCount + 1) }).formSettled
  else s

/-- Steps 1 to 3 of the Rest Sequencer's beacon-time work (R114). -/
def State.standbyBeaconWork (s : State) : State := s.countSettle.settleWake.decideDeep

/-- Step 4 and the placement it decides: in DEEP the slot is placed at doze count 0, and the count rises, returning from 3 to
0 (R115); in every other phase the slot is placed. -/
def State.placeBeacon (s : State) : State :=
  if s.rsq.phase = .deep then
    let dozed := s.onRsq fun q => { q with doze := (q.doze + 1) % 4 }
    if s.rsq.doze = 0 then (dozed.bump .dozeBeacons).offer .beacon else dozed
  else s.offer .beacon

end Sys2Proof.Machine
end

