-- ==== Sys2Proof/Machine/Hearing.lean ====
section
/-! DEFINITION. What arrives on the line, as it reaches the blocks: a stored beacon handed on (R38 to R48), a clash frame (R145),
arrivals (R146), grants, denies and recalls at the leaner (R85, R87, R100), and the view at an own beacon time (R45 to R48). -/

namespace Sys2Proof.Machine

/-! ## Removal reports (R48) -/

/-- The removal of an entry reported to the block that pinned it (R48, R67, R101). -/
def State.reportRemoval (station : Nat) (s : State) : State :=
  if s.rsq.cover = some station then doWhen (orphanTested s.rsq.phase) (State.wake .orphan) s
  else s.leanerLost station

/-- Removals reported in slot order (R48). -/
def State.reportRemovals : List Nat → State → State
  | [], s => s
  | station :: rest, s => State.reportRemovals rest (s.reportRemoval station)

/-- The view's work at an own beacon time: ages, removals, VIEW_FULL, counts, ISOLATED, then the reports (R45 to R48, R53). -/
def State.ageView (s : State) : State :=
  let removed := outlivedStations (ageSlots s.pvt.slots)
  State.reportRemovals removed (((s.onPvt PeerView.ageAll).bumpFor .ageRemovals removed).formIsolated)

/-! ## Beacons (R38 to R44) -/

/-- A stored beacon handed on: to the Cover Unit, to the orphan test, to settlement (R40, R42). That the orphan test comes
before settlement is formed is DESIGN CHOICE, log 29. -/
def State.handOn (b : Heard) (s : State) : State := ((s.leanerBeacon b).coverBeacon b).formSettled

/-- A beacon written into the view, and handed on after ISOLATED is formed (R40, R42, R53). -/
def State.stored (v : PeerView) (b : Heard) (s : State) : State := ((s.onPvt fun _ => v).formIsolated).handOn b

/-- A beacon of the own sector that passed the tests of R38 (R40, R42 to R44). -/
def State.storeBeacon (b : Heard) (s : State) : State :=
  match s.pvt.store s.own s.pinned b with
  | .updated v => s.stored v b
  | .inserted v => s.stored v b
  | .evicted v => (s.bump .evictions).stored v b
  | .dropped => (s.onPvt fun v => { v with viewFull := true }).bump .fullViewDrops

/-- A beacon of another sector removes its sender's entry, reports a pinned one, and settlement is formed (R41, R48, R107). -/
def State.otherSector (sender : Nat) (s : State) : State :=
  if (s.pvt.find sender).isSome then
    ((((s.onPvt fun v => v.remove sender).bump .otherSectorRemovals).formIsolated).reportRemoval sender).formSettled
  else s

/-- A BEACON that reached the Peer View Table, past the test of its number for a clash (R38). -/
def State.hearBeacon (sender : BitVec 6) (sector : BitVec 3) (b : BeaconFields) (s : State) : State :=
  if fromMaintenance sender then s
  else if s.rsq.phase = .mute then s
  else
    match readBeacon sender.toNat b with
    | none => s.bump .malformedBeacons
    | some heard => if sector ≠ s.image.sector then s.otherSector sender.toNat else s.storeBeacon heard

/-! ## Clash (R145) -/

/-- CLASH turns from false to true, reported to the Policy Unit, the Rest Sequencer and the Cover Unit (R70, R102, R145). -/
def State.raiseClash (s : State) : State :=
  if s.lif.clash then s
  else (((s.onLif fun l => { l with clash := true }).formTerms.abandonAsk).wake .clash).continuousCheck

/-- A good frame bearing the own number that this station did not send (R145). -/
def State.takeClash (s : State) : State := (s.bump .clashFrames).raiseClash

/-! ## Arrivals (R146) -/

/-- The kinds only a maintenance station may send (R146 test 5). -/
def maintenanceKind : Kind → Bool
  | .window | .flags | .profile | .restart | .askStatus => true
  | .recall | .coverAsk | .coverGrant | .coverDeny | .resume | .beacon | .status => false

/-- A received notice: a clash when it bears the own number (R145), ignored and counted when it is a maintenance kind from a
carrier station (R146 test 5), otherwise an arrival, counted and handed to its block (R146). -/
def State.arrive (sender : BitVec 6) (kind : Kind) (work : State → State) : State → State :=
  State.receive fun s =>
    if sender = s.cfl.station then s.takeClash
    else if maintenanceKind kind && !fromMaintenance sender then s.bump .maintenanceFromCarrier
    else work (s.bump (.arrivals kind))

/-! ## Notices at the leaner (R85, R87, R100) -/

/-- The sender and tag of a notice are the recorded cover and the current tag. -/
def State.matchesAttempt (s : State) (sender : Nat) (tag : BitVec 8) : Bool :=
  s.rsq.cover == some sender && s.rsq.tag == tag

/-- A late grant is answered with a RESUME carrying its tag, and counted (R85). One whose RESUME a full outbound queue drops is
counted as answered too (DESIGN CHOICE, log 28). -/
def State.answerLateGrant (sender : Nat) (tag : BitVec 8) (s : State) : State :=
  (s.offer (.resume sender tag)).bump .lateGrants

/-- A COVER-GRANT at the leaner (R85). Its amount is not read. -/
def State.takeGrant (sender : BitVec 6) (tag : BitVec 8) (s : State) : State :=
  if fromMaintenance sender then s
  else
    match s.rsq.phase with
    | .seeking =>
      if s.matchesAttempt sender.toNat tag then s.startDrain else s.answerLateGrant sender.toNat tag
    | .draining | .standby | .deep | .waking | .warming =>
      if s.matchesAttempt sender.toNat tag then s else s.answerLateGrant sender.toNat tag
    | .awake => s.answerLateGrant sender.toNat tag
    | .loading | .mute => s

/-- A deny received is counted under its reason, when the byte is a reason (R87, R176). -/
def State.countDeny (reason : Byte) (s : State) : State :=
  match reasonOf reason with
  | some r => s.bump (.deniesReceived r)
  | none => s

/-- A COVER-DENY at the leaner (R87). Its room is not read. -/
def State.takeDeny (sender : Nat) (tag : BitVec 8) (reason : Byte) (s : State) : State :=
  if s.rsq.phase = .seeking ∧ s.matchesAttempt sender tag = true then (s.countDeny reason).takeMiss else s

/-- A RECALL answered at once with a RESUME carrying its tag, and counted (R100). One whose RESUME a full outbound queue drops
is counted as answered too (DESIGN CHOICE, log 28). -/
def State.answerRecall (sender : Nat) (tag : BitVec 8) (s : State) : State :=
  (s.offer (.resume sender tag)).bump .recallsAnswered

/-- A RECALL at the leaner, by the phase and whether it matches (R100). -/
def State.takeRecall (sender : BitVec 6) (tag : BitVec 8) (s : State) : State :=
  if fromMaintenance sender then s
  else
    let counted := s.bump .recallsReceived
    match s.rsq.phase with
    | .awake | .seeking => counted.answerRecall sender.toNat tag
    | .draining | .standby | .deep =>
      if s.matchesAttempt sender.toNat tag then counted.wake .recall else counted.answerRecall sender.toNat tag
    | .waking | .warming => if s.matchesAttempt sender.toNat tag then counted else counted.answerRecall sender.toNat tag
    | .loading | .mute => s

/-- A COVER-ASK at the Cover Unit: from a maintenance number ignored, in MUTE counted as unanswered, otherwise answered
(R57). -/
def State.takeAsk (sender : BitVec 6) (sector : BitVec 3) (tag : BitVec 8) (amount : BitVec 16) (s : State) : State :=
  if fromMaintenance sender then s
  else if s.rsq.phase = .mute then s.bump .asksUnanswered
  else s.answerAsk sender.toNat sector tag (takenAmount amount)

end Sys2Proof.Machine
end

