-- ==== Sys2Proof/Machine/Status.lean ====
section
/-! DEFINITION. The own beacon's fields (R148) and the status pages: the sections of R171, the cursors (R170) and clearing
(R172). -/

namespace Sys2Proof.Machine

/-- The own beacon composed from its owners as they stand (R148, R29, R52, R76, R104). -/
def State.composeBeacon (s : State) : BeaconFields where
  phase := BitVec.ofNat 3 (phaseCode s.rsq.phase)
  role := BitVec.ofNat 2 (roleCode s.image.role)
  profile := s.plu.activeProfile
  clash := s.lif.clash
  capacity := BitVec.ofNat 16 s.image.capacity
  level := BitVec.ofNat 12 s.workingLevel
  room := BitVec.ofNat 12 s.room
  cover :=
    match s.rsq.cover with
    | some c => BitVec.ofNat 8 c
    | none => 0xFF
  covering := s.cvu.book.map fun p => BitVec.ofNat 8 p.leaner
  resting := s.pvt.restingSeen.map fun n => BitVec.ofNat 8 n

/-- The sixteen conditions, bit n the condition of code n (13.3). -/
def State.conditionSet (s : State) : BitVec 16 :=
  BitVec.ofNat 16
    (((List.range 16).map fun n => if s.condition (BitVec.ofNat 4 n) then 2 ^ n else 0).sum)

/-- Page 0 (R171). -/
def State.stationPage (s : State) : StationPage where
  strap := s.cfl.station
  sector := s.image.sector
  role := s.image.role
  capacity := s.image.capacity
  configBad := s.cfl.configBad
  clampCount := s.cfl.clampCount
  phase := s.rsq.phase
  orderImplied := s.rsq.order
  currentOrder := s.clp.currentOrder
  cover := s.rsq.cover
  windowOpen := s.plu.windowOpen
  remainingMinutes := s.remainingMinutes
  activeProfile := s.plu.activeProfile
  flags := s.plu.flags
  conditions := s.conditionSet
  hold := s.plu.hold
  rouse := s.plu.rouse
  estimator := s.lde.state
  workingLevel := s.workingLevel
  room := s.room
  pledges := s.cvu.book.length
  entries := s.pvt.entries.length
  viewFull := s.pvt.viewFull
  link := s.clp.link

/-- Page 1 section 0 (R171, R17, R34, R76, R150, R158). -/
def State.figuresSection (s : State) : FiguresSection where
  estimator := s.lde.state
  demand := s.lde.demand.getD 0
  level := s.lde.level.getD 0
  lastUtilisation := s.lde.lastUtilisation.getD 0
  lastUsers := s.lde.lastUsers.getD 0
  lastDemand := s.lde.lastDemand.getD 0
  quiet := s.lde.quiet
  ceiling := s.ceilingN
  wakeLimit := s.wakeLimitW
  committed := s.committed
  normalRoom := s.normalRoom
  room := s.room
  recallRemaining := s.cvu.recallTimer.remaining s.clock
  guardRemaining := s.cvu.recallGuard.remaining s.clock
  continuousRecall := s.continuousRecall
  queueEntries := s.lif.queue.length
  beaconRemaining := s.lif.beaconTimer.remaining s.clock
  watchRemaining := s.clp.watch.remaining s.clock
  lastCondition := s.clp.lastCondition

/-- Page 1 section 1 (R171, R104, R119). -/
def State.sequencerSection (s : State) : SequencerSection where
  tag := s.rsq.tag
  askWaitRemaining := s.rsq.askWait.remaining s.clock
  backoffRemaining := s.rsq.backoff.remaining s.clock
  drainRemaining := s.rsq.drainTimer.remaining s.clock
  restGuardRemaining := s.rsq.restGuard.remaining s.clock
  drainStep := s.rsq.drainStep
  darkGiven := s.rsq.darkGiven
  wakeCause := s.rsq.wakeCause
  omissions := s.rsq.omissions
  recentRecall := s.rsq.recentRecall
  noCover := s.rsq.noCover
  restSeconds := s.rsq.restClock.seconds
  restMode := s.rsq.restClock.mode
  settleCount := s.rsq.settleCount
  settled := s.rsq.settled
  unsettled := s.rsq.unsettled
  doze := s.rsq.doze
  freshAwake := s.pvt.freshAwake

/-- The reported fields of an entry (R54). -/
def viewRow (e : ViewEntry) : ViewRow where
  station := e.station
  phase := e.phase
  role := e.role
  capacity := e.capacity
  level := e.level
  room := e.room
  cover := e.cover
  profile := e.profile
  clash := e.clash
  age := e.age
  misses := e.misses
  shunned := e.shunned
  seenUs := e.seenUs

/-- The twelve kinds, in the order of their codes (R174). -/
def allKinds : List Kind :=
  [.recall, .coverAsk, .coverGrant, .coverDeny, .resume, .beacon, .window, .flags, .profile, .restart, .askStatus, .status]

/-- The eight deny reasons (R59). -/
def allReasons : List DenyReason := [.sector, .role, .clash, .blind, .closed, .notAwake, .full, .noRoom]

/-- The seven removal causes (R75). -/
def allCauses : List RemovalCause :=
  [.resumed, .seenAwake, .replaced, .lapsed, .recallFailed, .leanerLost, .restart]

/-- The six wake causes (R96). -/
def allWakes : List WakeCause := [.recall, .close, .rouse, .orphan, .settle, .clash]

/-- The counters a section of page 3 carries (R171). Section 0 carries the seconds counters besides. -/
def sectionCounters (section_ : Nat) : List Counter :=
  match section_ with
  | 0 => [.restsEntered, .deepEntries, .deepDecisions, .dozeBeacons]
  | 1 =>
    .granted :: allCauses.map .removed ++
      [.asksReceived, .asksUnanswered, .unmatchedResumes, .overloadRecalls, .continuousRecalls, .recallsSent]
  | 2 => allReasons.map .deniesSent ++ allReasons.map .deniesReceived
  | 3 =>
    [.asksSent, .grantsReceived, .misses, .askWaitExpiries, .abandonedAsks, .drainFailures, .lateGrants, .recallsReceived,
        .recallsAnswered] ++ allWakes.map .wakes ++ [.orphanWakes, .unsettledRaisings]
  | 4 =>
    [.setAside, .malformedBeacons, .otherSectorRemovals, .evictions, .ageRemovals, .fullViewDrops, .windowsTaken,
      .profilesTaken, .flagsTaken, .maskedOut, .malformedProfiles, .windowOpenings, .closingsByNotice, .closingsByExpiry,
      .profileChanges, .unrecognizedStatus]
  | 5 =>
    [.contentionLosses, .abandons, .statusReplaced, .framingErrors, .badChecks, .malformedFrames, .unknownKind,
      .maintenanceFromCarrier, .clashFrames, .validSamples, .linkBadRecords, .unrecognizedRecords, .repliesSent,
      .repliesDropped, .linkLosses, .linkReturns, .carrierFaults, .readsAbsent, .readsTimedOut, .fallbackLoads,
      .loadingExits, .lineRestarts]
  | 6 => allKinds.map .sent
  | 7 => allKinds.map .arrivals
  | 8 => allKinds.map .abandonDiscards
  | _ => allKinds.map .queueDiscards

/-- The values of a section's counters. -/
def State.readCounters (s : State) (section_ : Nat) : List (Counter × Nat) :=
  (sectionCounters section_).map fun c => (c, s.count c)

/-- The contents of a section of a page, composed from the state in force (R171). -/
def State.sectionOf (s : State) (page section_ : Nat) : Section :=
  match page with
  | 0 => .station s.stationPage
  | 1 =>
    if section_ = 0 then .figures s.figuresSection
    else if section_ = 1 then .sequencer s.sequencerSection
    else if section_ ≤ 7 then .pledge s.cvu.book[section_ - 2]?
    else .profile (Profiles.get s.image.profiles (BitVec.ofNat 2 (section_ - 8)))
  | 2 =>
    if section_ = 0 then
      .viewSummary s.pvt.pointer s.pvt.viewFull s.pvt.isolated (s.pvt.entries.filter viewFresh).length
    else .slot ((s.pvt.slots.getD (section_ - 1) none).map viewRow)
  | _ =>
    if section_ = 0 then
      .energy s.acc.standby.seconds s.acc.deep.seconds s.acc.draining.seconds s.acc.returning.seconds
        s.acc.windowOpen.seconds (s.readCounters 0)
    else .counts (s.readCounters section_)

/-- The last section of a page (R171). -/
def lastSection (page : Nat) : Nat :=
  match page with
  | 0 => 0
  | 1 => 11
  | 2 => 16
  | _ => 9

/-- The cursor of a page (R168). -/
def Accounting.cursor (a : Accounting) (page : Nat) : Nat :=
  match page with
  | 0 => a.cursor0
  | 1 => a.cursor1
  | 2 => a.cursor2
  | _ => a.cursor3

/-- A cursor advanced by one, from the last section to 0 (R170). -/
def nextCursor (page cursor : Nat) : Nat := if cursor = lastSection page then 0 else cursor + 1

/-- The cursor of a page advanced (R170). -/
def Accounting.advance (a : Accounting) (page : Nat) : Accounting :=
  match page with
  | 0 => { a with cursor0 := nextCursor 0 a.cursor0 }
  | 1 => { a with cursor1 := nextCursor 1 a.cursor1 }
  | 2 => { a with cursor2 := nextCursor 2 a.cursor2 }
  | _ => { a with cursor3 := nextCursor 3 a.cursor3 }

/-- The clear: every counter to 0 but the count of pledges granted, which takes the number held; every seconds counter and
remainder to 0 (R172). -/
def State.clearCounters (s : State) : State :=
  s.onAcc fun a =>
    { a with
      counts := Vector.replicate Config.counterTotal 0
      standby := .zero, deep := .zero, draining := .zero, returning := .zero, windowOpen := .zero }.setCount
      .granted s.cvu.book.length

/-- An ASK-STATUS: the page composed, the cursor advanced, the counters cleared when asked, the STATUS offered; a page of 4
to 7 is unrecognized and counted (R170). -/
def State.answerStatus (asker : Nat) (page : BitVec 3) (clearMarker : Bool) (s : State) : State :=
  if page.toNat ≤ 3 then
    let number := s.acc.cursor page.toNat
    let report : StatusReport := { page := page, contents := some (number, s.sectionOf page.toNat number) }
    (doWhen clearMarker State.clearCounters (s.onAcc fun a => a.advance page.toNat)).offer (.status asker report)
  else (s.bump .unrecognizedStatus).offer (.status asker { page := page, contents := none })

end Sys2Proof.Machine
end

