-- ==== Sys2Proof/Machine/Formats.lean ====
section
/-! DEFINITION. The layouts of chapter 13: the characters the station drives on the line, the bytes of its replies, and what a
received frame or record is, by its characters. No command carries bits of the table, so these functions stand beside exec:
they say which command a frame or a record is, and what a queued notice looks like on the line. -/

namespace Sys2Proof.Machine

/-! ## Frames (R136, R174) -/

/-- The kind code (R174). -/
def kindCode (k : Kind) : BitVec 5 := BitVec.ofNat 5 (kindIndex k + 1)

/-- The kind of a code; 0 and 13 to 31 are unknown (R174). -/
def kindOf (code : BitVec 5) : Option Kind :=
  if code.toNat = 0 then none else allKinds[code.toNat - 1]?

/-- The four header characters (R174). -/
def frameHeader (f : Frame) : List Byte :=
  [(f.priority ++ f.sender : BitVec 8), (f.kind ++ f.sector : BitVec 8), f.addressee, BitVec.ofNat 8 f.payload.length]

/-- Every character of a frame, its check last (R174, R177). -/
def frameCharacters (f : Frame) : List Byte := withCheck (frameHeader f ++ f.payload)

/-- A received run of characters read as a frame (R144): a length above 48 malformed, a run short of the frame's length a
framing error, a wrong check a bad check. The frame ends at its length, 6 + n characters (R136); what follows before the line
is idle belongs to no frame. -/
def readFrame (characters : List Byte) : Frame ⊕ FrameFault :=
  match characters with
  | c1 :: c2 :: c3 :: c4 :: rest =>
    if 48 < c4.toNat then .inr .oversize
    else if rest.length < c4.toNat + 2 then .inr .framing
    else
      match checkedBody (characters.take (6 + c4.toNat)) with
      | none => .inr .badCheck
      | some _ =>
        .inl
          { priority := c1.extractLsb' 6 2, sender := c1.extractLsb' 0 6, kind := c2.extractLsb' 3 5
            sector := c2.extractLsb' 0 3, addressee := c3, payload := rest.take c4.toNat }
  | _ => .inr .framing

/-! ## Payloads (R175) -/

/-- A BEACON payload. -/
def beaconPayload (b : BeaconFields) : List Byte :=
  let levelRoom : BitVec 24 := b.level ++ b.room
  [(b.phase ++ b.role ++ b.profile ++ BitVec.ofBool b.clash : BitVec 8), b.capacity.extractLsb' 8 8,
    b.capacity.extractLsb' 0 8, levelRoom.extractLsb' 16 8, levelRoom.extractLsb' 8 8, levelRoom.extractLsb' 0 8, b.cover,
    (BitVec.ofNat 4 b.covering.length ++ BitVec.ofNat 4 b.resting.length : BitVec 8)] ++ b.covering ++ b.resting

/-- The fields of a BEACON payload. -/
def readBeaconPayload : List Byte → Option BeaconFields
  | b0 :: b1 :: b2 :: b3 :: b4 :: b5 :: b6 :: b7 :: lists =>
    let a := (b7.extractLsb' 4 4).toNat
    let b := (b7.extractLsb' 0 4).toNat
    let levelRoom : BitVec 24 := b3 ++ b4 ++ b5
    if lists.length = a + b then
      some
        { phase := b0.extractLsb' 5 3, role := b0.extractLsb' 3 2, profile := b0.extractLsb' 1 2, clash := b0.getLsbD 0
          capacity := b1 ++ b2, level := levelRoom.extractLsb' 12 12, room := levelRoom.extractLsb' 0 12, cover := b6
          covering := lists.take a, resting := lists.drop a }
    else none
  | _ => none

/-- The page-0 contents: 20 bytes (13.3). -/
def stationBytes (p : StationPage) : List Byte :=
  let flagBits :=
    (((List.range 8).map fun n => if flagValue p.flags n then 2 ^ n else 0).sum)
  let link := match p.link with | .waiting => 0 | .up => 1 | .lost => 2
  let estimator := match p.estimator with | .unseeded => 0 | .tracking => 1 | .blind => 2
  let bit (b : Bool) (n : Nat) : Nat := if b then 2 ^ n else 0
  [BitVec.ofNat 8 p.strap.toNat, BitVec.ofNat 8 (bit p.configBad 7 + 8 * roleCode p.role + p.sector.toNat)] ++
    twoBytes (BitVec.ofNat 16 p.capacity) ++
    [BitVec.ofNat 8 p.clampCount, BitVec.ofNat 8 (phaseCode p.phase),
      BitVec.ofNat 8 (64 * orderCode p.orderImplied + 16 * orderCode p.currentOrder + 4 * link + estimator),
      match p.cover with
      | some c => BitVec.ofNat 8 c
      | none => 0xFF,
      BitVec.ofNat 8
        (bit p.windowOpen 7 + bit p.hold 5 + bit p.rouse 4 + bit p.viewFull 3 + p.activeProfile.toNat)] ++
    twoBytes (BitVec.ofNat 16 p.remainingMinutes) ++ [BitVec.ofNat 8 flagBits] ++ twoBytes p.conditions ++
    twoBytes (BitVec.ofNat 16 p.workingLevel) ++ twoBytes (BitVec.ofNat 16 p.room) ++
    [BitVec.ofNat 8 p.pledges, BitVec.ofNat 8 p.entries]

/-- The bytes of a section: page 0 as laid out, every other section a free value of at most 46 bytes (R171, log 10). -/
def sectionPayload : Section → List Byte
  | .station p => stationBytes p
  | other => (Config.sectionBytes other).take 46

/-- A STATUS payload (R175). -/
def StatusReport.payload (r : StatusReport) : List Byte :=
  match r.contents with
  | some (number, contents) =>
    [BitVec.ofNat 8 (128 + r.page.toNat), BitVec.ofNat 8 number] ++ sectionPayload contents
  | none => [BitVec.ofNat 8 r.page.toNat, Config.unrecognizedSectionByte r.page]

/-- The payload of a notice, with the beacon an attempt composed (R175). -/
def Notice.payload (n : Notice) (beacon : BeaconFields) : List Byte :=
  match n with
  | .recall _ tag => [tag]
  | .coverAsk _ tag amount => tag :: twoBytes (BitVec.ofNat 16 amount)
  | .coverGrant _ tag amount => tag :: twoBytes (BitVec.ofNat 16 amount)
  | .coverDeny _ tag reason room => tag :: BitVec.ofNat 8 (reasonCode reason) :: twoBytes (BitVec.ofNat 16 room)
  | .resume _ tag => [tag]
  | .beacon => beaconPayload beacon
  | .status _ report => report.payload

/-- The addressee character of a notice: 0xFF is ALL (R136, R174). -/
def Notice.addressee : Notice → Byte
  | .recall peer _ | .coverAsk peer _ _ | .coverGrant peer _ _ | .coverDeny peer _ _ _ | .resume peer _ | .status peer _ =>
    BitVec.ofNat 8 peer
  | .beacon => 0xFF

/-- The frame of a notice of this station (R174). -/
def State.frameOf (s : State) (n : Notice) (beacon : BeaconFields) : Frame where
  priority := BitVec.ofNat 2 n.priority
  sender := s.cfl.station
  kind := kindCode n.kind
  sector := s.image.sector
  addressee := n.addressee
  payload := n.payload beacon

/-- The frame being driven on LTX: of the attempt in progress (R137, R141). -/
def State.drivenFrame (s : State) : Option Frame :=
  match s.lif.drivenEntry with
  | some { notice := n, attempt := some (.beacon b), .. } => some (s.frameOf n b)
  | some { notice := n, .. } => some (s.frameOf n s.composeBeacon)
  | none => none

/-- The pin LEN: high during each own attempt (13.8). -/
def State.driverEnabled (s : State) : Bool := s.lif.attempting

/-! ## The tests of a good frame (R146) -/

/-- What becomes of a good frame. -/
inductive FrameFate
  | clash | unknownKind | otherAddressee | malformed | maintenanceFromCarrier | arrival (k : Kind)
  deriving DecidableEq, Repr

/-- The form of address suits the kind: ALL for a BEACON, either for WINDOW, FLAGS and PROFILE, one station otherwise (R136). -/
def addressSuits (k : Kind) (addressee : Byte) : Bool :=
  match k with
  | .beacon => addressee == 0xFF
  | .window | .flags | .profile => true
  | .recall | .coverAsk | .coverGrant | .coverDeny | .resume | .restart | .askStatus | .status => addressee != 0xFF

/-- The payload length suits the kind (R174). -/
def lengthSuits (k : Kind) (payload : List Byte) : Bool :=
  match k with
  | .recall | .resume | .askStatus => payload.length == 1
  | .coverAsk | .coverGrant | .flags => payload.length == 3
  | .coverDeny | .window => payload.length == 4
  | .beacon => (readBeaconPayload payload).isSome
  | .profile => payload.length == 2
  | .restart => payload.length == 0
  | .status => 2 ≤ payload.length && payload.length ≤ 48

/-- The tests of R145 and R146 on a good frame from another driver, in their order. -/
def frameFate (own : BitVec 6) (f : Frame) : FrameFate :=
  if f.sender = own then .clash
  else
    match kindOf f.kind with
    | none => .unknownKind
    | some k =>
      if f.addressee ≠ 0xFF ∧ f.addressee.toNat ≠ own.toNat then .otherAddressee
      else if addressSuits k f.addressee = false then .malformed
      else if lengthSuits k f.payload = false then .malformed
      else if maintenanceKind k = true ∧ fromMaintenance f.sender = false then .maintenanceFromCarrier
      else .arrival k

/-- A FLAGS action of a two-bit code (R175). -/
def actionOf (code : BitVec 2) : FlagAction :=
  match code.toNat with
  | 0 => .keep
  | 1 => .set
  | 2 => .clear
  | _ => .invert

/-- The actions of the two bytes of a FLAGS payload (R175). -/
def actionsOf (b0 b1 : Byte) : FlagActions where
  sf0 := actionOf (b0.extractLsb' 0 2)
  sf1 := actionOf (b0.extractLsb' 2 2)
  sf2 := actionOf (b0.extractLsb' 4 2)
  sf3 := actionOf (b0.extractLsb' 6 2)
  sf4 := actionOf (b1.extractLsb' 0 2)
  sf5 := actionOf (b1.extractLsb' 2 2)
  sf6 := actionOf (b1.extractLsb' 4 2)
  sf7 := actionOf (b1.extractLsb' 6 2)

/-- The command an arrival of a kind is, by its payload (R175, R176). `straps` are the levels a RESTART samples. -/
def arrivalCommand (after : Micros) (straps : BitVec 6) (f : Frame) (k : Kind) : Instr :=
  match k, f.payload with
  | .recall, [tag] => .recall after f.sender tag
  | .coverAsk, [tag, a1, a2] => .coverAsk after f.sender f.sector tag (a1 ++ a2)
  | .coverGrant, [tag, a1, a2] => .coverGrant after f.sender tag (a1 ++ a2)
  | .coverDeny, [tag, reason, r1, r2] => .coverDeny after f.sender tag reason (r1 ++ r2)
  | .resume, [tag] => .resume after f.sender tag
  | .window, [action, d1, d2, mask] =>
    if action.getLsbD 0 then .windowOpen after f.sender (d1 ++ d2) mask else .windowClose after f.sender mask
  | .flags, [b0, b1, mask] => .flags after f.sender (actionsOf b0 b1) mask
  | .profile, [number, mask] => .profile after f.sender number mask
  | .restart, [] => .restart after f.sender straps
  | .askStatus, [b] => .askStatus after f.sender (b.extractLsb' 0 3) (b.getLsbD 7)
  | .status, _ => .statusArrival after f.sender
  | .beacon, payload =>
    match readBeaconPayload payload with
    | some b => .beacon after f.sender f.sector b
    | none => .frameIgnored after f
  | _, _ => .frameIgnored after f

/-- The command a received run of characters is, for a station of a number (R144 to R146, R174 to R176). -/
def lineCommand (own : BitVec 6) (after : Micros) (straps : BitVec 6) (characters : List Byte) : Instr :=
  match readFrame characters with
  | .inr why => .frameDiscarded after why
  | .inl f =>
    match frameFate own f with
    | .clash => .clashFrame after
    | .arrival k => arrivalCommand after straps f k
    | .unknownKind | .otherAddressee | .malformed | .maintenanceFromCarrier => .frameIgnored after f

/-! ## Carrier link records (13.4) -/

/-- The command a received record is, by its bytes (R152, R153, R176): a length other than 4 and 6 or a wrong check is a bad
record, and a good one is a valid SAMPLE or unrecognized. -/
def linkCommand (after : Micros) (bytes : List Byte) : Instr :=
  if bytes.length ≠ 4 ∧ bytes.length ≠ 6 then .linkBadRecord after
  else
    match checkedBody bytes with
    | none => .linkBadRecord after
    | some [kind, b1, b2, b3] =>
      let bits : BitVec 24 := b1 ++ b2 ++ b3
      match conditionOf (bits.extractLsb' 0 3) with
      | some condition =>
        if kind = 0x01 then .validSample after (bits.extractLsb' 14 10) (bits.extractLsb' 3 11) condition
        else .unrecognizedRecord after
      | none => .unrecognizedRecord after
    | some _ => .unrecognizedRecord after

/-- The bytes of a REPLY on TXD (13.4). Bit 6 of the fields byte, which 13.4 leaves unassigned, is written as 0 (DESIGN CHOICE,
log 27). -/
def replyBytes (r : Reply) : List Byte :=
  withCheck [0x02, BitVec.ofNat 8 ((if r.recognized then 128 else 0) + 16 * orderCode r.order + phaseCode r.phase)]

/-- The reply being sent on the link: the first of the backlog (R155). -/
def State.replyOnLink (s : State) : Option Reply := s.clp.backlog.head?

end Sys2Proof.Machine
end

