-- ==== Sys2Proof/Machine/LineCommands.lean ====
section
/-! DEFINITION. The commands of the coordination line below the notices: TRANSMISSION_ATTEMPT, CONTENTION_LOSS, ABANDON,
ATTEMPT_COMPLETE, LINE_IDLE, FRAME_DISCARDED, CLASH_FRAME, FRAME_IGNORED and STATUS_ARRIVAL (chapter 8). -/

namespace Sys2Proof.Machine

/-- An attempt can start: an entry is queued, no attempt is in progress, and the line has become idle (R137). -/
def State.canAttempt (s : State) : Bool :=
  s.lif.receiver == .idle && !s.lif.queue.isEmpty && !s.lif.attempting

/-- TRANSMISSION_ATTEMPT (R137, R148). -/
def execTransmissionAttempt (after : Micros) (s : State) : Result :=
  s.event after fun s =>
    if s.canAttempt then
      s.onLif fun l => { l with receiver := .inFrame, queue := startAttempt s.composeBeacon l.queue }
    else s

/-- CONTENTION_LOSS (R138): the entry stays, its abandon count unchanged; the winner's frame goes on. -/
def execContentionLoss (after : Micros) (s : State) : Result :=
  s.event after fun s =>
    if s.lif.attempting then (s.onLif fun l => { l with queue := endAttempt l.queue }).bump .contentionLosses else s

/-- ABANDON (R139): at the fourth abandon the entry is discarded. -/
def execAbandon (after : Micros) (s : State) : Result :=
  s.event after fun s =>
    match s.lif.drivenEntry with
    | none => s
    | some e =>
      if 4 ≤ e.abandons + 1 then
        ((s.onLif fun l => { l with queue := removeDriven l.queue }).bump .abandons).bump
          (.abandonDiscards e.notice.kind)
      else (s.onLif fun l => { l with queue := abandonAttempt l.queue }).bump .abandons

/-- ATTEMPT_COMPLETE (R140): the notice is sent, and its frame has ended (R144, R145). -/
def execAttemptComplete (after : Micros) (s : State) : Result :=
  s.event after fun s =>
    match s.lif.drivenEntry with
    | none => s
    | some e =>
      (s.onLif fun l => { l with receiver := .waiting, queue := removeDriven l.queue }).bump (.sent e.notice.kind)

/-- The line has become idle: the receiver leaves its wait; a frame still in reception has not reached its length, and is
discarded with a framing error (R144, log 4). -/
def State.lineIdles (s : State) : State :=
  doWhen (s.lif.receiver == .inFrame) (State.bump .framingErrors) (s.onLif fun l => { l with receiver := .idle })

/-- LINE_IDLE (R144). The line is not received in LOADING, and is not idle while the station drives it. -/
def execLineIdle (after : Micros) (s : State) : Result :=
  s.event after fun s => if s.rsq.phase = .loading ∨ s.lif.attempting = true then s else s.lineIdles

/-- The counter of a discarded frame (R144, R150). -/
def faultCounter : FrameFault → Counter
  | .framing => .framingErrors
  | .oversize => .malformedFrames
  | .badCheck => .badChecks

/-- FRAME_DISCARDED (R144). -/
def execFrameDiscarded (after : Micros) (why : FrameFault) (s : State) : Result :=
  s.event after (State.receive (State.bump (faultCounter why)))

/-- CLASH_FRAME (R145). -/
def execClashFrame (after : Micros) (s : State) : Result := s.event after (State.receive State.takeClash)

/-- An ignored frame counted as R146 gives; one for another station is not counted. -/
def State.ignoreFrame (f : Frame) (s : State) : State :=
  match frameFate s.cfl.station f with
  | .clash => s.takeClash
  | .unknownKind => s.bump .unknownKind
  | .otherAddressee => s
  | .malformed => s.bump .malformedFrames
  | .maintenanceFromCarrier => s.bump .maintenanceFromCarrier
  | .arrival _ => s

/-- FRAME_IGNORED (R146). -/
def execFrameIgnored (after : Micros) (frame : Frame) (s : State) : Result :=
  s.event after (State.receive (State.ignoreFrame frame))

/-- STATUS_ARRIVAL (R146): handed to no block, counted. -/
def execStatusArrival (after : Micros) (sender : BitVec 6) (s : State) : Result :=
  s.event after (State.arrive sender .status fun s => s)

end Sys2Proof.Machine
end

