-- ==== Sys2Proof/Machine/LinkCommands.lean ====
section
/-! DEFINITION. The commands of the carrier link: VALID_SAMPLE, LINK_BAD_RECORD, UNRECOGNIZED_RECORD, REPLY_SENT and
LINK_WATCH_EXPIRY (chapter 9). -/

namespace Sys2Proof.Machine

/-- A reply joins the backlog of two, or is dropped and counted (R155). -/
def State.queueReply (r : Reply) (s : State) : State :=
  if s.clp.backlog.length < 2 then s.onClp fun c => { c with backlog := c.backlog ++ [r] } else s.bump .repliesDropped

/-- The REPLY to a valid SAMPLE: it sets the current order (R155). -/
def State.replyToSample (s : State) : State :=
  (s.onClp fun c => { c with currentOrder := s.rsq.order }).queueReply
    { recognized := true, phase := s.rsq.phase, order := s.rsq.order }

/-- The port's own work on a valid SAMPLE, steps 1 to 4 (R154, R15, R157, R158). -/
def State.portStage (condition : CarrierCondition) (s : State) : State :=
  let counted := s.bump .validSamples
  let returned :=
    if s.clp.link = .lost then
      ((counted.onClp fun c => { c with link := .up }).bump .linkReturns).setLinkLost false
    else counted.onClp fun c => { c with link := .up }
  (returned.onClp fun c =>
    { c with watch := some (s.clock + Config.linkWatch), lastCondition := some condition }).setCarrierFault
    (condition == .fault)

/-- The eligibility evaluation of a used sample that arrived in AWAKE (R12, R81, log 13). -/
def State.eligibilityStage (arrivedAwake : Bool) (s : State) : State :=
  if arrivedAwake = true ∧ s.rsq.phase = .awake then s.evaluateEligibility else s

/-- A SAMPLE after the port's work and before its reply: in LOADING nothing; a used sample through the three stages, one the
guard sets aside counted and read by the Rest Sequencer alone (R3, R4, R12). -/
def State.sampleStages (u : BitVec 10) (n : BitVec 11) (condition : CarrierCondition) (arrivedAwake : Bool) (s : State) :
    State :=
  if s.rsq.phase = .loading then s
  else if s.guardPasses then
    (((s.useSample u n arrivedAwake).coverStage).carrierStep condition).eligibilityStage arrivedAwake
  else (s.bump .setAside).carrierStep condition

/-- VALID_SAMPLE (R154, R12). -/
def execValidSample (after : Micros) (utilisation : BitVec 10) (users : BitVec 11) (condition : CarrierCondition)
    (s : State) : Result :=
  s.event after fun s =>
    ((s.portStage condition).sampleStages utilisation users condition (s.rsq.phase == .awake)).replyToSample

/-- LINK_BAD_RECORD (R152). -/
def execLinkBadRecord (after : Micros) (s : State) : Result := s.event after (State.bump .linkBadRecords)

/-- UNRECOGNIZED_RECORD (R153, R155): the reply takes no current order. -/
def execUnrecognizedRecord (after : Micros) (s : State) : Result :=
  s.event after fun s =>
    (s.bump .unrecognizedRecords).queueReply { recognized := false, phase := s.rsq.phase, order := s.rsq.order }

/-- REPLY_SENT (R155, R158): the reply on the link leaves the backlog. -/
def execReplySent (after : Micros) (s : State) : Result :=
  s.event after fun s =>
    if s.clp.backlog = [] then s
    else (s.onClp fun c => { c with backlog := c.backlog.drop 1 }).bump .repliesSent

/-- The loss reported to the estimator: LINK_LOST true, the quiet counter 0, TRACKING to BLIND with S kept; a loss already
reported changes nothing (R13). The quiet counter and state come first, so the terms are formed on the whole change. -/
def State.loseLink (s : State) : State :=
  if s.lde.linkLost then s
  else
    let blinded := s.onLde fun e =>
      { e with quiet := 0, state := if e.state = .tracking then .blind else e.state }
    ((blinded.setLinkLost true).abandonAsk).continuousCheck

/-- LINK_WATCH_EXPIRY (R158, R13, R89, R103, R70). -/
def execLinkWatchExpiry (after : Micros) (s : State) : Result :=
  s.event after
    (State.expiring (·.clp.watch) fun s =>
      ((s.onClp fun c => { c with link := .lost, watch := none }).bump .linkLosses).loseLink)

end Sys2Proof.Machine
end

