-- ==== Sys2Proof/Machine/Loading.lean ====
section
/-! DEFINITION. The Configuration Loader's resets and the exit from LOADING (R159 to R167). -/

namespace Sys2Proof.Machine

/-- The phase chosen at the exit from LOADING (R165). -/
def State.exitPhase (s : State) : Phase :=
  if 60 ≤ s.own then .mute
  else if s.clp.lastCondition = some .onAir then .awake
  else .warming

/-- The stagger of the first own beacon time, s × T_b / 64 (R147). -/
def State.stagger (s : State) : Micros := s.own * s.beaconPeriod / 64

/-- The exit from LOADING: the image takes force, the phase is chosen, the beacon timer starts but in MUTE, the receiver waits
for an idle line, ISOLATED and both terms are formed (R131, R144, R147, R165). The exit leads to no phase that takes a wake
cause, so a true rouse term starts no wake. -/
def State.leaveLoading (loaded : Loaded) (s : State) : State :=
  let inForce := s.onCfl fun c =>
    { c with
      image := loaded.image, configBad := loaded.configBad, clampCount := loaded.clampCount
      load := .done, readTimer := none }
  let phase := inForce.exitPhase
  let out := inForce.onRsq fun q => { q with phase := phase, wakeCause := none }
  let timed := out.onLif fun l =>
    { l with
      receiver := .waiting
      beaconTimer := if phase = .mute then none else some (s.clock + inForce.stagger) }
  let counted := doWhen loaded.configBad (State.bump .fallbackLoads) (timed.bump .loadingExits)
  (counted.onPvt fun v =>
    { v with isolated := phase != .mute && !v.entries.any viewFresh }).formValues

/-- The end of a read, taken only while the load state is READING (R161). -/
def State.endRead (work : State → State) (s : State) : State := if s.cfl.load = .reading then work s else s

/-- The estimator after a line restart: LINK_LOST kept (R1, R16). -/
def restartedEstimator (e : LoadEstimator) : LoadEstimator where
  state := .unseeded
  demand := none
  level := none
  lastUtilisation := none
  lastUsers := none
  lastDemand := none
  quiet := 0
  lastUsed := none
  linkLost := e.linkLost

/-- The sequencer after a line restart: the ask tag kept (R78, R106). -/
def restartedSequencer (q : RestSequencer) : RestSequencer where
  phase := .loading
  cover := none
  tag := q.tag
  askWait := none
  backoff := none
  drainTimer := none
  drainStep := .drainOrdered
  darkGiven := false
  wakeCause := none
  omissions := 0
  restGuard := none
  recentRecall := false
  noCover := false
  restClock := { mode := .stopped, measured := 0 }
  settleCount := 0
  settled := false
  unsettled := false
  doze := 0

/-- A line restart in one event: the blocks reset but the Carrier Link Port, counted, the straps sampled and the read begun;
the image, the active profile, the flags and every counter are kept (R120, R141, R159 to R161, R167, R168). -/
def State.lineRestart (straps : BitVec 6) (s : State) : State :=
  let emptied := s.emptyBook.bump .lineRestarts
  { emptied with
    lif := { receiver := .waiting, queue := [], beaconTimer := none, clash := false }
    pvt := emptyView
    lde := restartedEstimator emptied.lde
    rsq := restartedSequencer emptied.rsq
    plu := { emptied.plu with windowOpen := false, windowTimer := none, hold := false, rouse := false }
    cfl := { emptied.cfl with station := straps, load := .reading, readTimer := some (s.clock + Config.readLimit) }
    acc := { emptied.acc with cursor0 := 0, cursor1 := 0, cursor2 := 0, cursor3 := 0 } }

/-- Power-on: every block at its power-on values and the first LOADING begun; the commands waiting stay (R166). -/
def State.powerUp (straps : BitVec 6) (s : State) : State :=
  { State.powerOn s.clock straps with pending := s.pending }

/-- Held in reset: every operation ended, every block at its power-on values, LOADING not yet begun, so no timer runs
(R166, log 8). -/
def State.enterReset (s : State) : State :=
  let cleared := s.powerUp s.cfl.station
  { cleared with
    held := true
    clp := { cleared.clp with watch := none }
    cfl := { cleared.cfl with readTimer := none } }

end Sys2Proof.Machine
end

