-- ==== Sys2Proof/Machine/LoadingCommands.lean ====
section
/-! DEFINITION. The commands of start-up and reset: POWER_ON, HELD_IN_RESET, READ_COMPLETE, READ_ABSENT, READ_TIMER_EXPIRY and
RESTART (chapter 10). -/

namespace Sys2Proof.Machine

/-- POWER_ON (R166, R160): reset is left, held or not. -/
def execPowerOn (after : Micros) (straps : BitVec 6) (s : State) : Result :=
  .next ((s.elapse after).powerUp straps)

/-- HELD_IN_RESET (R166). -/
def execHeldInReset (after : Micros) (s : State) : Result := .next (s.elapse after).enterReset

/-- READ_COMPLETE (R161, R162, R165). -/
def execReadComplete (after : Micros) (record : List Byte) (s : State) : Result :=
  s.event after (State.endRead (State.leaveLoading (loadRecord record)))

/-- READ_ABSENT (R161, R163). -/
def execReadAbsent (after : Micros) (s : State) : Result :=
  s.event after (State.endRead fun s => (s.bump .readsAbsent).leaveLoading (fallback 0))

/-- READ_TIMER_EXPIRY (R161, R163): counted as timed out alone. -/
def execReadTimerExpiry (after : Micros) (s : State) : Result :=
  s.event after
    (State.expiring (·.cfl.readTimer)
      (State.endRead fun s => (s.bump .readsTimedOut).leaveLoading (fallback 0)))

/-- RESTART (R167). -/
def execRestart (after : Micros) (sender : BitVec 6) (straps : BitVec 6) (s : State) : Result :=
  s.event after (State.arrive sender .restart (State.lineRestart straps))

end Sys2Proof.Machine
end

