-- ==== Sys2Proof/Machine/Policy.lean ====
section
/-! DEFINITION. The Policy Unit: the night window (R121 to R124), the active profile (R127, R128) and the site flags (R129). -/

namespace Sys2Proof.Machine

/-- A notice whose mask includes the own sector is taken; one masked out is counted and ignored (R121, R127, R129). -/
def State.masked (mask : BitVec 8) (work : State → State) (s : State) : State :=
  if s.inMask mask then work s else s.bump .maskedOut

/-- A WINDOW open taken for a number of minutes: the timer starts over; from CLOSED it is a transition, which clears misses
and shunned marks and is counted (R122, R50). -/
def State.openWindow (minutes : Nat) (s : State) : State :=
  let timed := (s.bump .windowsTaken).onPlu fun p => { p with windowTimer := some (s.clock + minutes * minute) }
  if s.plu.windowOpen then timed
  else ((timed.onPlu fun p => { p with windowOpen := true }).onPvt PeerView.forgive).bump .windowOpenings

/-- The window closes, counted under its counter: the ask in SEEKING is abandoned, a drain or rest ends with wake cause CLOSE,
and the Cover Unit makes its continuous-recall check (R123). -/
def State.closeWindow (counted : Counter) (s : State) : State :=
  let closed := (s.onPlu fun p => { p with windowOpen := false, windowTimer := none }).bump counted
  ((closed.abandonAsk).wake .close).continuousCheck

/-- A WINDOW close taken: it closes an open window, and changes nothing else when the window is CLOSED (R123). -/
def State.takeClose (s : State) : State :=
  doWhen s.plu.windowOpen (State.closeWindow .closingsByNotice) (s.bump .windowsTaken)

/-- The active profile number changes: the quiet counter is zeroed, the terms are formed from the new profile, and the change
is counted (R128, R9, R33, R118). -/
def State.changeProfile (number : BitVec 2) (s : State) : State :=
  (((s.onPlu fun p => { p with activeProfile := number }).zeroQuiet).formTerms).bump .profileChanges

/-- A PROFILE notice past its mask: above 3 malformed, the same number no change, another number a change (R127). That the mask
is tested first, so that a masked-out notice with a number above 3 is counted as masked out alone, is DESIGN CHOICE, log 30. -/
def State.takeProfile (number : Byte) (s : State) : State :=
  if 3 < number.toNat then s.bump .malformedProfiles
  else
    let taken := s.bump .profilesTaken
    if number.toNat = s.plu.activeProfile.toNat then taken else taken.changeProfile (BitVec.ofNat 2 number.toNat)

/-- A FLAGS notice past its mask: all eight flags, then the terms formed once (R129). -/
def State.takeFlags (actions : FlagActions) (s : State) : State :=
  (((s.bump .flagsTaken).onPlu fun p => { p with flags := flagsAfter actions p.flags })).formTerms

end Sys2Proof.Machine
end

