-- ==== Sys2Proof/Machine/MaintenanceCommands.lean ====
section
/-! DEFINITION. The notices of maintenance stations: WINDOW_OPEN, WINDOW_CLOSE, FLAGS, PROFILE and ASK_STATUS, and the expiry of
the window timer (chapters 7 and 11). RESTART is with the resets. -/

namespace Sys2Proof.Machine

/-- WINDOW_OPEN (R121, R122). -/
def execWindowOpen (after : Micros) (sender : BitVec 6) (duration : BitVec 16) (mask : BitVec 8) (s : State) : Result :=
  s.event after
    (State.arrive sender .window (State.masked mask (State.openWindow (takenMinutes duration))))

/-- WINDOW_CLOSE (R121, R123). -/
def execWindowClose (after : Micros) (sender : BitVec 6) (mask : BitVec 8) (s : State) : Result :=
  s.event after (State.arrive sender .window (State.masked mask State.takeClose))

/-- WINDOW_TIMER_EXPIRY (R123, R124). -/
def execWindowTimerExpiry (after : Micros) (s : State) : Result :=
  s.event after (State.expiring (·.plu.windowTimer) (State.closeWindow .closingsByExpiry))

/-- FLAGS (R129). -/
def execFlags (after : Micros) (sender : BitVec 6) (actions : FlagActions) (mask : BitVec 8) (s : State) : Result :=
  s.event after (State.arrive sender .flags (State.masked mask (State.takeFlags actions)))

/-- PROFILE (R127). The mask is tested before the number (DESIGN CHOICE, log 30). -/
def execProfile (after : Micros) (sender : BitVec 6) (number : Byte) (mask : BitVec 8) (s : State) : Result :=
  s.event after (State.arrive sender .profile (State.masked mask (State.takeProfile number)))

/-- ASK_STATUS (R170). -/
def execAskStatus (after : Micros) (sender : BitVec 6) (page : BitVec 3) (clearCounters : Bool) (s : State) : Result :=
  s.event after (State.arrive sender .askStatus (State.answerStatus sender.toNat page clearCounters))

end Sys2Proof.Machine
end

