-- ==== Sys2Proof/Machine/NoticeCommands.lean ====
section
/-! DEFINITION. The notices of carrier stations: BEACON, COVER_ASK, RESUME, COVER_GRANT, COVER_DENY and RECALL (chapters 3 to
5). -/

namespace Sys2Proof.Machine

/-- BEACON (R38). -/
def execBeacon (after : Micros) (sender : BitVec 6) (sector : BitVec 3) (fields : BeaconFields) (s : State) : Result :=
  s.event after (State.arrive sender .beacon (State.hearBeacon sender sector fields))

/-- COVER_ASK (R57). -/
def execCoverAsk (after : Micros) (sender : BitVec 6) (sector : BitVec 3) (tag : BitVec 8) (amount : BitVec 16)
    (s : State) : Result :=
  s.event after (State.arrive sender .coverAsk (State.takeAsk sender sector tag amount))

/-- RESUME (R66). -/
def execResume (after : Micros) (sender : BitVec 6) (tag : BitVec 8) (s : State) : Result :=
  s.event after (State.arrive sender .resume (State.takeResume sender.toNat tag))

/-- COVER_GRANT (R85). The amount is not read. -/
def execCoverGrant (after : Micros) (sender : BitVec 6) (tag : BitVec 8) (_amount : BitVec 16) (s : State) : Result :=
  s.event after (State.arrive sender .coverGrant (State.takeGrant sender tag))

/-- COVER_DENY (R87). The room is not read. -/
def execCoverDeny (after : Micros) (sender : BitVec 6) (tag : BitVec 8) (reason : Byte) (_room : BitVec 16)
    (s : State) : Result :=
  s.event after (State.arrive sender .coverDeny (State.takeDeny sender.toNat tag reason))

/-- RECALL (R100). -/
def execRecall (after : Micros) (sender : BitVec 6) (tag : BitVec 8) (s : State) : Result :=
  s.event after (State.arrive sender .recall (State.takeRecall sender tag))

end Sys2Proof.Machine
end

