-- ==== Sys2Proof/Machine/TimerCommands.lean ====
section
/-! DEFINITION. The timers of the line, the sequencer and the Cover Unit: OWN_BEACON_TIME, ASK_WAIT_EXPIRY, BACKOFF_EXPIRY,
DRAIN_TIMER_EXPIRY, RECALL_TIMER_EXPIRY, RECALL_GUARD_EXPIRY and REST_GUARD_EXPIRY. Each acts when its timer is due (log 2). -/

namespace Sys2Proof.Machine

/-- The next own beacon time falls T_b after this one (R147). -/
def State.nextBeacon (s : State) : State :=
  s.onLif fun l => { l with beaconTimer := l.beaconTimer.map (· + s.beaconPeriod) }

/-- The work of an own beacon time in its order: the view, lapse, the Rest Sequencer, the beacon slot (R147). -/
def State.beaconTimeWork (s : State) : State :=
  (((s.nextBeacon).ageView).lapsePledges).standbyBeaconWork.placeBeacon

/-- OWN_BEACON_TIME (R147). -/
def execOwnBeaconTime (after : Micros) (s : State) : Result :=
  s.event after (State.expiring (·.lif.beaconTimer) State.beaconTimeWork)

/-- ASK_WAIT_EXPIRY (R88): in SEEKING a miss. -/
def execAskWaitExpiry (after : Micros) (s : State) : Result :=
  s.event after
    (State.expiring (·.rsq.askWait) fun s =>
      if s.rsq.phase = .seeking then (s.bump .askWaitExpiries).takeMiss
      else s.onRsq fun q => { q with askWait := none })

/-- BACKOFF_EXPIRY (R90). -/
def execBackoffExpiry (after : Micros) (s : State) : Result :=
  s.event after (State.expiring (·.rsq.backoff) fun s => s.onRsq fun q => { q with backoff := none })

/-- DRAIN_TIMER_EXPIRY (R93): in DRAINING the drain fails. -/
def execDrainTimerExpiry (after : Micros) (s : State) : Result :=
  s.event after
    (State.expiring (·.rsq.drainTimer) fun s =>
      if s.rsq.phase = .draining then s.failDrain else s.onRsq fun q => { q with drainTimer := none })

/-- RECALL_TIMER_EXPIRY (R73). -/
def execRecallTimerExpiry (after : Micros) (s : State) : Result :=
  s.event after (State.expiring (·.cvu.recallTimer) State.recallTimeout)

/-- RECALL_GUARD_EXPIRY (R69). -/
def execRecallGuardExpiry (after : Micros) (s : State) : Result :=
  s.event after (State.expiring (·.cvu.recallGuard) fun s => s.onCvu fun c => { c with recallGuard := none })

/-- REST_GUARD_EXPIRY (R99): RECENT_RECALL becomes false. -/
def execRestGuardExpiry (after : Micros) (s : State) : Result :=
  s.event after
    (State.expiring (·.rsq.restGuard) fun s => (s.onRsq fun q => { q with restGuard := none }).endRecentRecall)

end Sys2Proof.Machine
end

