-- ==== Sys2Proof/Machine/Dispatch.lean ====
section
/-! DEFINITION. The command's effect: one arm per constructor, one direct call of its meaning. -/

namespace Sys2Proof.Machine

def exec (i : Instr) (s : State) : Host.Outcome State Fault Refusal :=
  match i with
  | .powerOn after straps => Sys2Proof.Machine.execPowerOn after straps s
  | .readComplete after record => Sys2Proof.Machine.execReadComplete after record s
  | .readAbsent after => Sys2Proof.Machine.execReadAbsent after s
  | .readTimerExpiry after => Sys2Proof.Machine.execReadTimerExpiry after s
  | .validSample after utilisation users condition => Sys2Proof.Machine.execValidSample after utilisation users condition s
  | .linkBadRecord after => Sys2Proof.Machine.execLinkBadRecord after s
  | .unrecognizedRecord after => Sys2Proof.Machine.execUnrecognizedRecord after s
  | .replySent after => Sys2Proof.Machine.execReplySent after s
  | .linkWatchExpiry after => Sys2Proof.Machine.execLinkWatchExpiry after s
  | .transmissionAttempt after => Sys2Proof.Machine.execTransmissionAttempt after s
  | .contentionLoss after => Sys2Proof.Machine.execContentionLoss after s
  | .abandon after => Sys2Proof.Machine.execAbandon after s
  | .attemptComplete after => Sys2Proof.Machine.execAttemptComplete after s
  | .frameDiscarded after why => Sys2Proof.Machine.execFrameDiscarded after why s
  | .clashFrame after => Sys2Proof.Machine.execClashFrame after s
  | .frameIgnored after frame => Sys2Proof.Machine.execFrameIgnored after frame s
  | .beacon after sender sector fields => Sys2Proof.Machine.execBeacon after sender sector fields s
  | .coverAsk after sender sector tag amount => Sys2Proof.Machine.execCoverAsk after sender sector tag amount s
  | .resume after sender tag => Sys2Proof.Machine.execResume after sender tag s
  | .coverGrant after sender tag amount => Sys2Proof.Machine.execCoverGrant after sender tag amount s
  | .coverDeny after sender tag reason room => Sys2Proof.Machine.execCoverDeny after sender tag reason room s
  | .recall after sender tag => Sys2Proof.Machine.execRecall after sender tag s
  | .windowOpen after sender duration mask => Sys2Proof.Machine.execWindowOpen after sender duration mask s
  | .windowClose after sender mask => Sys2Proof.Machine.execWindowClose after sender mask s
  | .windowTimerExpiry after => Sys2Proof.Machine.execWindowTimerExpiry after s
  | .flags after sender actions mask => Sys2Proof.Machine.execFlags after sender actions mask s
  | .profile after sender number mask => Sys2Proof.Machine.execProfile after sender number mask s
  | .askStatus after sender page clearCounters => Sys2Proof.Machine.execAskStatus after sender page clearCounters s
  | .restart after sender straps => Sys2Proof.Machine.execRestart after sender straps s
  | .statusArrival after sender => Sys2Proof.Machine.execStatusArrival after sender s
  | .ownBeaconTime after => Sys2Proof.Machine.execOwnBeaconTime after s
  | .askWaitExpiry after => Sys2Proof.Machine.execAskWaitExpiry after s
  | .backoffExpiry after => Sys2Proof.Machine.execBackoffExpiry after s
  | .drainTimerExpiry after => Sys2Proof.Machine.execDrainTimerExpiry after s
  | .recallTimerExpiry after => Sys2Proof.Machine.execRecallTimerExpiry after s
  | .recallGuardExpiry after => Sys2Proof.Machine.execRecallGuardExpiry after s
  | .restGuardExpiry after => Sys2Proof.Machine.execRestGuardExpiry after s
  | .heldInReset after => Sys2Proof.Machine.execHeldInReset after s
  | .lineIdle after => Sys2Proof.Machine.execLineIdle after s

end Sys2Proof.Machine
end

