-- ==== Sys2Proof/Machine/Schedule.lean ====
section
/-! DEFINITION. What the device does next by itself when no command waits: start an attempt that can start, else let the timer
that runs out first expire (DESIGN CHOICE, log 3). -/

namespace Sys2Proof.Machine

/-- The running timers with the command each expiry is, given the time until it. Of timers that run out together the first
here is taken first (log 3). -/
def State.runningTimers (s : State) : List (Micros × (Micros → Instr)) :=
  let timers : List (Timer × (Micros → Instr)) :=
    [(s.cfl.readTimer, .readTimerExpiry), (s.clp.watch, .linkWatchExpiry), (s.plu.windowTimer, .windowTimerExpiry),
      (s.rsq.askWait, .askWaitExpiry), (s.rsq.drainTimer, .drainTimerExpiry), (s.rsq.backoff, .backoffExpiry),
      (s.rsq.restGuard, .restGuardExpiry), (s.cvu.recallTimer, .recallTimerExpiry),
      (s.cvu.recallGuard, .recallGuardExpiry), (s.lif.beaconTimer, .ownBeaconTime)]
  timers.filterMap fun t => t.1.map fun expiry => (expiry, t.2)

/-- The timer that expires first. -/
def earliest : List (Micros × (Micros → Instr)) → Option (Micros × (Micros → Instr))
  | [] => none
  | t :: rest =>
    match earliest rest with
    | none => some t
    | some u => if t.1 ≤ u.1 then some t else some u

/-- The device's own next event (R137, 00 Time). -/
def State.ownNextEvent (s : State) : Option Instr :=
  if s.held then none
  else if s.canAttempt then some (.transmissionAttempt 0)
  else (earliest s.runningTimers).map fun t => t.2 (t.1 - s.clock)

end Sys2Proof.Machine
end

