-- ==== Sys2Proof/Machine/Step.lean ====
section
/-! DEFINITION. One step: the command at the front of the queue is taken and its outcome answered. On an empty queue the
device's own next event joins the queue, or the device idles. -/

namespace Sys2Proof.Machine

/-- The command at the front of the queue, on the queue's rest; on an empty queue the device's own next event, with the time
until it, joins the queue, and a device with none idles (DESIGN CHOICE, log 3). -/
def step (s : State) : Result :=
  match s.pending with
  | c :: rest => exec c { s with pending := rest }
  | [] => .next { s with pending := s.ownNextEvent.toList }

/-- The state with the command a table word spells put at the front of its queue; no row has bits, so none is. -/
def State.withFetchWord (s : State) (nbits w : Nat) : State :=
  match decodeTableWord nbits w with
  | some c => { s with pending := c :: s.pending }
  | none => s

end Sys2Proof.Machine
end

