-- ==== Sys2Proof/Safety.lean ====
section
/-! DEFINITION. What the rules say of the device in every state a run reaches: one predicate for each promise, and their
conjunction. A command can stop the device in no state; a safe run is one whose every state keeps these. -/

namespace Sys2Proof.Machine

/-- The book holds at most 6 pledges, never two for one leaner, and at most one of them is CALLED (R55, R72). -/
structure BookKept (book : List Pledge) : Prop where
  atMostSix : book.length ≤ 6
  oneEach : (book.map (·.leaner)).Pairwise (· ≠ ·)
  oneCalled : (book.filter (·.state == .called)).length ≤ 1

/-- A pledge's reserve lies between 0 and 16 times its amount, which is 1 to 4095 (R24, R56). -/
def PledgeInRange (p : Pledge) : Prop :=
  1 ≤ p.amount ∧ p.amount ≤ 4095 ∧ p.reserve ≤ 16 * p.amount ∧ p.leaner ≤ 59

/-- While the book is not empty, the phase is AWAKE (R55). -/
def BookOnlyAwake (s : State) : Prop := s.cvu.book ≠ [] → s.rsq.phase = .awake

/-- A station in SEEKING, DRAINING, STANDBY or DEEP has a cover recorded, one in LOADING, AWAKE or MUTE has none, and a
recorded cover is a carrier station other than itself (R78, R80, R104, R105). -/
structure CoverRecorded (s : State) : Prop where
  held :
    (s.rsq.phase = .seeking ∨ s.rsq.phase = .draining ∨ s.rsq.phase = .standby ∨ s.rsq.phase = .deep) →
      s.rsq.cover ≠ none
  cleared : (s.rsq.phase = .loading ∨ s.rsq.phase = .awake ∨ s.rsq.phase = .mute) → s.rsq.cover = none
  other : ∀ c, s.rsq.cover = some c → c ≠ s.own ∧ c ≤ 59

/-- Whenever the window is closed, the phase is LOADING, AWAKE, WAKING, WARMING or MUTE (R123). -/
def ClosedMeansUp (s : State) : Prop :=
  s.plu.windowOpen = false →
    s.rsq.phase = .loading ∨ s.rsq.phase = .awake ∨ s.rsq.phase = .waking ∨ s.rsq.phase = .warming ∨ s.rsq.phase = .mute

/-- The view has 16 slots, no two entries for one station, none for the station itself, and its pointer is a slot (R37). -/
structure ViewKept (own : Nat) (v : PeerView) : Prop where
  sixteen : v.slots.length = 16
  oneEach : (v.entries.map (·.station)).Pairwise (· ≠ ·)
  carriers : ∀ e ∈ v.entries, e.station ≤ 59 ∧ e.station ≠ own
  pointer : v.pointer < 16

/-- The outbound queue holds at most 8 notices, at most one a BEACON, in sending order, at most one attempt in progress
(R141). -/
structure QueueKept (q : List Entry) : Prop where
  atMostEight : q.length ≤ 8
  oneBeacon : (q.filter (·.notice.kind == .beacon)).length ≤ 1
  sendingOrder : q.Pairwise fun e f => e.priority ≤ f.priority
  oneAttempt : (q.filter Entry.driven).length ≤ 1

/-- S lies between 0 and 16 × C and L = ⌈S / 16⌉ in TRACKING and BLIND; UNSEEDED has no value (R1, R7, R8). -/
def EstimateKept (s : State) : Prop :=
  match s.lde.state with
  | .unseeded => s.lde.demand = none ∧ s.lde.level = none
  | .tracking | .blind => ∃ d, s.lde.demand = some d ∧ s.lde.level = some (levelOf d) ∧ d ≤ 16 * s.image.capacity

/-- In LOADING the estimator is UNSEEDED and the read is on; outside it the read is done (R16, R161). -/
def LoadingKept (s : State) : Prop :=
  (s.rsq.phase = .loading ↔ s.cfl.load = .reading) ∧ (s.rsq.phase = .loading → s.lde.state = .unseeded)

/-- The counts of removals under the seven causes, added (R75). -/
def State.removals (s : State) : Nat := (allCauses.map fun c => s.count (.removed c)).sum

/-- The granted count and the seven cause counts are not saturated (R75). -/
def PledgeCountsOpen (s : State) : Prop :=
  s.count .granted < Config.counterLimit ∧ ∀ c ∈ allCauses, s.count (.removed c) < Config.counterLimit

/-- Pledges granted equal removals plus pledges held, while none of these counters has saturated (R75). -/
def PledgesAccounted (s : State) : Prop := PledgeCountsOpen s → s.count .granted = s.removals + s.cvu.book.length

/-- The rest clock has measured no more than its largest reading, 4294967295 s (R110). -/
def RestClockKept (k : RestClock) : Prop := k.measured ≤ Config.secondsLimit * second

/-- A profile as clamped (R126). -/
structure ProfileKept (p : Profile) : Prop where
  quietLimit : p.quietLimit ≤ 50
  userLimit : p.userLimit ≤ 255
  quietDwell : 10 ≤ p.quietDwell ∧ p.quietDwell ≤ 3600
  margin : p.margin ≤ 100
  ceiling : 40 ≤ p.ceiling ∧ p.ceiling ≤ 93
  wakeLevel : p.ceiling + 5 ≤ p.wakeLevel ∧ p.wakeLevel ≤ 98
  shift : 2 ≤ p.shift ∧ p.shift ≤ 6
  deepDwell : p.deepDwell ≤ 240
  recallGuard : p.recallGuard ≤ 600
  restGuard : p.restGuard ≤ 120
  awakeFloor : 1 ≤ p.awakeFloor ∧ p.awakeFloor ≤ 4

/-- The configuration in force lies in its ranges (R159). -/
structure ImageKept (m : Image) : Prop where
  capacity : 1 ≤ m.capacity ∧ m.capacity ≤ 4095
  standbyAllowance : 1 ≤ m.standbyAllowance ∧ m.standbyAllowance ≤ 30
  deepAllowance : 30 ≤ m.deepAllowance ∧ m.deepAllowance ≤ 900
  drainLimit : 30 ≤ m.drainLimit ∧ m.drainLimit ≤ 600
  profiles : ∀ n, ProfileKept (Profiles.get m.profiles n)

/-- The promises the device keeps in every state. -/
structure State.Inv (s : State) : Prop where
  book : BookKept s.cvu.book
  pledges : ∀ p ∈ s.cvu.book, PledgeInRange p
  bookOnlyAwake : BookOnlyAwake s
  coverRecorded : CoverRecorded s
  closedMeansUp : ClosedMeansUp s
  restClock : RestClockKept s.rsq.restClock
  view : ViewKept s.own s.pvt
  queue : QueueKept s.lif.queue
  backlog : s.clp.backlog.length ≤ 2
  estimate : EstimateKept s
  loading : LoadingKept s
  accounted : PledgesAccounted s
  image : ImageKept s.image
  clamps : s.cfl.clampCount ≤ 43
  carrierFault : s.clp.carrierFault = (s.clp.lastCondition == some .fault)

/-- The two term values are those of the active profile's terms tested now; in LOADING both are false (R131, R132). -/
def TermsFormed (s : State) : Prop :=
  if s.rsq.phase = .loading then s.plu.hold = false ∧ s.plu.rouse = false
  else s.plu.hold = s.testTerm s.profile.hold ∧ s.plu.rouse = s.testTerm s.profile.rouse

/-- Each timer runs exactly while what it times goes on (R72, R84, R88, R91 to R93, R99, R122, R123, R147, R158, R161). -/
structure TimersRun (s : State) : Prop where
  recallTimer : s.cvu.recallTimer.isSome = s.cvu.calling
  askWait : s.rsq.askWait.isSome = (s.rsq.phase == .seeking)
  drain : s.rsq.drainTimer.isSome = (s.rsq.phase == .draining)
  restGuard : s.rsq.restGuard.isSome = s.rsq.recentRecall
  window : s.plu.windowTimer.isSome = s.plu.windowOpen
  beacon : s.lif.beaconTimer.isSome = (s.rsq.phase != .loading && s.rsq.phase != .mute)
  watch : s.clp.watch.isSome = (s.clp.link != .lost && !s.held)
  read : s.cfl.readTimer.isSome = (s.cfl.load == .reading && !s.held)

/-- The conditions and marks formed from the view are those of the view as it stands (R44, R53, R107 to R109). -/
structure ConditionsFormed (s : State) : Prop where
  isolated : s.pvt.isolated = (s.rsq.phase != .loading && s.rsq.phase != .mute && !s.pvt.entries.any viewFresh)
  settled : s.rsq.settled = (s.rsq.phase == .standby && s.pvt.allSeen)
  unsettled : s.rsq.unsettled = (s.rsq.phase == .standby && !s.pvt.allSeen && s.rsq.settleCount == Config.settleLimit)
  viewFull : s.pvt.viewFull = true → s.pvt.hasFree = false

/-! ## The words of the statements -/

/-- The device-clock time a command brings. -/
def commandTime : Instr → Micros
  | .powerOn t _ | .readComplete t _ | .readAbsent t | .readTimerExpiry t | .validSample t _ _ _ | .linkBadRecord t
  | .unrecognizedRecord t | .replySent t | .linkWatchExpiry t | .transmissionAttempt t | .contentionLoss t | .abandon t
  | .attemptComplete t | .frameDiscarded t _ | .clashFrame t | .frameIgnored t _ | .beacon t _ _ _
  | .coverAsk t _ _ _ _ | .resume t _ _ | .coverGrant t _ _ _ | .coverDeny t _ _ _ _ | .recall t _ _
  | .windowOpen t _ _ _ | .windowClose t _ _ | .windowTimerExpiry t | .flags t _ _ _ | .profile t _ _ _
  | .askStatus t _ _ _ | .restart t _ _ | .statusArrival t _ | .ownBeaconTime t | .askWaitExpiry t | .backoffExpiry t
  | .drainTimerExpiry t | .recallTimerExpiry t | .recallGuardExpiry t | .restGuardExpiry t | .heldInReset t
  | .lineIdle t => t

/-- A timer runs and has expired once a time has passed. -/
def Expired (timer : Timer) (s : State) (after : Micros) : Prop := ∃ expiry, timer = some expiry ∧ expiry ≤ s.clock + after

/-- A SAMPLE that arrives after a time passes the guard (R3). -/
def SampleUsed (s : State) (after : Micros) : Prop :=
  s.lde.lastUsed = none ∨ ∃ last, s.lde.lastUsed = some last ∧ last + 500 ≤ (s.clock + after) / 1000

/-- The station receives the line: out of reset and of LOADING, past its wait for an idle line, driving no frame of its own
(R144). -/
structure Hears (s : State) : Prop where
  out : s.held = false
  phase : s.rsq.phase ≠ .loading
  receiver : s.lif.receiver ≠ .waiting
  quiet : s.lif.attempting = false

/-- The state in which the work of a received frame begins: the time has passed, and the receiver waits for an idle line
(R144). -/
def State.heard (s : State) (after : Micros) : State :=
  { s.elapse after with lif := { s.lif with receiver := .waiting } }

/-- The state in which the work of an arrival begins: the frame is heard and the arrival counted under its kind (R146). -/
def State.arrived (s : State) (after : Micros) (k : Kind) : State := (s.heard after).bump (.arrivals k)

/-- From one state to another each counter of a list rose by 1 for each time it is listed, stopping at 65535, and no other
counter changed (R168). -/
def Counted (s t : State) (cs : List Counter) : Prop :=
  ∀ c, t.count c = if c ∈ cs then min Config.counterLimit (s.count c + cs.count c) else s.count c

/-- Of Accounting only the 16-bit counters differ from a state: the seconds counters and cursors are the same. -/
def CountsAlone (s t : State) : Prop := t.acc = { s.acc with counts := t.acc.counts }

/-- The removal of the recorded cover's entry, taken as an orphan condition: it wakes the station from DRAINING, STANDBY and
DEEP, and is ignored in WAKING and WARMING (R48, R96 to R98, R101). -/
structure Orphaned (s t : State) : Prop where
  phase :
    t.rsq.phase =
      match s.rsq.phase with
      | .draining => .awake
      | .standby => if s.rsq.darkGiven then .warming else .waking
      | .deep => .warming
      | other => other
  woken :
    (s.rsq.phase = .draining ∨ s.rsq.phase = .standby ∨ s.rsq.phase = .deep) →
      t.rsq.wakeCause = some .orphan ∧ t.count (.wakes .orphan) = min Config.counterLimit (s.count (.wakes .orphan) + 1) ∧
        t.count .orphanWakes = min Config.counterLimit (s.count .orphanWakes + 1)
  aborted :
    s.rsq.phase = .draining →
      t.rsq.cover = none ∧ t.rsq.drainTimer = none ∧ t.rsq.backoff = s.rsq.backoff ∧
        t.count .drainFailures = s.count .drainFailures
  ignored :
    (s.rsq.phase = .waking ∨ s.rsq.phase = .warming) →
      t.rsq.wakeCause = s.rsq.wakeCause ∧ t.count .orphanWakes = s.count .orphanWakes

/-- A wake with cause ROUSE, the line aside. A drain is aborted and counts as no failure; a rest ends with its cover still recorded
(R96 to R98, R134). -/
structure RouseWake (s t : State) : Prop where
  draining :
    s.rsq.phase = .draining →
      t.rsq.phase = .awake ∧ t.rsq.cover = none ∧ t.rsq.drainTimer = none ∧ t.rsq.backoff = s.rsq.backoff ∧
        t.count .drainFailures = s.count .drainFailures
  resting :
    (s.rsq.phase = .standby ∨ s.rsq.phase = .deep) →
      t.rsq.phase = (if s.rsq.phase = .standby ∧ s.rsq.darkGiven = false then .waking else .warming) ∧
        t.rsq.cover = s.rsq.cover
  counted :
    (s.rsq.phase = .draining ∨ s.rsq.phase = .standby ∨ s.rsq.phase = .deep) →
      t.rsq.wakeCause = some .rouse ∧ t.count (.wakes .rouse) = min Config.counterLimit (s.count (.wakes .rouse) + 1)

/-- The rouse term turned true and is a wake cause, in a command that queues nothing else: `taken` is the state in which the
command's work began. An aborted drain queues its RESUME (R98), a wake from rest none (R97). -/
structure Roused (s taken t : State) : Prop extends RouseWake s t where
  aborted :
    s.rsq.phase = .draining →
      ∀ cover, s.rsq.cover = some cover → t.lif = (taken.offer (.resume cover s.rsq.tag)).lif
  kept : (s.rsq.phase = .standby ∨ s.rsq.phase = .deep) → t.lif = taken.lif

/-- An entry that settlement waits for: FRESH, awake-side, its seen-us mark clear (R107). -/
def Unheard (e : ViewEntry) : Prop :=
  e.age ≤ 2 ∧
    (e.phase = .awake ∨ e.phase = .seeking ∨ e.phase = .draining ∨ e.phase = .waking ∨ e.phase = .warming) ∧
    e.seenUs = false

/-- A beacon changed the view, and with it ISOLATED or UNSETTLED: a rouse term that the change turns true is a wake cause
(R53, R108, R134). `plain` says that the beacon is no orphan condition. -/
structure RousedByView (s taken t : State) (plain : Prop) : Prop where
  isolated :
    t.pvt.isolated ≠ s.pvt.isolated → s.profile.rouse = { code := 14, inverted := s.pvt.isolated } → s.plu.rouse = false →
      Roused s taken t
  unsettled :
    plain → s.rsq.phase = .standby → s.rsq.unsettled = false → s.rsq.settleCount = 8 → (∃ e ∈ t.pvt.entries, Unheard e) →
      s.profile.rouse = { code := 11, inverted := false } → s.plu.rouse = false →
      Roused s taken t ∧ t.count .unsettledRaisings = min Config.counterLimit (s.count .unsettledRaisings + 1)
  settled :
    plain → s.rsq.phase = .standby → s.rsq.unsettled = true → (∀ e ∈ t.pvt.entries, ¬Unheard e) →
      s.profile.rouse = { code := 11, inverted := true } → s.plu.rouse = false → Roused s taken t

/-- How a station leaves LOADING with an image, its config-bad marker and its clamp count (R131, R147, R161, R165). -/
structure LeavesLoading (s : State) (after : Micros) (image : Image) (bad : Bool) (clamps : Nat) (t : State) : Prop where
  held : t.held = s.held
  clock : t.clock = s.clock + after
  pending : t.pending = s.pending
  loader :
    t.cfl =
      { station := s.cfl.station, image := image, configBad := bad, clampCount := clamps, load := .done, readTimer := none }
  phase :
    t.rsq.phase =
      if 60 ≤ s.cfl.station.toNat then .mute else if s.clp.lastCondition = some .onAir then .awake else .warming
  sequencer : t.rsq = { s.rsq with phase := t.rsq.phase, wakeCause := none }
  line :
    t.lif =
      { s.lif with
        receiver := .waiting
        beaconTimer :=
          if t.rsq.phase = .mute then none
          else some (s.clock + after + s.cfl.station.toNat * (2 ^ image.periodCode.toNat * 1000000) / 64) }
  view : t.pvt = { s.pvt with isolated := t.rsq.phase != .mute && !s.pvt.entries.any viewFresh }
  policy :
    t.plu = { s.plu with hold := t.testTerm (t.profile.hold), rouse := t.testTerm (t.profile.rouse) }
  estimator : t.lde = s.lde
  cover : t.cvu = s.cvu
  link : t.clp = s.clp
  accounts : CountsAlone (s.elapse after) t

/-- A station in LOADING, as the resets leave it: reading, its term values false and its rest clock stopped (R78, R106,
R120, R161). -/
structure InLoading (s : State) : Prop where
  out : s.held = false
  phase : s.rsq.phase = .loading
  load : s.cfl.load = .reading
  terms : s.plu.hold = false ∧ s.plu.rouse = false
  clock : s.rsq.restClock.mode = .stopped

end Sys2Proof.Machine
end

