-- ==== Sys2Proof/Certificates/Slice0/Obligations.lean ====
section
/-! DEFINITION. The statements for the provers, from the numbered rules of the spec. Where a statement rests on a choice of the
model, its docstring names the log entry. A result is written as the whole next state where the command allows it: what an
equation does not name is unchanged. `offer` and `bump` stand for the outbound queue and the counters; what they do is stated
on its own (OfferedNoticeJoins, FullQueueDisplaces, SecondsCountersMeasure). -/

section

open Sys2Proof Sys2Proof.Machine

/-! ## The machine -/

/-- A step with a command at the front of the queue is exec of it on the queue's rest. -/
def Obligations.StepRunsFrontCommand : Prop :=
  ∀ (c : Instr) (rest : List Instr) (s : State),
    step { s with pending := c :: rest } = exec c { s with pending := rest }

/-- The model's choices (log 3, 8): on an empty queue the device's own next event joins the queue, an attempt that can start
before the running timer that expires first, with the time until it; and a device held in reset, which has none, does no
command's work but a power-on's. -/
def Obligations.IdleAndHeldDevice : Prop :=
  (∀ s : State, s.pending = [] →
    step s = .next { s with pending := s.ownNextEvent.toList } ∧
    (s.held = true → s.ownNextEvent = none) ∧
    (s.held = false → s.canAttempt = true → s.ownNextEvent = some (.transmissionAttempt 0)) ∧
    (s.held = false → s.canAttempt = false → ∀ t ∈ s.runningTimers,
      ∃ u ∈ s.runningTimers, u.1 ≤ t.1 ∧ s.ownNextEvent = some (u.2 (u.1 - s.clock)))) ∧
  (∀ (c : Instr) (s : State), s.held = true → (∀ after straps, c ≠ .powerOn after straps) → (∀ after, c ≠ .heldInReset after) →
    exec c s = .next (s.elapse (commandTime c)))

/-- No command stops the device: each answers a next state, its time passed and the commands behind it left waiting. -/
def Obligations.EveryCommandAnswersNext : Prop :=
  ∀ (c : Instr) (s : State),
    ∃ t, exec c s = .next t ∧ t.pending = s.pending ∧ t.clock = s.clock + commandTime c

/-- R169: every seconds counter over every command but a reset and a clear. The condition is the one that held while the time
passed. Time passes in pieces as it passes in one: no short period is lost from the rest clock or a seconds counter (R110).
A counter is raised by 1, stops at 65535, and no other counter changes (R168). -/
def Obligations.SecondsCountersMeasure : Prop :=
  (∀ (c : Instr) (s t : State), exec c s = .next t →
    (∀ after straps, c ≠ .powerOn after straps) → (∀ after, c ≠ .heldInReset after) →
    (∀ after sender page, c ≠ .askStatus after sender page true) →
    let millis := (s.clock + commandTime c) / 1000 - s.clock / 1000
    let run := fun (condition : Prop) (before after : SecondsCounter) =>
      (condition →
        after.seconds = min 4294967295 (before.seconds + (before.remainder + millis) / 1000) ∧
          after.remainder = (before.remainder + millis) % 1000) ∧
      (¬condition → after = before)
    run (s.rsq.phase = .standby) s.acc.standby t.acc.standby ∧
    run (s.rsq.phase = .deep) s.acc.deep t.acc.deep ∧
    run (s.rsq.phase = .draining) s.acc.draining t.acc.draining ∧
    run (s.rsq.phase = .waking ∨ s.rsq.phase = .warming) s.acc.returning t.acc.returning ∧
    run (s.plu.windowOpen = true) s.acc.windowOpen t.acc.windowOpen) ∧
  (∀ (s : State) (a b : Micros), (s.elapse a).elapse b = s.elapse (a + b)) ∧
  (∀ (s : State) (c d : Counter),
    (s.bump c).count d = (if d = c then min 65535 (s.count c + 1) else s.count d) ∧
    s.bump c = { s with acc := { s.acc with counts := (s.bump c).acc.counts } })

/-! ## Power-on, LOADING and restart -/

/-- POWER_ON gives every block its power-on values and begins the first LOADING (R160, R161, R166), with the tables of R1, R37,
R55, R78, R106, R120, R141, R151, R159 and R168, column "After power-on"; HELD_IN_RESET ends every operation, and no timer
then runs (log 8). The image and clamp count before the first read, the clock and the straps of State.reset are the model's
choice (log 6, 7, 9). -/
def Obligations.PowerOnAndReset : Prop :=
  ((∀ (after : Micros) (straps : BitVec 6) (s : State),
    exec (.powerOn after straps) s = .next { State.powerOn (s.clock + after) straps with pending := s.pending }) ∧
  (∀ (after : Micros) (s : State), ∃ t, exec (.heldInReset after) s = .next t ∧
    t = { State.powerOn (s.clock + after) s.cfl.station with
      held := true, pending := s.pending, clp := t.clp, cfl := t.cfl } ∧
    t.clp = { (State.powerOn (s.clock + after) s.cfl.station).clp with watch := none } ∧
    t.cfl = { (State.powerOn (s.clock + after) s.cfl.station).cfl with readTimer := none } ∧
    t.ownNextEvent = none) ∧
  State.reset = State.powerOn 0 Config.resetStraps) ∧
  (∀ (clock : Micros) (straps : BitVec 6),
    let p := State.powerOn clock straps
    p.held = false ∧
    p.lde =
      { state := .unseeded, demand := none, level := none, lastUtilisation := none, lastUsers := none, lastDemand := none
        quiet := 0, lastUsed := none, linkLost := false } ∧
    p.pvt = { slots := List.replicate 16 none, pointer := 0, viewFull := false, isolated := false } ∧
    p.cvu = { book := [], recallTimer := none, recallGuard := none } ∧
    p.continuousRecall = true ∧
    p.rsq =
      { phase := .loading, cover := none, tag := 0, askWait := none, backoff := none, drainTimer := none
        drainStep := .drainOrdered, darkGiven := false, wakeCause := none, omissions := 0, restGuard := none
        recentRecall := false, noCover := false, restClock := { mode := .stopped, measured := 0 }, settleCount := 0
        settled := false, unsettled := false, doze := 0 } ∧
    p.plu.windowOpen = false ∧ p.plu.windowTimer = none ∧ p.remainingMinutes = 0 ∧ p.plu.activeProfile = 0 ∧
    p.plu.hold = false ∧ p.plu.rouse = false ∧
    (∀ code, p.condition code = (code == 15)) ∧
    p.lif = { receiver := .waiting, queue := [], beaconTimer := none, clash := false } ∧
    p.clp =
      { link := .waiting, watch := some (clock + 5000000), lastCondition := none, carrierFault := false, currentOrder := .run
        backlog := [] } ∧
    p.cfl.station = straps ∧ p.cfl.configBad = false ∧ p.cfl.load = .reading ∧ p.cfl.readTimer = some (clock + 50000) ∧
    (∀ c, p.count c = 0) ∧
    p.acc.standby = ⟨0, 0⟩ ∧ p.acc.deep = ⟨0, 0⟩ ∧ p.acc.draining = ⟨0, 0⟩ ∧ p.acc.returning = ⟨0, 0⟩ ∧
    p.acc.windowOpen = ⟨0, 0⟩ ∧
    p.acc.cursor0 = 0 ∧ p.acc.cursor1 = 0 ∧ p.acc.cursor2 = 0 ∧ p.acc.cursor3 = 0)

/-- A read ended absent, or timed out, leaves LOADING with the fallback image (R161, R163, R165), the factory profile of R126 in
its four records. Once the load is DONE the end of a read changes nothing (R161). -/
def Obligations.ReadEndsAbsentOrLate : Prop :=
  (∀ (after : Micros) (s : State), InLoading s →
    (∃ t, exec (.readAbsent after) s = .next t ∧
      LeavesLoading s after (Config.fallbackImage 0) true 0 t ∧
      Counted s t [.readsAbsent, .fallbackLoads, .loadingExits]) ∧
    (Expired s.cfl.readTimer s after →
      ∃ t, exec (.readTimerExpiry after) s = .next t ∧
        LeavesLoading s after (Config.fallbackImage 0) true 0 t ∧
        Counted s t [.readsTimedOut, .fallbackLoads, .loadingExits])) ∧
  (∀ sector : BitVec 3,
    let m := Config.fallbackImage sector
    m.sector = sector ∧ m.role = .stay ∧ m.capacity = 1 ∧ m.periodCode = 1 ∧ m.standbyAllowance = 10 ∧
    m.deepAllowance = 240 ∧ m.drainLimit = 120 ∧
    ∀ n, Profiles.get m.profiles n =
      { quietLimit := 10, userLimit := 4, quietDwell := 900, margin := 25, ceiling := 80, wakeLevel := 90, shift := 4
        deepDwell := 30, recallGuard := 120, restGuard := 30, awakeFloor := 1
        hold := { code := 12, inverted := false }, rouse := { code := 15, inverted := true } }) ∧
  (∀ (after : Micros) (record : List Byte) (s : State), s.held = false → s.cfl.load = .done →
    exec (.readComplete after record) s = .next (s.elapse after) ∧
    exec (.readAbsent after) s = .next (s.elapse after) ∧
    exec (.readTimerExpiry after) s = .next (s.elapse after))

/-- A record read complete: its check, its three config-bad fields, its fallback sector, and the clamped image of a good one by
the layout of 13.5 (R126, R161 to R163). The clamp count is the number of fields whose clamped value differs from the value
read (R162). -/
def Obligations.CompleteReadIsChecked : Prop :=
  ∀ (after : Micros) (record : List Byte) (s : State), InLoading s → record.length = 71 →
    let byte := fun i => (record.getD i 0).toNat
    let word := fun i => 256 * byte i + byte (i + 1)
    let good := record.drop 69 = twoBytes (crc (record.take 69))
    let fieldsGood := byte 0 ≤ 7 ∧ byte 1 ≤ 2 ∧ word 2 % 4096 ≠ 0
    let moved := fun fields : List (Nat × Nat) => (fields.filter fun f => decide (f.1 ≠ f.2)).length
    ∃ t, exec (.readComplete after record) s = .next t ∧
      (¬good →
        LeavesLoading s after (Config.fallbackImage 0) true 0 t ∧ Counted s t [.fallbackLoads, .loadingExits]) ∧
      (good → ¬fieldsGood →
        LeavesLoading s after
          (Config.fallbackImage (if byte 0 ≤ 7 then BitVec.ofNat 3 (byte 0) else 0)) true 0 t ∧
        Counted s t [.fallbackLoads, .loadingExits]) ∧
      (good → fieldsGood →
        LeavesLoading s after t.image false t.cfl.clampCount t ∧ Counted s t [.loadingExits] ∧
        t.image.sector.toNat = byte 0 ∧ roleCode t.image.role = byte 1 ∧
        t.image.capacity = word 2 % 4096 ∧ t.image.periodCode.toNat = word 2 / 4096 % 4 ∧
        t.image.standbyAllowance = max 1 (min 30 (byte 4)) ∧
        t.image.deepAllowance = max 30 (min 900 (word 5)) ∧
        t.image.drainLimit = max 30 (min 600 (word 7)) ∧
        (∀ n : BitVec 2,
          let p := Profiles.get t.image.profiles n
          let at_ := 9 + 15 * n.toNat
          p.quietLimit = min 50 (byte at_) ∧ p.userLimit = byte (at_ + 1) ∧
          p.quietDwell = max 10 (min 3600 (word (at_ + 2))) ∧ p.margin = min 100 (byte (at_ + 4)) ∧
          p.ceiling = max 40 (min 93 (byte (at_ + 5))) ∧
          p.wakeLevel = max (p.ceiling + 5) (min 98 (byte (at_ + 6))) ∧
          p.shift = max 2 (min 6 (byte (at_ + 7))) ∧ p.deepDwell = min 240 (byte (at_ + 8)) ∧
          p.recallGuard = min 600 (word (at_ + 9)) ∧ p.restGuard = min 120 (byte (at_ + 11)) ∧
          p.awakeFloor = max 1 (min 4 (byte (at_ + 12))) ∧
          p.hold.code.toNat = byte (at_ + 13) % 16 ∧ p.hold.inverted = decide (128 ≤ byte (at_ + 13)) ∧
          p.rouse.code.toNat = byte (at_ + 14) % 16 ∧ p.rouse.inverted = decide (128 ≤ byte (at_ + 14))) ∧
        t.cfl.clampCount =
          moved
              [(byte 4, t.image.standbyAllowance), (word 5, t.image.deepAllowance), (word 7, t.image.drainLimit)] +
            ((List.range 4).map fun n =>
              let p := Profiles.get t.image.profiles (BitVec.ofNat 2 n)
              let at_ := 9 + 15 * n
              moved
                [(byte at_, p.quietLimit), (word (at_ + 2), p.quietDwell), (byte (at_ + 4), p.margin),
                  (byte (at_ + 5), p.ceiling), (byte (at_ + 6), p.wakeLevel), (byte (at_ + 7), p.shift),
                  (byte (at_ + 8), p.deepDwell), (word (at_ + 9), p.recallGuard), (byte (at_ + 11), p.restGuard),
                  (byte (at_ + 12), p.awakeFloor)]).sum ∧
        t.cfl.clampCount ≤ 43)

/-- RESTART in one event: what each block resets, and what it keeps (R16, R53, R77, R78, R106, R120, R141, R151, R159, R167,
R168). -/
def Obligations.RestartResetsBlocks : Prop :=
  ∀ (after : Micros) (sender straps : BitVec 6) (s : State), Hears s → fromMaintenance sender = true →
    sender ≠ s.cfl.station →
    ∃ t, exec (.restart after sender straps) s = .next t ∧
      t =
        { s.elapse after with
          lif := { receiver := .waiting, queue := [], beaconTimer := none, clash := false }
          pvt := { slots := List.replicate 16 none, pointer := 0, viewFull := false, isolated := false }
          lde :=
            { state := .unseeded, demand := none, level := none, lastUtilisation := none, lastUsers := none
              lastDemand := none, quiet := 0, lastUsed := none, linkLost := s.lde.linkLost }
          cvu := { book := [], recallTimer := none, recallGuard := none }
          rsq :=
            { phase := .loading, cover := none, tag := s.rsq.tag, askWait := none, backoff := none, drainTimer := none
              drainStep := .drainOrdered, darkGiven := false, wakeCause := none, omissions := 0, restGuard := none
              recentRecall := false, noCover := false, restClock := { mode := .stopped, measured := 0 }
              settleCount := 0, settled := false, unsettled := false, doze := 0 }
          plu := { s.plu with windowOpen := false, windowTimer := none, hold := false, rouse := false }
          cfl :=
            { s.cfl with station := straps, load := .reading, readTimer := some (s.clock + after + 50000) }
          acc :=
            { (s.elapse after).acc with
              counts := t.acc.counts, cursor0 := 0, cursor1 := 0, cursor2 := 0, cursor3 := 0 } } ∧
      Counted s t ([.arrivals .restart, .lineRestarts] ++ s.cvu.book.map fun _ => .removed .restart)

/-! ## The carrier link and the Load Estimator -/

/-- The port's work on every valid SAMPLE and its reply, in every phase (R154, R155, R157), and what no sample changes. -/
def Obligations.ValidSampleIsAnswered : Prop :=
  ∀ (after : Micros) (u : BitVec 10) (n : BitVec 11) (condition : CarrierCondition) (s : State), s.held = false →
    ∃ t, exec (.validSample after u n condition) s = .next t ∧
      t.clp =
        { link := .up, watch := some (s.clock + after + 5000000), lastCondition := some condition
          carrierFault := condition == .fault, currentOrder := t.rsq.order
          backlog :=
            if s.clp.backlog.length < 2 then
              s.clp.backlog ++ [{ recognized := true, phase := t.rsq.phase, order := t.rsq.order }]
            else s.clp.backlog } ∧
      t.lde.linkLost = (if s.clp.link = .lost then false else s.lde.linkLost) ∧
      t.count .validSamples = min 65535 (s.count .validSamples + 1) ∧
      t.count .linkReturns =
        (if s.clp.link = .lost then min 65535 (s.count .linkReturns + 1) else s.count .linkReturns) ∧
      t.count .carrierFaults =
        (if s.clp.carrierFault = false ∧ condition = .fault then min 65535 (s.count .carrierFaults + 1)
        else s.count .carrierFaults) ∧
      t.count .repliesDropped =
        (if s.clp.backlog.length < 2 then s.count .repliesDropped else min 65535 (s.count .repliesDropped + 1)) ∧
      t.cfl = s.cfl ∧ t.lif = { s.lif with queue := t.lif.queue } ∧
      t.plu = { s.plu with hold := t.plu.hold, rouse := t.plu.rouse } ∧
      t.cvu.recallGuard = s.cvu.recallGuard ∧
      t.pvt.slots.map (Option.map fun e => { e with seenUs := false }) =
        s.pvt.slots.map (Option.map fun e => { e with seenUs := false }) ∧
      t.pvt = { s.pvt with slots := t.pvt.slots } ∧
      CountsAlone (s.elapse after) t

/-- R4, R154, R164: a SAMPLE in LOADING is unused, not counted by the guard, and answered with LOADING and RUN. R3: outside LOADING
a SAMPLE less than 500 ms after the last used one is set aside: counted, and the estimator and the book left as they were.
LINK_LOST alone follows the link. -/
def Obligations.UnusedSamples : Prop :=
  (∀ (after : Micros) (u : BitVec 10) (n : BitVec 11) (condition : CarrierCondition) (s : State), s.held = false →
    s.rsq.phase = .loading →
    ∃ t, exec (.validSample after u n condition) s = .next t ∧
      t =
        { s.elapse after with
          lde := { s.lde with linkLost := if s.clp.link = .lost then false else s.lde.linkLost }
          clp := t.clp, acc := t.acc } ∧
      t.clp.currentOrder = .run ∧
      (s.clp.backlog.length < 2 →
        t.clp.backlog = s.clp.backlog ++ [{ recognized := true, phase := .loading, order := .run }]) ∧
      t.count .setAside = s.count .setAside) ∧
  (∀ (after : Micros) (u : BitVec 10) (n : BitVec 11) (condition : CarrierCondition) (last : Nat) (s : State),
    s.held = false → s.rsq.phase ≠ .loading → s.lde.lastUsed = some last → (s.clock + after) / 1000 < last + 500 →
    ∃ t, exec (.validSample after u n condition) s = .next t ∧
      t.lde = { s.lde with linkLost := if s.clp.link = .lost then false else s.lde.linkLost } ∧
      t.cvu = s.cvu ∧ t.count .setAside = min 65535 (s.count .setAside + 1) ∧ t.rsq.noCover = s.rsq.noCover ∧
      (s.rsq.phase = .awake → t.rsq.phase = .awake))

/-- R5, R6, R8, R10, R11: what a used sample writes in the estimator. A sample that starts an attempt leaves AWAKE, which zeroes
the quiet counter. -/
def Obligations.UsedSampleIsFolded : Prop :=
  ∀ (after : Micros) (u : BitVec 10) (n : BitVec 11) (condition : CarrierCondition) (s : State),
    s.held = false → s.rsq.phase ≠ .loading → SampleUsed s after →
    let d := ceilDiv (min 1000 u.toNat * s.image.capacity) 1000
    ∃ t, exec (.validSample after u n condition) s = .next t ∧
      t.lde.state = .tracking ∧ t.lde.lastUtilisation = some (min 1000 u.toNat) ∧ t.lde.lastUsers = some n.toNat ∧
      t.lde.lastDemand = some d ∧ t.lde.lastUsed = some ((s.clock + after) / 1000) ∧
      t.count .setAside = s.count .setAside ∧
      (ImageKept s.image →
        d ≤ s.image.capacity ∧ (d = 0 ↔ u.toNat = 0) ∧ min 1000 u.toNat * s.image.capacity ≤ 4095000) ∧
      (s.lde.state ≠ .tracking → t.lde.demand = some (16 * d) ∧ t.lde.level = some d) ∧
      (∀ demand, t.lde.demand = some demand → t.lde.level = some (ceilDiv demand 16)) ∧
      (s.rsq.phase ≠ .awake → t.lde.quiet = s.lde.quiet) ∧
      (s.rsq.phase = .awake → t.rsq.phase ≠ .awake → t.lde.quiet = 0) ∧
      (s.rsq.phase = .awake → t.rsq.phase = .awake → ∀ level, t.lde.level = some level →
        t.lde.quiet =
          if level ≤ s.image.capacity * s.profile.quietLimit / 100 ∧ n.toNat ≤ s.profile.userLimit then
            min 65535 (s.lde.quiet + 1)
          else 0)

/-- R7: the smoothing step of a used sample in TRACKING. That S is at most 16 × C and k at least 2 are promises of Inv. -/
def Obligations.SmoothingStepTowardDemand : Prop :=
  ∀ (after : Micros) (u : BitVec 10) (n : BitVec 11) (condition : CarrierCondition) (demand : Nat) (s : State),
    s.held = false → s.rsq.phase ≠ .loading → SampleUsed s after → s.lde.state = .tracking →
    s.lde.demand = some demand → demand ≤ 16 * s.image.capacity → 2 ≤ s.profile.shift →
    let target := 16 * ceilDiv (min 1000 u.toNat * s.image.capacity) 1000
    let k := s.profile.shift
    ∃ (t : State) (demand' : Nat) (step' : Int), exec (.validSample after u n condition) s = .next t ∧
      t.lde.demand = some demand' ∧ (demand' : Int) = demand + step' ∧
      (step' - 1) * 2 ^ k < (target : Int) - demand ∧ (target : Int) - demand ≤ step' * 2 ^ k ∧
      (demand < target → 1 ≤ step' ∧ demand' ≤ target) ∧
      (target < demand → step' ≤ 0 ∧ target ≤ demand') ∧
      (target < demand → demand - target ≤ 2 ^ k - 1 → step' = 0) ∧
      (target = demand → demand' = demand) ∧
      demand' ≤ 16 * s.image.capacity ∧
      t.lde.level = some (ceilDiv demand' 16) ∧ ceilDiv demand' 16 ≤ s.image.capacity

/-- A bad record only counts; an unrecognized one is answered with the recognized marker clear, leaving the current order
(R152, R153). Replies are sent in the order of composition, one at a time, and each is counted at its end (R155). -/
def Obligations.RecordsNotSamples : Prop :=
  (∀ (after : Micros) (s : State), s.held = false →
    exec (.linkBadRecord after) s = .next ((s.elapse after).bump .linkBadRecords) ∧
    (s.clp.backlog.length < 2 →
      exec (.unrecognizedRecord after) s =
        .next
          { (s.elapse after).bump .unrecognizedRecords with
            clp :=
              { s.clp with
                backlog := s.clp.backlog ++ [{ recognized := false, phase := s.rsq.phase, order := s.rsq.order }] } }) ∧
    (2 ≤ s.clp.backlog.length →
      exec (.unrecognizedRecord after) s =
        .next (((s.elapse after).bump .unrecognizedRecords).bump .repliesDropped))) ∧
  (∀ (after : Micros) (r : Reply) (rest : List Reply) (s : State), s.held = false → s.clp.backlog = r :: rest →
    s.replyOnLink = some r ∧
    exec (.replySent after) s =
      .next { (s.elapse after).bump .repliesSent with clp := { s.clp with backlog := rest } })

/-- R13, R70, R72, R89, R103, R158: the link watch expires. A rouse term that tests LINK_LOST turns true and ends a drain or a
rest (R134). -/
def Obligations.LinkWatchExpiryLosesLink : Prop :=
  ∀ (after : Micros) (s : State), s.held = false → Expired s.clp.watch s after → s.lde.linkLost = false →
    ∃ t, exec (.linkWatchExpiry after) s = .next t ∧
      t.clp = { s.clp with link := .lost, watch := none } ∧
      t.lde =
        { s.lde with
          linkLost := true, quiet := 0
          state := if s.lde.state = .tracking then .blind else s.lde.state } ∧
      t.count .linkLosses = min 65535 (s.count .linkLosses + 1) ∧
      (s.rsq.phase = .seeking →
        t.rsq.phase = .awake ∧ t.rsq.cover = none ∧ t.rsq.askWait = none ∧ t.rsq.backoff = s.rsq.backoff ∧
        t.count .abandonedAsks = min 65535 (s.count .abandonedAsks + 1)) ∧
      (s.rsq.phase ≠ .seeking → TermsFormed s → s.profile.rouse.code ≠ 8 →
        t.rsq.phase = s.rsq.phase ∧ t.rsq.cover = s.rsq.cover) ∧
      (∀ p, s.cvu.calling = false → chooseRecall s.cvu.book = some p →
        t.cvu.book = changePledge p.leaner (fun p => { p with state := .called, attempts := 1 }) s.cvu.book ∧
        t.cvu.recallTimer = some (s.clock + after + s.recallLength p.depth) ∧
        t.count .continuousRecalls = min 65535 (s.count .continuousRecalls + 1) ∧
        (s.rsq.phase = .awake → t.lif = ((s.elapse after).offer (.recall p.leaner p.tag)).lif)) ∧
      (s.profile.rouse = { code := 8, inverted := false } → s.plu.rouse = false → BookOnlyAwake s →
        Roused s (s.elapse after) t) ∧
      t.pvt = s.pvt ∧ t.cfl = s.cfl ∧ t.plu = { s.plu with hold := t.plu.hold, rouse := t.plu.rouse } ∧
      t.lif = { s.lif with queue := t.lif.queue }

/-! ## Committed load and room -/

/-- R21: ceiling and wake limit, with their bounds. -/
def Obligations.CeilingAndWakeLimit : Prop :=
  ∀ s : State, ImageKept s.image →
    s.ceilingN = s.image.capacity * s.profile.ceiling / 100 ∧
    s.wakeLimitW = s.image.capacity * s.profile.wakeLevel / 100 ∧
    s.ceilingN ≤ 3808 ∧ s.wakeLimitW ≤ 4013 ∧ s.ceilingN ≤ s.wakeLimitW ∧
    (20 ≤ s.image.capacity → s.ceilingN + 1 ≤ s.wakeLimitW) ∧
    s.wakeLimitW + 1 ≤ s.image.capacity ∧
    (s.image.capacity ≤ s.workingLevel → s.wakeLimitW < s.workingLevel)

/-- R26: the committed load, with its bounds, in a state that keeps the promises of Inv; and what the estimator hands out beside S
(R2): the working level, L in TRACKING and C in UNSEEDED and BLIND, and the blind indication. -/
def Obligations.CommittedLoad : Prop :=
  ∀ s : State,
    (∀ level, s.lde.state = .tracking → s.lde.level = some level → s.workingLevel = level) ∧
    ((s.lde.state = .unseeded ∨ s.lde.state = .blind) → s.workingLevel = s.image.capacity) ∧
    (s.lde.isBlind = true ↔ s.lde.state = .unseeded ∨ s.lde.state = .blind) ∧
    s.committed16 = s.lde.handedDemand + (s.cvu.book.map (·.reserve)).sum ∧
    (s.lde.state = .unseeded → s.lde.handedDemand = 0) ∧
    (∀ demand, s.lde.state ≠ .unseeded → s.lde.demand = some demand → s.lde.handedDemand = demand) ∧
    s.committed = ceilDiv s.committed16 16 ∧
    (s.Inv → s.committed16 ≤ 458640 ∧ s.committed ≤ 28665) ∧
    (s.Inv → s.cvu.book = [] → s.lde.state = .tracking → s.lde.level = some s.committed)

/-- R28: the room and the conditions that force it to 0. -/
def Obligations.AdvertisedRoom : Prop :=
  ∀ s : State,
    ((s.rsq.phase ≠ .awake ∨ s.image.role = .stay ∨ s.lde.state ≠ .tracking ∨ s.lif.clash = true ∨
        s.plu.windowOpen = false) → s.room = 0) ∧
    (s.rsq.phase = .awake → s.image.role ≠ .stay → s.lde.state = .tracking → s.lif.clash = false →
      s.plu.windowOpen = true → (s.room : Int) = max 0 ((s.ceilingN : Int) - s.committed)) ∧
    s.room ≤ s.image.capacity * s.profile.ceiling / 100 ∧
    (s.ceilingN ≤ s.committed → s.room = 0) ∧
    (ImageKept s.image → (s.image.capacity = 1 ∨ s.image.capacity = 2 ∧ s.profile.ceiling < 50) → s.room = 0)

/-- R24: the decay of each reserve at a used sample, its properties, and no decay at an unused sample. -/
def Obligations.ReservesDecay : Prop :=
  (∀ (after : Micros) (u : BitVec 10) (n : BitVec 11) (condition : CarrierCondition) (s : State), s.held = false →
    s.rsq.phase ≠ .loading →
    ∃ t, exec (.validSample after u n condition) s = .next t ∧
      (SampleUsed s after →
        t.cvu.book.map (fun p => (p.leaner, p.tag, p.amount, p.reserve)) =
          s.cvu.book.map fun p =>
            (p.leaner, p.tag, p.amount,
              if p.state = .granted then p.reserve else p.reserve - p.reserve / 2 ^ s.profile.shift)) ∧
      (¬SampleUsed s after → t.cvu.book = s.cvu.book)) ∧
  ∀ r k : Nat, 2 ≤ k →
    decayedReserve r k ≤ r ∧
    (2 ^ k ≤ r → decayedReserve r k < r ∧ 2 ^ k - 1 ≤ decayedReserve r k) ∧
    (r < 2 ^ k → decayedReserve r k = r) ∧
    (0 < r → 0 < decayedReserve r k) ∧
    (2 ^ k ≤ r → ∃ m, Nat.repeat (fun r => decayedReserve r k) m r = 2 ^ k - 1)

/-! ## Cover pledges -/

/-- R59 and R29: an ask from a station without a pledge is denied for the first test that applies, with the room formed then. -/
def Obligations.AskDeniedInOrder : Prop :=
  ∀ (after : Micros) (sender : BitVec 6) (sector : BitVec 3) (tag : BitVec 8) (amount : BitVec 16) (s : State),
    Hears s → fromMaintenance sender = false → sender ≠ s.cfl.station → s.rsq.phase ≠ .mute →
    (∀ p ∈ s.cvu.book, p.leaner ≠ sender.toNat) →
    let a := max 1 (min 4095 amount.toNat)
    let answer := fun reason =>
      exec (.coverAsk after sender sector tag amount) s =
        .next
          ((((s.arrived after .coverAsk).bump .asksReceived).offer (.coverDeny sender.toNat tag reason s.room)).bump
            (.deniesSent reason))
    (sector ≠ s.image.sector → answer .sector) ∧
    (sector = s.image.sector → s.image.role = .stay → answer .role) ∧
    (sector = s.image.sector → s.image.role ≠ .stay → s.lif.clash = true → answer .clash) ∧
    (sector = s.image.sector → s.image.role ≠ .stay → s.lif.clash = false → s.lde.state ≠ .tracking → answer .blind) ∧
    (sector = s.image.sector → s.image.role ≠ .stay → s.lif.clash = false → s.lde.state = .tracking →
      s.plu.windowOpen = false → answer .closed) ∧
    (sector = s.image.sector → s.image.role ≠ .stay → s.lif.clash = false → s.lde.state = .tracking →
      s.plu.windowOpen = true → s.rsq.phase ≠ .awake → answer .notAwake) ∧
    (sector = s.image.sector → s.image.role ≠ .stay → s.lif.clash = false → s.lde.state = .tracking →
      s.plu.windowOpen = true → s.rsq.phase = .awake → 6 ≤ s.cvu.book.length → answer .full) ∧
    (sector = s.image.sector → s.image.role ≠ .stay → s.lif.clash = false → s.lde.state = .tracking →
      s.plu.windowOpen = true → s.rsq.phase = .awake → s.cvu.book.length < 6 → s.ceilingN < s.committed + a →
      answer .noRoom)

/-- R20, R23, R27, R60: an ask no deny test stops is granted. -/
def Obligations.AskGranted : Prop :=
  ∀ (after : Micros) (sender : BitVec 6) (tag : BitVec 8) (amount : BitVec 16) (s : State),
    Hears s → fromMaintenance sender = false → sender ≠ s.cfl.station → s.image.role ≠ .stay → s.lif.clash = false →
    s.lde.state = .tracking → s.plu.windowOpen = true → s.rsq.phase = .awake → s.cvu.book.length < 6 →
    (∀ p ∈ s.cvu.book, p.leaner ≠ sender.toNat) →
    let a := max 1 (min 4095 amount.toNat)
    s.committed + a ≤ s.ceilingN →
    exec (.coverAsk after sender s.image.sector tag amount) s =
      .next
        ((State.offer (.coverGrant sender.toNat tag a)
          { (s.arrived after .coverAsk).bump .asksReceived with
            cvu :=
              { s.cvu with
                book :=
                  s.cvu.book ++
                    [{ leaner := sender.toNat, tag := tag, amount := a, reserve := 16 * a, state := .granted
                       depth := none, named := false, grantAge := 0, attempts := 0 }] } }).bump .granted)

/-- R27, R57 to R60: an earlier pledge for the asker is removed as REPLACED, and the deny tests and the grant test then read the
book after the removal: the ask is answered as that of a station without a pledge (AskDeniedInOrder, AskGranted). A call of
the pledge ends without a recall guard: the recall timer stops, and in continuous-recall mode the next recall starts in the
same event (R70, R74). That a RECALL the full queue drops is counted as sent is log 25. -/
def Obligations.AskReplacesEarlierPledge : Prop :=
  ∀ (after : Micros) (sender : BitVec 6) (sector : BitVec 3) (tag : BitVec 8) (amount : BitVec 16) (p : Pledge)
    (s : State),
    Hears s → fromMaintenance sender = false → sender ≠ s.cfl.station → s.rsq.phase ≠ .mute → BookKept s.cvu.book →
    p ∈ s.cvu.book → p.leaner = sender.toNat →
    let left := s.cvu.book.filter (·.leaner != sender.toNat)
    let timer := if p.state = .called then none else s.cvu.recallTimer
    let a := max 1 (min 4095 amount.toNat)
    let granted :=
      sector = s.image.sector ∧ s.image.role ≠ .stay ∧ s.lif.clash = false ∧ s.lde.state = .tracking ∧
        s.plu.windowOpen = true ∧ s.rsq.phase = .awake ∧ left.length < 6 ∧
        ceilDiv (s.lde.handedDemand + (left.map (·.reserve)).sum) 16 + a ≤ s.ceilingN
    ((p.state = .called → s.continuousRecall = false ∨ s.cvu.book = [p]) →
      exec (.coverAsk after sender sector tag amount) s =
        exec (.coverAsk after sender sector tag amount)
          { s.bump (.removed .replaced) with cvu := { s.cvu with book := left, recallTimer := timer } }) ∧
    ∃ t, exec (.coverAsk after sender sector tag amount) s = .next t ∧
      t.count (.removed .replaced) = min 65535 (s.count (.removed .replaced) + 1) ∧
      t.count .asksReceived = min 65535 (s.count .asksReceived + 1) ∧
      t.cvu.recallGuard = s.cvu.recallGuard ∧
      (granted →
        t.cvu =
          { s.cvu with
            book :=
              left ++
                [{ leaner := sender.toNat, tag := tag, amount := a, reserve := 16 * a, state := .granted, depth := none
                   named := false, grantAge := 0, attempts := 0 }]
            recallTimer := timer } ∧
        t.count .granted = min 65535 (s.count .granted + 1)) ∧
      (¬granted →
        t.cvu.book.map (·.leaner) = left.map (·.leaner) ∧ t.count .granted = s.count .granted ∧
        ∃ reason, t.count (.deniesSent reason) = min 65535 (s.count (.deniesSent reason) + 1)) ∧
      (p.state = .called → s.continuousRecall = true → ∀ q, chooseRecall left = some q →
        t.cvu =
          { s.cvu with
            book := changePledge q.leaner (fun q => { q with state := .called, attempts := 1 }) left
            recallTimer := some (s.clock + after + s.recallLength q.depth) } ∧
        t.count .continuousRecalls = min 65535 (s.count .continuousRecalls + 1) ∧
        t.count .recallsSent = min 65535 (s.count .recallsSent + 1) ∧
        let reason : DenyReason :=
          if sector ≠ s.image.sector then .sector
          else if s.image.role = .stay then .role
          else if s.lif.clash then .clash
          else if s.lde.state ≠ .tracking then .blind
          else .closed
        t.count (.deniesSent reason) = min 65535 (s.count (.deniesSent reason) + 1) ∧
        t.lif =
          (((s.arrived after .coverAsk).offer (.recall q.leaner q.tag)).offer
            (.coverDeny sender.toNat tag reason 0)).lif)

/-- R66, R69, R74: a RESUME that matches releases its pledge, and ends its call with the recall guard; any other is counted
unmatched. In continuous-recall mode the end of a call starts the next recall in the same event (R70). That a RECALL the full
queue drops is counted as sent is the model's choice (log 25). -/
def Obligations.ResumeReleases : Prop :=
  (∀ (after : Micros) (sender : BitVec 6) (tag : BitVec 8) (s : State), Hears s → sender ≠ s.cfl.station →
    ((∀ p ∈ s.cvu.book, ¬(p.leaner = sender.toNat ∧ p.tag = tag)) →
      exec (.resume after sender tag) s = .next ((s.arrived after .resume).bump .unmatchedResumes)) ∧
    (∀ p ∈ s.cvu.book, p.leaner = sender.toNat → p.tag = tag → BookKept s.cvu.book →
      (p.state = .called → s.continuousRecall = false ∨ s.cvu.book = [p]) →
      exec (.resume after sender tag) s =
        .next
          { (s.arrived after .resume).bump (.removed .resumed) with
            cvu :=
              { book := s.cvu.book.filter (·.leaner != sender.toNat)
                recallTimer := if p.state = .called then none else s.cvu.recallTimer
                recallGuard :=
                  if p.state = .called ∧ s.profile.recallGuard ≠ 0 then
                    some (s.clock + after + s.profile.recallGuard * 1000000)
                  else s.cvu.recallGuard } })) ∧
  (∀ (after : Micros) (sender : BitVec 6) (tag : BitVec 8) (p q : Pledge) (s : State), Hears s →
    sender ≠ s.cfl.station → BookKept s.cvu.book → p ∈ s.cvu.book → p.leaner = sender.toNat → p.tag = tag →
    p.state = .called → s.continuousRecall = true →
    chooseRecall (s.cvu.book.filter (·.leaner != sender.toNat)) = some q →
    ∃ t, exec (.resume after sender tag) s = .next t ∧
      t.cvu =
        { book :=
            changePledge q.leaner (fun q => { q with state := .called, attempts := 1 })
              (s.cvu.book.filter (·.leaner != sender.toNat))
          recallTimer := some (s.clock + after + s.recallLength q.depth)
          recallGuard :=
            if s.profile.recallGuard ≠ 0 then some (s.clock + after + s.profile.recallGuard * 1000000)
            else s.cvu.recallGuard } ∧
      t.lif = ((s.arrived after .resume).offer (.recall q.leaner q.tag)).lif ∧
      t.count (.removed .resumed) = min 65535 (s.count (.removed .resumed) + 1) ∧
      t.count .continuousRecalls = min 65535 (s.count .continuousRecalls + 1) ∧
      t.count .recallsSent = min 65535 (s.count .recallsSent + 1))

/-- R71: which pledge a recall takes. -/
def Obligations.RecallTakesNewest : Prop :=
  ∀ (book : List Pledge),
    (∀ p ∈ book, p.state = .granted ∨ p.state = .resting ∧ (p.depth = some .standby ∨ p.depth = some .deep)) →
    (book = [] → chooseRecall book = none) ∧
    (book ≠ [] → ∃ (older newer : List Pledge) (p : Pledge), book = older ++ p :: newer ∧ chooseRecall book = some p ∧
      ((p.state = .granted ∧ ∀ q ∈ newer, q.state ≠ .granted) ∨
        (p.state = .resting ∧ p.depth = some .standby ∧ (∀ q ∈ book, q.state ≠ .granted) ∧
          ∀ q ∈ newer, q.depth ≠ some .standby) ∨
        (p.state = .resting ∧ p.depth = some .deep ∧ (∀ q ∈ book, q.state ≠ .granted ∧ q.depth ≠ some .standby) ∧
          newer = [])))

/-- R68, R69, R70, R72: when a used sample at a cover that is neither closed, blind nor in clash starts a recall, and what the
recall does. That a RECALL the full queue drops is counted as sent is the model's choice (log 25). -/
def Obligations.OverloadStartsRecall : Prop :=
  ∀ (after : Micros) (u : BitVec 10) (n : BitVec 11) (condition : CarrierCondition) (s : State), s.held = false →
    s.rsq.phase = .awake → SampleUsed s after → s.plu.windowOpen = true → s.lif.clash = false →
    ∃ t, exec (.validSample after u n condition) s = .next t ∧ ∀ level, t.lde.level = some level →
      let decayed := s.cvu.book.map (decayPledge s.profile.shift)
      let starts :=
        s.wakeLimitW < level ∧ s.cvu.calling = false ∧ (s.cvu.recallGuard = none ∨ s.image.capacity ≤ level)
      (¬starts → t.cvu = { s.cvu with book := decayed }) ∧
      (starts → ∀ p, chooseRecall decayed = some p →
        t.cvu =
          { s.cvu with
            book := changePledge p.leaner (fun p => { p with state := .called, attempts := 1 }) decayed
            recallTimer :=
              some
                (s.clock + after +
                  (if p.depth = some .deep then s.image.deepAllowance else s.image.standbyAllowance) * 1000000 +
                  2 * (2 ^ s.image.periodCode.toNat * 1000000)) } ∧
        t.lif = ((s.elapse after).offer (.recall p.leaner p.tag)).lif ∧
        t.count .overloadRecalls = min 65535 (s.count .overloadRecalls + 1) ∧
        t.count .recallsSent = min 65535 (s.count .recallsSent + 1))

/-- R73: the recall timer expires: below 3 attempts the RECALL goes again, at 3 the pledge is removed as RECALL_FAILED, and its
call ends without a guard; in continuous-recall mode the next recall starts in the same event (R70, R74). That a RECALL the
full queue drops is counted as sent is the model's choice (log 25). -/
def Obligations.RecallTimerExpiryRetries : Prop :=
  ∀ (after : Micros) (p : Pledge) (s : State), s.held = false → Expired s.cvu.recallTimer s after →
    BookKept s.cvu.book → p ∈ s.cvu.book → p.state = .called →
    (p.attempts < 3 →
      ∃ t, exec (.recallTimerExpiry after) s = .next t ∧
        t =
          { ((s.elapse after).offer (.recall p.leaner p.tag)).bump .recallsSent with
            cvu :=
              { s.cvu with
                book := changePledge p.leaner (fun p => { p with attempts := p.attempts + 1 }) s.cvu.book
                recallTimer := some (s.clock + after + s.recallLength p.depth) } }) ∧
    (3 ≤ p.attempts → (s.continuousRecall = false ∨ s.cvu.book = [p]) →
      exec (.recallTimerExpiry after) s =
        .next
          { (s.elapse after).bump (.removed .recallFailed) with
            cvu := { s.cvu with book := s.cvu.book.filter (·.leaner != p.leaner), recallTimer := none } }) ∧
    (3 ≤ p.attempts → s.continuousRecall = true →
      ∀ q, chooseRecall (s.cvu.book.filter (·.leaner != p.leaner)) = some q →
        ∃ t, exec (.recallTimerExpiry after) s = .next t ∧
          t.cvu =
            { s.cvu with
              book :=
                changePledge q.leaner (fun q => { q with state := .called, attempts := 1 })
                  (s.cvu.book.filter (·.leaner != p.leaner))
              recallTimer := some (s.clock + after + s.recallLength q.depth) } ∧
          t.lif = ((s.elapse after).offer (.recall q.leaner q.tag)).lif ∧
          t.count (.removed .recallFailed) = min 65535 (s.count (.removed .recallFailed) + 1) ∧
          t.count .continuousRecalls = min 65535 (s.count .continuousRecalls + 1) ∧
          t.count .recallsSent = min 65535 (s.count .recallsSent + 1))

/-- R69, R90: the recall guard and the backoff expire and do no more. R99: at the end of the rest guard RECENT_RECALL is
false, and a rouse term that tests it in inverted sense turns true and ends a drain or a rest (R134). -/
def Obligations.GuardsExpire : Prop :=
  ∀ (after : Micros) (s : State), s.held = false →
    (Expired s.cvu.recallGuard s after →
      exec (.recallGuardExpiry after) s = .next { s.elapse after with cvu := { s.cvu with recallGuard := none } }) ∧
    (Expired s.rsq.backoff s after →
      exec (.backoffExpiry after) s =
        .next { s.elapse after with rsq := { (s.elapse after).rsq with backoff := none } }) ∧
    (Expired s.rsq.restGuard s after →
      ∃ t, exec (.restGuardExpiry after) s = .next t ∧
        t.rsq.restGuard = none ∧ t.rsq.recentRecall = false ∧
        t.lde = s.lde ∧ t.cvu = s.cvu ∧ t.pvt = s.pvt ∧ t.clp = s.clp ∧ t.cfl = s.cfl ∧
        t.plu = { s.plu with hold := t.plu.hold, rouse := t.plu.rouse } ∧
        (TermsFormed s → s.profile.rouse.code ≠ 12 →
          t.rsq.phase = s.rsq.phase ∧ t.rsq.cover = s.rsq.cover ∧ t.lif = s.lif ∧
          ∀ c, t.count c = s.count c) ∧
        (s.rsq.recentRecall = true → s.profile.rouse = { code := 12, inverted := true } → s.plu.rouse = false →
          Roused s (s.elapse after) t))

/-- R62 to R64: what a stored beacon of a leaner does to its pledge. A beacon of the own sector is stored when its sender has an
entry (R40), when a slot is free (R42), and when an entry can be evicted (R43). A call that ends as SEEN_AWAKE stops the recall
timer and starts the guard, and in continuous-recall mode the next recall starts in the same event (R69, R70, R74). -/
def Obligations.LeanerBeaconFollowed : Prop :=
  ∀ (after : Micros) (sender : BitVec 6) (b : BeaconFields) (h : Heard) (p : Pledge) (s : State), Hears s →
    sender ≠ s.cfl.station → fromMaintenance sender = false → s.rsq.phase = .awake → BookKept s.cvu.book →
    readBeacon sender.toNat b = some h → p ∈ s.cvu.book → p.leaner = sender.toNat →
    ((s.pvt.find sender.toNat).isSome = true ∨
      ViewKept s.own s.pvt ∧
        (none ∈ s.pvt.slots ∨
          ∃ e ∈ s.pvt.entries, 3 ≤ e.age ∧ s.rsq.cover ≠ some e.station ∧ ∀ q ∈ s.cvu.book, q.leaner ≠ e.station)) →
    ∃ t, exec (.beacon after sender s.image.sector b) s = .next t ∧
      ((h.phase = .awake ∨ h.cover ≠ some s.cfl.station.toNat) →
        let left := s.cvu.book.filter (·.leaner != sender.toNat)
        t.cvu.book.map (·.leaner) = (s.cvu.book.map (·.leaner)).filter (· != sender.toNat) ∧
        t.count (.removed .seenAwake) = min 65535 (s.count (.removed .seenAwake) + 1) ∧
        t.cvu.recallGuard =
          (if p.state = .called ∧ s.profile.recallGuard ≠ 0 then
            some (s.clock + after + s.profile.recallGuard * 1000000)
          else s.cvu.recallGuard) ∧
        ((p.state = .called → s.continuousRecall = false ∨ s.cvu.book = [p]) →
          t.cvu.book = left ∧ t.cvu.recallTimer = if p.state = .called then none else s.cvu.recallTimer) ∧
        (p.state = .called → s.continuousRecall = true → ∀ q, chooseRecall left = some q →
          t.cvu.book = changePledge q.leaner (fun q => { q with state := .called, attempts := 1 }) left ∧
          t.cvu.recallTimer = some (s.clock + after + s.recallLength q.depth) ∧
          t.lif = ((s.arrived after .beacon).offer (.recall q.leaner q.tag)).lif)) ∧
      (h.phase ≠ .awake → h.cover = some s.cfl.station.toNat →
        ∃ q, t.cvu = { s.cvu with book := changePledge sender.toNat (fun _ => q) s.cvu.book } ∧
          q.leaner = p.leaner ∧ q.tag = p.tag ∧ q.amount = p.amount ∧ q.reserve = p.reserve ∧
          q.grantAge = p.grantAge ∧ q.attempts = p.attempts ∧
          (p.state = .granted → q.named = true) ∧ (p.state = .called → q.named = true) ∧
          (p.state = .resting → q.named = p.named) ∧
          (p.state = .granted → (h.phase = .standby ∨ h.phase = .deep) →
            q.state = .resting ∧ q.depth = some (if h.phase = .deep then .deep else .standby)) ∧
          (p.state = .granted → h.phase ≠ .standby → h.phase ≠ .deep → q.state = .granted ∧ q.depth = p.depth) ∧
          (p.state ≠ .granted → q.state = p.state) ∧
          (p.state ≠ .granted → h.phase = .deep → q.depth = some .deep) ∧
          (p.state = .called → h.phase = .standby → p.depth ≠ some .deep → q.depth = some .standby) ∧
          (p.state ≠ .granted → p.depth = some .deep → q.depth = some .deep) ∧
          (p.state ≠ .granted → h.phase ≠ .standby → h.phase ≠ .deep → q.depth = p.depth) ∧
          (p.state = .resting → h.phase = .standby → q.depth = p.depth))

/-! ## The peer view -/

/-- R39: the field checks of a beacon, what a beacon that fails them does, and the values that are taken as they stand. -/
def Obligations.BeaconFieldChecks : Prop :=
  (∀ (sender : Nat) (b : BeaconFields),
    ((readBeacon sender b).isSome = true ↔
      b.phase.toNat ≤ 6 ∧ b.role.toNat ≤ 2 ∧ 1 ≤ b.capacity.toNat ∧ b.capacity.toNat ≤ 4095 ∧
      b.covering.length ≤ 6 ∧ b.covering.Nodup ∧
      b.resting.length ≤ 15 ∧ (b.resting.map (·.toNat)).Pairwise (· < ·) ∧
      (b.cover = 0xFF ∨ b.cover.toNat ≤ 59 ∧ b.cover.toNat ≠ sender) ∧
      ∀ n ∈ b.covering ++ b.resting, n.toNat ≤ 59 ∧ n.toNat ≠ sender) ∧
    ∀ h, readBeacon sender b = some h →
      h.station = sender ∧ phaseCode h.phase = b.phase.toNat ∧ roleCode h.role = b.role.toNat ∧
      h.capacity = b.capacity.toNat ∧ h.level = b.level.toNat ∧ h.room = b.room.toNat ∧
      h.cover = (if b.cover = 0xFF then none else some b.cover.toNat) ∧
      h.covering = b.covering.map (·.toNat) ∧ h.resting = b.resting.map (·.toNat) ∧
      h.profile = b.profile ∧ h.clash = b.clash) ∧
  (∀ (after : Micros) (sender : BitVec 6) (sector : BitVec 3) (b : BeaconFields) (s : State), Hears s →
    sender ≠ s.cfl.station → fromMaintenance sender = false → s.rsq.phase ≠ .mute → readBeacon sender.toNat b = none →
    exec (.beacon after sender sector b) s = .next ((s.arrived after .beacon).bump .malformedBeacons))

/-- R40, R42: a beacon of the own sector updates its sender's entry, or is inserted into the free slot of lowest number. The
view then holds a FRESH entry, so ISOLATED is false (R53). A rouse term that tests ISOLATED or UNSETTLED and is turned true ends a
drain or a rest (R134); that ISOLATED is formed before the entry is handed on is log 12. -/
def Obligations.BeaconUpdatesOrInserts : Prop :=
  ∀ (after : Micros) (sender : BitVec 6) (b : BeaconFields) (h : Heard) (i : Nat) (s : State), Hears s →
    sender ≠ s.cfl.station → fromMaintenance sender = false → s.rsq.phase ≠ .mute → ViewKept s.own s.pvt →
    readBeacon sender.toNat b = some h →
    let roused := fun t : State =>
      BookOnlyAwake s → RousedByView s (s.arrived after .beacon) t (s.rsq.cover ≠ some sender.toNat)
    (∀ e, s.pvt.slots[i]? = some (some e) → e.station = sender.toNat →
      ∃ t, exec (.beacon after sender s.image.sector b) s = .next t ∧
        t.pvt =
          { s.pvt with
            slots :=
              s.pvt.slots.set i
                (some
                  { toHeard := h, age := 0, misses := e.misses, shunned := e.shunned
                    seenUs := e.seenUs || h.resting.contains s.cfl.station.toNat })
            isolated := false } ∧
        roused t) ∧
    ((∀ e ∈ s.pvt.entries, e.station ≠ sender.toNat) → s.pvt.slots[i]? = some none →
      (∀ j < i, s.pvt.slots[j]? ≠ some none) →
      ∃ t, exec (.beacon after sender s.image.sector b) s = .next t ∧
        t.pvt =
          { s.pvt with
            slots :=
              s.pvt.slots.set i
                (some
                  { toHeard := h, age := 0, misses := 0, shunned := false
                    seenUs := h.resting.contains s.cfl.station.toNat })
            isolated := false } ∧
        roused t)

/-- R43, R44, R47: with all 16 slots taken, the victim and the pointer, or the beacon dropped and VIEW_FULL raised. A
rouse term that tests ISOLATED or UNSETTLED and is turned true ends a drain or a rest (R134, log 12). -/
def Obligations.FullViewEvictsOrDrops : Prop :=
  ∀ (after : Micros) (sender : BitVec 6) (b : BeaconFields) (h : Heard) (s : State), Hears s →
    sender ≠ s.cfl.station → fromMaintenance sender = false → s.rsq.phase ≠ .mute → ViewKept s.own s.pvt →
    readBeacon sender.toNat b = some h → (∀ e ∈ s.pvt.entries, e.station ≠ sender.toNat) →
    (∀ slot ∈ s.pvt.slots, slot ≠ none) →
    let candidate := fun (i : Nat) (e : ViewEntry) =>
      s.pvt.slots[i]? = some (some e) ∧ 3 ≤ e.age ∧ s.rsq.cover ≠ some e.station ∧
        ∀ p ∈ s.cvu.book, p.leaner ≠ e.station
    (∀ i e, candidate i e → (∀ j f, candidate j f → f.age ≤ e.age) →
      (∀ j f, candidate j f → f.age = e.age → (i + 16 - s.pvt.pointer) % 16 ≤ (j + 16 - s.pvt.pointer) % 16) →
      ∃ t, exec (.beacon after sender s.image.sector b) s = .next t ∧
        t.pvt =
          { s.pvt with
            slots :=
              s.pvt.slots.set i
                (some
                  { toHeard := h, age := 0, misses := 0, shunned := false
                    seenUs := h.resting.contains s.cfl.station.toNat })
            pointer := (s.pvt.pointer + 1) % 16
            isolated := false } ∧
        t.count .evictions = min 65535 (s.count .evictions + 1) ∧
        (BookOnlyAwake s → RousedByView s (s.arrived after .beacon) t (s.rsq.cover ≠ some sender.toNat))) ∧
    ((∀ i e, ¬candidate i e) →
      exec (.beacon after sender s.image.sector b) s =
        .next
          { (s.arrived after .beacon).bump .fullViewDrops with pvt := { s.pvt with viewFull := true } })

/-- R41, R48, R67, R101: a beacon of another sector removes its sender's entry; a pinned one is reported. A leaner's pledge is
removed as LEANER_LOST, and a call of it ends without a recall guard (R70, R74). The cover's is an orphan condition, a wake
with cause ORPHAN at a station whose rouse term is the factory one and so never true, ignored while it returns (R96); an aborted
drain queues its RESUME whatever its cause (R98), and nothing behind it where the book is empty (R55). A rouse term that tests
ISOLATED or UNSETTLED and is turned true ends a drain or a rest (R134, log 12). -/
def Obligations.OtherSectorBeaconRemoves : Prop :=
  ∀ (after : Micros) (sender : BitVec 6) (sector : BitVec 3) (b : BeaconFields) (h : Heard) (s : State), Hears s →
    sender ≠ s.cfl.station → fromMaintenance sender = false → s.rsq.phase ≠ .mute → ViewKept s.own s.pvt →
    BookKept s.cvu.book → readBeacon sender.toNat b = some h → sector ≠ s.image.sector →
    ((∀ e ∈ s.pvt.entries, e.station ≠ sender.toNat) →
      exec (.beacon after sender sector b) s = .next (s.arrived after .beacon)) ∧
    (∀ i e, s.pvt.slots[i]? = some (some e) → e.station = sender.toNat →
      ∃ t, exec (.beacon after sender sector b) s = .next t ∧
        t.pvt =
          { slots := s.pvt.slots.set i none, pointer := s.pvt.pointer, viewFull := false
            isolated := !((s.pvt.slots.set i none).filterMap id).any viewFresh } ∧
        t.count .otherSectorRemovals = min 65535 (s.count .otherSectorRemovals + 1) ∧
        (s.rsq.cover ≠ some sender.toNat →
          t.cvu.book.map (·.leaner) = (s.cvu.book.map (·.leaner)).filter (· != sender.toNat)) ∧
        (s.rsq.cover ≠ some sender.toNat → (∀ p ∈ s.cvu.book, p.leaner ≠ sender.toNat) →
          t.cvu = s.cvu ∧ t.count (.removed .leanerLost) = s.count (.removed .leanerLost)) ∧
        (s.rsq.cover ≠ some sender.toNat → ∀ p ∈ s.cvu.book, p.leaner = sender.toNat →
          let left := s.cvu.book.filter (·.leaner != sender.toNat)
          t.count (.removed .leanerLost) = min 65535 (s.count (.removed .leanerLost) + 1) ∧
          ((p.state = .called → s.continuousRecall = false ∨ s.cvu.book = [p]) →
            t.cvu =
              { s.cvu with
                book := left, recallTimer := if p.state = .called then none else s.cvu.recallTimer }) ∧
          (p.state = .called → s.continuousRecall = true → ∀ q, chooseRecall left = some q →
            t.cvu =
              { s.cvu with
                book := changePledge q.leaner (fun q => { q with state := .called, attempts := 1 }) left
                recallTimer := some (s.clock + after + s.recallLength q.depth) } ∧
            (s.rsq.phase = .awake → t.lif = ((s.arrived after .beacon).offer (.recall q.leaner q.tag)).lif))) ∧
        (BookOnlyAwake s → RousedByView s (s.arrived after .beacon) t (s.rsq.cover ≠ some sender.toNat)) ∧
        (s.rsq.cover = some sender.toNat →
          (s.rsq.phase = .draining →
            t.rsq.phase = .awake ∧ t.rsq.cover = none ∧
            (BookOnlyAwake s → t.lif = ((s.arrived after .beacon).offer (.resume sender.toNat s.rsq.tag)).lif)) ∧
          (s.rsq.phase = .standby → t.rsq.phase = if s.rsq.darkGiven then .warming else .waking) ∧
          (s.rsq.phase = .deep → t.rsq.phase = .warming) ∧
          (s.profile.rouse = { code := 15, inverted := true } → Orphaned s t)))

/-- R101: a stored beacon of the recorded cover, at a station whose rouse term is the factory one and so never true. A drain that it
aborts queues its RESUME (R98). -/
def Obligations.CoverBeaconTested : Prop :=
  ∀ (after : Micros) (sender : BitVec 6) (b : BeaconFields) (h : Heard) (s : State), Hears s →
    sender ≠ s.cfl.station → fromMaintenance sender = false → ViewKept s.own s.pvt → readBeacon sender.toNat b = some h →
    (s.pvt.find sender.toNat).isSome = true → s.rsq.cover = some sender.toNat →
    s.profile.rouse = { code := 15, inverted := true } → s.rsq.omissions ≤ 2 →
    (s.rsq.phase = .draining ∨ s.rsq.phase = .standby ∨ s.rsq.phase = .deep ∨ s.rsq.phase = .waking ∨
      s.rsq.phase = .warming) →
    ∃ t, exec (.beacon after sender s.image.sector b) s = .next t ∧
      (h.phase = .awake → s.cfl.station.toNat ∈ h.covering → t.rsq.omissions = 0 ∧ t.rsq.phase = s.rsq.phase) ∧
      (h.phase = .awake → s.cfl.station.toNat ∉ h.covering →
        t.rsq.omissions = min 2 (s.rsq.omissions + 1) ∧ (s.rsq.omissions = 0 → t.rsq.phase = s.rsq.phase)) ∧
      ((h.phase ≠ .awake ∨ s.cfl.station.toNat ∉ h.covering ∧ 1 ≤ s.rsq.omissions) →
        Orphaned s t ∧
        (s.rsq.phase = .draining → BookOnlyAwake s →
          t.lif = ((s.arrived after .beacon).offer (.resume sender.toNat s.rsq.tag)).lif))

/-! ## The rest cycle -/

/-- R83: the candidates for an ask amount and the order of preference among them. -/
def Obligations.CoverCandidateChosen : Prop :=
  ∀ (own : Nat) (v : PeerView) (amount : Nat), ViewKept own v →
    let candidate := fun e : ViewEntry =>
      e.age ≤ 2 ∧ e.phase = .awake ∧ (e.role = .anchor ∨ e.role = .capacity) ∧ e.shunned = false ∧ e.clash = false ∧
        amount ≤ e.room
    (v.chooseCover amount = none ↔ ∀ e ∈ v.entries, ¬candidate e) ∧
    ∀ e, v.chooseCover amount = some e →
      e ∈ v.entries ∧ candidate e ∧
      ∀ f ∈ v.entries, candidate f → f ≠ e →
        (e.role = .anchor ∧ f.role = .capacity) ∨
        (e.role = f.role ∧ (f.room < e.room ∨ f.room = e.room ∧ e.station < f.station))

/-- R19, R81, R82, R84, R116: the eligibility evaluation of a used sample in AWAKE whose condition changes neither LINK_LOST nor
CARRIER_FAULT: NO_COVER written, and the attempt of an eligible station. -/
def Obligations.EligibilityAtUsedSample : Prop :=
  ∀ (after : Micros) (u : BitVec 10) (n : BitVec 11) (condition : CarrierCondition) (s : State), s.held = false →
    s.rsq.phase = .awake → SampleUsed s after → s.clp.link ≠ .lost → s.clp.carrierFault = (condition == .fault) →
    ∃ t, exec (.validSample after u n condition) s = .next t ∧
      ∀ demand level, t.lde.demand = some demand → t.lde.level = some level →
        let quiet :=
          if level ≤ s.image.capacity * s.profile.quietLimit / 100 ∧ n.toNat ≤ s.profile.userLimit then
            min 65535 (s.lde.quiet + 1)
          else 0
        let ready :=
          s.image.role = .capacity ∧ s.plu.windowOpen = true ∧ s.plu.hold = false ∧ s.lif.clash = false ∧
          s.lde.linkLost = false ∧ condition = .onAir ∧ s.cvu.book = [] ∧ s.profile.quietDwell ≤ quiet ∧
          s.rsq.backoff = none
        let amount := max 1 (min 4095 (ceilDiv (demand * (100 + s.profile.margin)) 1600))
        let awake := (s.pvt.entries.filter fun e => decide (e.age ≤ 2) && e.phase == .awake).length
        (¬ready → t.rsq.noCover = false ∧ t.rsq.phase = .awake) ∧
        (ready → (s.pvt.chooseCover amount = none ∨ awake < s.profile.awakeFloor) →
          t.rsq.noCover = true ∧ t.rsq.phase = .awake) ∧
        (ready → ∀ e, s.pvt.chooseCover amount = some e → s.profile.awakeFloor ≤ awake →
          t.rsq.phase = .seeking ∧ t.rsq.tag = s.rsq.tag + 1 ∧ t.rsq.cover = some e.station ∧
          t.rsq.askWait = some (s.clock + after + 1000000) ∧ t.rsq.noCover = false ∧ t.lde.quiet = 0 ∧
          t.clp.currentOrder = .run ∧
          t.count .asksSent = min 65535 (s.count .asksSent + 1) ∧
          (s.lif.queue.length < 8 →
            t.lif.queue =
              joinQueue (.fresh (.coverAsk e.station (s.rsq.tag + 1) amount)) s.lif.queue))

/-- R85, R91: a matching grant in SEEKING starts the drain; without an entry for the cover the drain is aborted at once as an
orphan, and with a rouse term true it is aborted as roused. -/
def Obligations.GrantStartsDrain : Prop :=
  ∀ (after : Micros) (sender : BitVec 6) (tag : BitVec 8) (amount : BitVec 16) (s : State), Hears s →
    sender ≠ s.cfl.station → fromMaintenance sender = false → s.rsq.phase = .seeking →
    s.rsq.cover = some sender.toNat → s.rsq.tag = tag →
    let base := (s.arrived after .coverGrant).bump .grantsReceived
    let started : RestSequencer :=
      { base.rsq with
        phase := .draining, askWait := none, drainStep := .drainOrdered
        drainTimer := some (s.clock + after + s.image.drainLimit * 1000000), omissions := 0, wakeCause := none }
    let aborted := fun (cause : WakeCause) (t : State) =>
      t.rsq = { started with phase := .awake, cover := none, drainTimer := none, wakeCause := some cause } ∧
      t.lif = (base.offer (.resume sender.toNat tag)).lif ∧
      t.count (.wakes cause) = min 65535 (s.count (.wakes cause) + 1) ∧
      t.count .drainFailures = s.count .drainFailures ∧
      t.pvt = s.pvt ∧ t.lde = s.lde ∧ t.cvu = s.cvu ∧ t.plu = s.plu ∧ t.clp = s.clp ∧ t.cfl = s.cfl
    ((s.pvt.find sender.toNat).isSome = true → s.plu.rouse = false →
      exec (.coverGrant after sender tag amount) s = .next { base with rsq := started }) ∧
    ((s.pvt.find sender.toNat).isSome = true → s.plu.rouse = true →
      ∃ t, exec (.coverGrant after sender tag amount) s = .next t ∧ aborted .rouse t) ∧
    (s.pvt.find sender.toNat = none →
      ∃ t, exec (.coverGrant after sender tag amount) s = .next t ∧ aborted .orphan t)

/-- R85, R87, R100: notices at the leaner that do not belong to the attempt: a late grant and an unmatched RECALL are answered
with a RESUME carrying their tag, and the rest only arrive. R38, R57, R85, R100: notices of maintenance numbers. In MUTE the
notices have no effect (R105) but an ask, which is counted unanswered (R57); that a RECALL or a grant there is counted as an
arrival alone, the RECALL not as received, is the model's reading (log 20); that a grant or RECALL whose RESUME the full queue
drops is counted as answered is the model's choice (log 28). -/
def Obligations.NoticesOutsideTheAttempt : Prop :=
  ∀ (after : Micros) (sender : BitVec 6) (tag : BitVec 8) (amount : BitVec 16) (reason : Byte) (sector : BitVec 3)
    (b : BeaconFields) (s : State), Hears s → sender ≠ s.cfl.station →
    let matched := s.rsq.cover = some sender.toNat ∧ s.rsq.tag = tag
    let resting := s.rsq.phase = .draining ∨ s.rsq.phase = .standby ∨ s.rsq.phase = .deep
    let returning := s.rsq.phase = .waking ∨ s.rsq.phase = .warming
    (fromMaintenance sender = true ∨ s.rsq.phase = .mute →
      exec (.coverGrant after sender tag amount) s = .next (s.arrived after .coverGrant) ∧
      exec (.recall after sender tag) s = .next (s.arrived after .recall) ∧
      exec (.beacon after sender sector b) s = .next (s.arrived after .beacon)) ∧
    (fromMaintenance sender = true →
      exec (.coverAsk after sender sector tag amount) s = .next (s.arrived after .coverAsk)) ∧
    (fromMaintenance sender = false → s.rsq.phase = .mute →
      exec (.coverAsk after sender sector tag amount) s = .next ((s.arrived after .coverAsk).bump .asksUnanswered)) ∧
    (fromMaintenance sender = false → (s.rsq.phase = .awake ∨ (s.rsq.phase = .seeking ∨ resting ∨ returning) ∧ ¬matched) →
      exec (.coverGrant after sender tag amount) s =
        .next (((s.arrived after .coverGrant).offer (.resume sender.toNat tag)).bump .lateGrants)) ∧
    (fromMaintenance sender = false → (resting ∨ returning) → matched →
      exec (.coverGrant after sender tag amount) s = .next (s.arrived after .coverGrant)) ∧
    (fromMaintenance sender = false →
      (s.rsq.phase = .awake ∨ s.rsq.phase = .seeking ∨ (resting ∨ returning) ∧ ¬matched) →
      exec (.recall after sender tag) s =
        .next
          ((((s.arrived after .recall).bump .recallsReceived).offer (.resume sender.toNat tag)).bump
            .recallsAnswered)) ∧
    (fromMaintenance sender = false → returning → matched →
      exec (.recall after sender tag) s = .next ((s.arrived after .recall).bump .recallsReceived)) ∧
    (¬(s.rsq.phase = .seeking ∧ matched) →
      exec (.coverDeny after sender tag reason amount) s = .next (s.arrived after .coverDeny))

/-- R49, R86 to R88: a matching deny and the expiry of the ask wait are misses. -/
def Obligations.DenyOrExpiryIsMiss : Prop :=
  ∀ (after : Micros) (sender : BitVec 6) (tag : BitVec 8) (reason : Byte) (room : BitVec 16) (s : State),
    s.rsq.phase = .seeking → s.rsq.cover = some sender.toNat →
    let missed := fun (base t : State) =>
      t =
        { base with
          rsq :=
            { base.rsq with
              cover := none, phase := .awake, askWait := none
              backoff :=
                some
                  (s.clock + after +
                    2 ^ s.image.periodCode.toNat * 1000000 * (1 + s.cfl.station.toNat % 4)) }
          pvt :=
            { s.pvt with
              slots :=
                s.pvt.slots.map
                  (Option.map fun e =>
                    if e.station = sender.toNat then
                      { e with misses := min 2 (e.misses + 1), shunned := e.shunned || decide (2 ≤ e.misses + 1) }
                    else e) }
          acc := t.acc } ∧
      CountsAlone base t
    (Hears s → sender ≠ s.cfl.station → s.rsq.tag = tag →
      ∃ t, exec (.coverDeny after sender tag reason room) s = .next t ∧ missed (s.heard after) t ∧
        Counted s t
          ([.arrivals .coverDeny, .misses] ++
            match reasonOf reason with
            | some r => [.deniesReceived r]
            | none => [])) ∧
    (s.held = false → Expired s.rsq.askWait s after →
      ∃ t, exec (.askWaitExpiry after) s = .next t ∧ missed (s.elapse after) t ∧
        Counted s t [.askWaitExpiries, .misses])

/-- R96, R98, R99, R100: a matching RECALL aborts a drain, with RECENT_RECALL and the rest guard, or wakes a resting station. -/
def Obligations.RecallWakesLeaner : Prop :=
  ∀ (after : Micros) (sender : BitVec 6) (tag : BitVec 8) (s : State), Hears s → sender ≠ s.cfl.station →
    fromMaintenance sender = false → s.rsq.cover = some sender.toNat → s.rsq.tag = tag →
    let base := (s.arrived after .recall).bump .recallsReceived
    (s.rsq.phase = .draining →
      ∃ t, exec (.recall after sender tag) s = .next t ∧
        t.rsq.phase = .awake ∧ t.rsq.cover = none ∧ t.rsq.drainTimer = none ∧ t.rsq.wakeCause = some .recall ∧
        t.rsq.tag = s.rsq.tag ∧ t.rsq.backoff = s.rsq.backoff ∧
        t.rsq.recentRecall = (s.rsq.recentRecall || decide (s.profile.restGuard ≠ 0)) ∧
        t.rsq.restGuard =
          (if s.profile.restGuard = 0 then s.rsq.restGuard
          else some (s.clock + after + s.profile.restGuard * 60000000)) ∧
        t.lif = (base.offer (.resume sender.toNat tag)).lif ∧
        t.count (.wakes .recall) = min 65535 (s.count (.wakes .recall) + 1) ∧
        t.pvt = s.pvt ∧ t.lde = s.lde ∧ t.cvu = s.cvu ∧ t.clp = s.clp ∧ t.cfl = s.cfl) ∧
    ((s.rsq.phase = .standby ∨ s.rsq.phase = .deep) →
      ∃ t, exec (.recall after sender tag) s = .next t ∧
        t.rsq.phase = (if s.rsq.phase = .standby ∧ s.rsq.darkGiven = false then .waking else .warming) ∧
        t.rsq.wakeCause = some .recall ∧ t.rsq.cover = s.rsq.cover ∧ t.rsq.recentRecall = s.rsq.recentRecall ∧
        t.count (.wakes .recall) = min 65535 (s.count (.wakes .recall) + 1) ∧
        t.lif = base.lif ∧ t.pvt = s.pvt ∧ t.lde = s.lde ∧ t.cvu = s.cvu ∧ t.clp = s.clp ∧ t.cfl = s.cfl)

/-- R96, R97, R98, R109, R111: a wake taken in STANDBY or DEEP, and in DRAINING, whatever its cause. The rest guard of a RECALL
(R99) is in RecallWakesLeaner. -/
def Obligations.WakeFromRestMovesPhase : Prop :=
  ∀ (cause : WakeCause) (s : State),
    ((s.rsq.phase = .standby ∨ s.rsq.phase = .deep) →
      (s.rsq.phase = .standby → s.rsq.darkGiven = false → (s.wake cause).rsq.phase = .waking) ∧
      (s.rsq.phase = .standby → s.rsq.darkGiven = true → (s.wake cause).rsq.phase = .warming) ∧
      (s.rsq.phase = .deep → (s.wake cause).rsq.phase = .warming) ∧
      (s.wake cause).rsq.order = .run ∧
      (s.wake cause).rsq =
        { s.rsq with
          phase := (s.wake cause).rsq.phase, wakeCause := some cause, settled := false, unsettled := false
          restClock := { mode := .stopped, measured := s.rsq.restClock.measured } } ∧
      (s.wake cause).lif = s.lif ∧
      (s.wake cause).plu = { s.plu with hold := (s.wake cause).plu.hold, rouse := (s.wake cause).plu.rouse }) ∧
    (s.rsq.phase = .draining →
      (s.wake cause).rsq.phase = .awake ∧ (s.wake cause).rsq.cover = none ∧ (s.wake cause).rsq.drainTimer = none ∧
      (s.wake cause).rsq.wakeCause = some cause ∧ (s.wake cause).rsq.backoff = s.rsq.backoff ∧
      (s.wake cause).rsq.order = .run ∧
      (∀ cover, s.rsq.cover = some cover → (s.wake cause).lif = (s.offer (.resume cover s.rsq.tag)).lif) ∧
      (cause ≠ .recall →
        (s.wake cause).rsq =
          { s.rsq with phase := .awake, cover := none, drainTimer := none, wakeCause := some cause } ∧
        (s.wake cause).plu = s.plu) ∧
      (s.wake cause).count .drainFailures = s.count .drainFailures) ∧
    ((s.rsq.phase = .draining ∨ s.rsq.phase = .standby ∨ s.rsq.phase = .deep) →
      (s.wake cause).count (.wakes cause) = min 65535 (s.count (.wakes cause) + 1)) ∧
    (s.wake cause).pvt = s.pvt ∧ (s.wake cause).cvu = s.cvu ∧ (s.wake cause).lde = s.lde ∧
    (s.wake cause).clp = s.clp ∧ (s.wake cause).cfl = s.cfl

/-- R92 to R99, R134, R154: what a carrier report moves at a station that holds no pledge (R55), at a sample that does not change
LINK_LOST; and the drain timer's expiry. The sample may raise or clear CARRIER_FAULT (R157): a hold term that tests it is
reported to the rest clock before the carrier condition is read (R110, R133), and a rouse term that tests it and turns true
ends the drain or the rest before it is read, so that FAULT is then no drain failure and ON_AIR completes the wake at once. A
DEEP entry ends UNSETTLED (R109), which a hold or rouse term may test. The sample that ends a loss clears LINK_LOST first, and a
rouse term that tests it in inverted sense ends the drain or the rest likewise (R154). In SEEKING and MUTE no report moves the
sequencer (R156), whatever the link state and the terms. -/
def Obligations.DrainAndCarrierReports : Prop :=
  ∀ (after : Micros) (u : BitVec 10) (n : BitVec 11) (condition : CarrierCondition) (s : State), s.held = false →
    let failed := fun (base t : State) =>
      t.rsq =
        { base.rsq with
          phase := .awake, cover := none, drainTimer := none
          backoff := some (s.clock + after + s.image.drainLimit * 1000000) } ∧
      (∀ cover, s.rsq.cover = some cover → t.lif = (base.offer (.resume cover s.rsq.tag)).lif) ∧
      t.count .drainFailures = min 65535 (s.count .drainFailures + 1) ∧ t.pvt = s.pvt
    let timed := s.elapse after
    let resting := s.rsq.phase = .draining ∨ s.rsq.phase = .standby ∨ s.rsq.phase = .deep
    let left := if s.rsq.phase = .standby ∧ s.rsq.darkGiven = false then Phase.waking else Phase.warming
    let returned := fun t : State =>
      t.rsq.phase = .awake ∧ t.rsq.cover = none ∧
      (∀ cover, s.rsq.cover = some cover → t.lif = (timed.offer (.resume cover s.rsq.tag)).lif) ∧
      (s.rsq.cover = none → t.lif = s.lif)
    (s.rsq.phase = .draining → Expired s.rsq.drainTimer s after →
      ∃ t, exec (.drainTimerExpiry after) s = .next t ∧ failed (s.elapse after) t ∧
        t.lde = s.lde ∧ t.cvu = s.cvu ∧ t.plu = s.plu ∧ t.clp = s.clp ∧ t.cfl = s.cfl) ∧
    ((s.rsq.phase = .seeking ∨ s.rsq.phase = .mute) →
      ∃ t, exec (.validSample after u n condition) s = .next t ∧
        t.rsq = { timed.rsq with restClock := t.rsq.restClock } ∧
        t.rsq.restClock.measured = timed.rsq.restClock.measured ∧
        (s.rsq.restClock.mode = .stopped → t.rsq = timed.rsq) ∧
        t.pvt = s.pvt ∧ t.clp.lastCondition = some condition ∧ (s.cvu.book = [] → t.lif = s.lif)) ∧
    (s.clp.link ≠ .lost → s.cvu.book = [] →
      ∃ t, exec (.validSample after u n condition) s = .next t ∧
        let reported : State :=
          { timed with
            rsq :=
              { timed.rsq with
                restClock :=
                  { timed.rsq.restClock with
                    mode :=
                      if t.plu.hold = s.plu.hold then s.rsq.restClock.mode
                      else
                        match s.rsq.restClock.mode with
                        | .stopped => .stopped
                        | .running | .frozen => if t.plu.hold then .frozen else .running } } }
        (s.plu.rouse = false →
          (s.clp.carrierFault = (condition == .fault) ∨ TermsFormed s ∧ s.profile.rouse.code ≠ 9) →
          (resting → s.rsq.unsettled = false →
            (s.clp.carrierFault = (condition == .fault) → t.plu.hold = s.plu.hold) ∧ (TermsFormed s → TermsFormed t)) ∧
          (s.rsq.phase = .draining → s.rsq.unsettled = false →
            (condition = .drained →
              t.rsq = { reported.rsq with drainStep := .restOrdered } ∧ t.clp.currentOrder = .rest) ∧
            (condition = .resting →
              t.rsq.phase = .standby ∧ t.rsq.drainTimer = none ∧ t.rsq.darkGiven = false ∧ t.rsq.settleCount = 0 ∧
              t.rsq.cover = s.rsq.cover ∧ t.rsq.omissions = s.rsq.omissions ∧ t.rsq.unsettled = false ∧
              t.rsq.restClock = { mode := if t.plu.hold then .frozen else .running, measured := 0 } ∧
              t.pvt.slots = s.pvt.slots.map (Option.map fun e => { e with seenUs := false }) ∧
              t.count .restsEntered = min 65535 (s.count .restsEntered + 1)) ∧
            (condition = .fault → failed reported t) ∧
            (condition ≠ .drained → condition ≠ .resting → condition ≠ .fault → t.rsq = reported.rsq)) ∧
          (s.rsq.phase = .standby →
            (condition = .dark → s.rsq.darkGiven = true →
              (s.rsq.unsettled = false → t.rsq = { reported.rsq with phase := .deep, settled := false, doze := 0 }) ∧
              (s.rsq.unsettled = true → TermsFormed s → s.profile.rouse.code ≠ 11 →
                t.rsq =
                  { reported.rsq with
                    phase := .deep, settled := false, unsettled := false, doze := 0, restClock := t.rsq.restClock } ∧
                t.rsq.restClock.measured = timed.rsq.restClock.measured ∧ TermsFormed t) ∧
              ((s.rsq.unsettled = false ∨ TermsFormed s ∧ s.profile.rouse.code ≠ 11) →
                t.clp.currentOrder = .dark ∧ t.count .deepEntries = min 65535 (s.count .deepEntries + 1)) ∧
              (s.rsq.unsettled = true → TermsFormed s → s.profile.rouse.code = 11 →
                t.rsq.phase = .warming ∧ t.rsq.cover = s.rsq.cover ∧ t.rsq.wakeCause = some .rouse ∧
                t.rsq.unsettled = false ∧ t.plu.rouse = true ∧ t.clp.currentOrder = .run ∧
                t.count .deepEntries = min 65535 (s.count .deepEntries + 1) ∧
                t.count (.wakes .rouse) = min 65535 (s.count (.wakes .rouse) + 1))) ∧
            (¬(condition = .dark ∧ s.rsq.darkGiven = true) → t.rsq = reported.rsq)) ∧
          (s.rsq.phase = .deep → t.rsq = reported.rsq)) ∧
        ((s.rsq.phase = .waking ∨ s.rsq.phase = .warming) →
          (condition = .onAir →
            returned t ∧
            (s.rsq.wakeCause = some .recall → s.profile.restGuard ≠ 0 →
              t.rsq.recentRecall = true ∧
              t.rsq.restGuard = some (s.clock + after + s.profile.restGuard * 60000000)) ∧
            ((s.rsq.wakeCause ≠ some .recall ∨ s.profile.restGuard = 0) →
              t.rsq.recentRecall = s.rsq.recentRecall ∧ t.rsq.restGuard = s.rsq.restGuard)) ∧
          (condition ≠ .onAir → t.rsq = reported.rsq)) ∧
        (TermsFormed s → s.profile.rouse.code = 9 → s.plu.rouse = false → s.clp.carrierFault ≠ (condition == .fault) →
          resting →
          t.plu.rouse = true ∧ TermsFormed t ∧ t.clp.currentOrder = .run ∧ t.pvt = s.pvt ∧
          t.count (.wakes .rouse) = min 65535 (s.count (.wakes .rouse) + 1) ∧
          t.count .drainFailures = s.count .drainFailures ∧
          (s.rsq.phase = .draining →
            t.rsq =
              { reported.rsq with phase := .awake, cover := none, drainTimer := none, wakeCause := some .rouse } ∧
            returned t) ∧
          (s.rsq.phase ≠ .draining →
            t.rsq =
              { reported.rsq with
                phase := if condition = .onAir then .awake else left
                cover := if condition = .onAir then none else s.rsq.cover
                wakeCause := some .rouse, settled := false, unsettled := false
                restClock := { mode := .stopped, measured := timed.rsq.restClock.measured } } ∧
            (condition = .onAir → returned t) ∧ (condition ≠ .onAir → t.lif = s.lif)))) ∧
    (s.clp.link = .lost → s.lde.linkLost = true → s.cvu.book = [] →
      s.profile.rouse = { code := 8, inverted := true } → s.plu.rouse = false → resting →
      ∃ t, exec (.validSample after u n condition) s = .next t ∧
        t.clp.currentOrder = .run ∧ t.pvt = s.pvt ∧ t.rsq.wakeCause = some .rouse ∧
        t.count (.wakes .rouse) = min 65535 (s.count (.wakes .rouse) + 1) ∧
        t.count .drainFailures = s.count .drainFailures ∧ t.rsq.backoff = s.rsq.backoff ∧
        (s.rsq.phase = .draining → t.rsq.drainTimer = none) ∧
        ((s.rsq.phase = .draining ∨ condition = .onAir) → returned t) ∧
        (s.rsq.phase ≠ .draining → condition ≠ .onAir →
          t.rsq.phase = left ∧ t.rsq.cover = s.rsq.cover ∧ t.lif = s.lif))

/-! ## Window, profiles and flags -/

/-- R50, R121, R122: a WINDOW open. A notice masked out is counted and ignored. -/
def Obligations.WindowOpenTaken : Prop :=
  ∀ (after : Micros) (sender : BitVec 6) (duration : BitVec 16) (mask : BitVec 8) (s : State), Hears s →
    sender ≠ s.cfl.station → fromMaintenance sender = true →
    let minutes := if duration.toNat = 0 then 1 else if 720 < duration.toNat then 720 else duration.toNat
    (mask.getLsbD s.image.sector.toNat = false →
      exec (.windowOpen after sender duration mask) s = .next ((s.arrived after .window).bump .maskedOut)) ∧
    (mask.getLsbD s.image.sector.toNat = true →
      ∃ t, exec (.windowOpen after sender duration mask) s = .next t ∧
        t =
          { s.heard after with
            plu := { s.plu with windowOpen := true, windowTimer := some (s.clock + after + minutes * 60000000) }
            pvt :=
              if s.plu.windowOpen then s.pvt
              else { s.pvt with slots := s.pvt.slots.map (Option.map fun e => { e with misses := 0, shunned := false }) }
            acc := t.acc } ∧
        CountsAlone (s.elapse after) t ∧
        Counted s t
          ([.arrivals .window, .windowsTaken] ++ if s.plu.windowOpen then [] else [.windowOpenings]) ∧
        t.remainingMinutes = minutes ∧
        t.roomForced = (s.rsq.phase != .awake || s.image.role == .stay || s.lde.state != .tracking || s.lif.clash) ∧
        t.continuousRecall = (s.lde.state != .tracking || s.lif.clash) ∧
        ∀ sector amount, t.denyReason sector amount ≠ some .closed)

/-- R70, R72, R89, R96, R97, R98, R123, R124: the window closes by notice or by expiry; a close taken while CLOSED only counts. -/
def Obligations.WindowCloses : Prop :=
  ∀ (after : Micros) (sender : BitVec 6) (mask : BitVec 8) (s : State), s.held = false →
    let closed := fun (base t : State) =>
      let answered :=
        match s.rsq.phase, s.rsq.cover with
        | .draining, some cover => base.offer (.resume cover s.rsq.tag)
        | _, _ => base
      t.plu = { s.plu with windowOpen := false, windowTimer := none, hold := t.plu.hold, rouse := t.plu.rouse } ∧
      t.remainingMinutes = 0 ∧ t.room = 0 ∧
      (s.rsq.phase = .seeking →
        t.rsq.phase = .awake ∧ t.rsq.cover = none ∧ t.rsq.askWait = none ∧ t.rsq.backoff = s.rsq.backoff ∧
        t.count .abandonedAsks = min 65535 (s.count .abandonedAsks + 1)) ∧
      (s.rsq.phase = .draining →
        t.rsq.phase = .awake ∧ t.rsq.cover = none ∧ t.rsq.drainTimer = none ∧ t.rsq.wakeCause = some .close ∧
        t.rsq.backoff = s.rsq.backoff ∧ t.count .drainFailures = s.count .drainFailures ∧
        t.count (.wakes .close) = min 65535 (s.count (.wakes .close) + 1)) ∧
      ((s.rsq.phase = .standby ∨ s.rsq.phase = .deep) →
        t.rsq.phase = (if s.rsq.phase = .standby ∧ s.rsq.darkGiven = false then .waking else .warming) ∧
        t.rsq.cover = s.rsq.cover ∧ t.rsq.wakeCause = some .close ∧ (s.cvu.book = [] → t.lif.queue = s.lif.queue) ∧
        t.count (.wakes .close) = min 65535 (s.count (.wakes .close) + 1)) ∧
      (s.rsq.phase ≠ .seeking → s.rsq.phase ≠ .draining → s.rsq.phase ≠ .standby → s.rsq.phase ≠ .deep →
        t.rsq = (s.elapse after).rsq) ∧
      (∀ p, s.cvu.calling = false → chooseRecall s.cvu.book = some p →
        t.cvu.book = changePledge p.leaner (fun p => { p with state := .called, attempts := 1 }) s.cvu.book ∧
        t.cvu.recallTimer = some (s.clock + after + s.recallLength p.depth) ∧
        t.lif = (answered.offer (.recall p.leaner p.tag)).lif ∧
        t.count .continuousRecalls = min 65535 (s.count .continuousRecalls + 1)) ∧
      ((s.cvu.calling = true ∨ chooseRecall s.cvu.book = none) → t.cvu = s.cvu ∧ t.lif = answered.lif) ∧
      t.pvt = s.pvt ∧ t.lde = s.lde ∧ t.clp = s.clp ∧ t.cfl = s.cfl
    (Expired s.plu.windowTimer s after →
      ∃ t, exec (.windowTimerExpiry after) s = .next t ∧ closed (s.elapse after) t ∧
        t.count .closingsByExpiry = min 65535 (s.count .closingsByExpiry + 1)) ∧
    (Hears s → sender ≠ s.cfl.station → fromMaintenance sender = true →
      (mask.getLsbD s.image.sector.toNat = false →
        exec (.windowClose after sender mask) s = .next ((s.arrived after .window).bump .maskedOut)) ∧
      (mask.getLsbD s.image.sector.toNat = true → s.plu.windowOpen = false →
        exec (.windowClose after sender mask) s = .next ((s.arrived after .window).bump .windowsTaken)) ∧
      (mask.getLsbD s.image.sector.toNat = true → s.plu.windowOpen = true →
        ∃ t, exec (.windowClose after sender mask) s = .next t ∧ closed (s.arrived after .window) t ∧
          t.count .closingsByNotice = min 65535 (s.count .closingsByNotice + 1) ∧
          t.count .windowsTaken = min 65535 (s.count .windowsTaken + 1)))

/-- R129, R132 to R134: a FLAGS notice. A rouse term that turns true aborts a drain or wakes a resting station (R96 to R98). -/
def Obligations.FlagsTaken : Prop :=
  ∀ (after : Micros) (sender : BitVec 6) (actions : FlagActions) (mask : BitVec 8) (s : State), Hears s →
    sender ≠ s.cfl.station → fromMaintenance sender = true →
    let new := fun (action : FlagAction) (flag : Bool) =>
      match action with
      | .keep => flag
      | .set => true
      | .clear => false
      | .invert => !flag
    (mask.getLsbD s.image.sector.toNat = false →
      exec (.flags after sender actions mask) s = .next ((s.arrived after .flags).bump .maskedOut)) ∧
    (mask.getLsbD s.image.sector.toNat = true →
      ∃ t, exec (.flags after sender actions mask) s = .next t ∧
        t.plu.flags =
          { sf0 := new actions.sf0 s.plu.flags.sf0, sf1 := new actions.sf1 s.plu.flags.sf1
            sf2 := new actions.sf2 s.plu.flags.sf2, sf3 := new actions.sf3 s.plu.flags.sf3
            sf4 := new actions.sf4 s.plu.flags.sf4, sf5 := new actions.sf5 s.plu.flags.sf5
            sf6 := new actions.sf6 s.plu.flags.sf6, sf7 := new actions.sf7 s.plu.flags.sf7 } ∧
        (∀ n < 8, t.condition (BitVec.ofNat 4 n) = flagValue t.plu.flags n) ∧
        t.plu = { s.plu with flags := t.plu.flags, hold := t.plu.hold, rouse := t.plu.rouse } ∧
        t.count .flagsTaken = min 65535 (s.count .flagsTaken + 1) ∧
        t.pvt = s.pvt ∧ t.lde = s.lde ∧ t.cvu = s.cvu ∧ t.clp = s.clp ∧ t.cfl = s.cfl ∧
        TermsFormed t ∧
        (TermsFormed s → t.plu.flags = s.plu.flags → t.plu = s.plu ∧ t.rsq = (s.elapse after).rsq) ∧
        (t.plu.rouse = false → s.rsq.unsettled = false →
          t.rsq =
            { (s.elapse after).rsq with
              restClock :=
                { (s.elapse after).rsq.restClock with
                  mode :=
                    if t.plu.hold = s.plu.hold then s.rsq.restClock.mode
                    else
                      match s.rsq.restClock.mode with
                      | .stopped => .stopped
                      | .running | .frozen => if t.plu.hold then .frozen else .running } }) ∧
        (s.plu.rouse = false → t.plu.rouse = true → Roused s (s.arrived after .flags) t))

/-- R9, R33, R118, R127, R128: a PROFILE notice. A rouse term that turns true aborts a drain or wakes a resting station (R96 to
R98). That the mask is tested before the number, and a masked-out notice with a number above 3 is counted as masked out alone, is
the model's choice (log 30). -/
def Obligations.ProfileTaken : Prop :=
  ∀ (after : Micros) (sender : BitVec 6) (number : Byte) (mask : BitVec 8) (s : State), Hears s →
    sender ≠ s.cfl.station → fromMaintenance sender = true →
    (mask.getLsbD s.image.sector.toNat = false →
      exec (.profile after sender number mask) s = .next ((s.arrived after .profile).bump .maskedOut)) ∧
    (mask.getLsbD s.image.sector.toNat = true → 3 < number.toNat →
      exec (.profile after sender number mask) s = .next ((s.arrived after .profile).bump .malformedProfiles)) ∧
    (mask.getLsbD s.image.sector.toNat = true → number.toNat = s.plu.activeProfile.toNat →
      exec (.profile after sender number mask) s = .next ((s.arrived after .profile).bump .profilesTaken)) ∧
    (mask.getLsbD s.image.sector.toNat = true → number.toNat ≤ 3 → number.toNat ≠ s.plu.activeProfile.toNat →
      ∃ t, exec (.profile after sender number mask) s = .next t ∧
        t.plu.activeProfile.toNat = number.toNat ∧
        t.plu = { s.plu with activeProfile := t.plu.activeProfile, hold := t.plu.hold, rouse := t.plu.rouse } ∧
        t.lde = { s.lde with quiet := 0 } ∧ t.cvu = s.cvu ∧ t.pvt = s.pvt ∧ t.clp = s.clp ∧ t.cfl = s.cfl ∧
        t.rsq.backoff = s.rsq.backoff ∧ t.rsq.restGuard = s.rsq.restGuard ∧ t.rsq.darkGiven = s.rsq.darkGiven ∧
        t.rsq.doze = s.rsq.doze ∧ t.rsq.settleCount = s.rsq.settleCount ∧
        t.rsq.restClock.measured = (s.elapse after).rsq.restClock.measured ∧
        TermsFormed t ∧
        (s.plu.rouse = false → t.plu.rouse = true → Roused s (s.arrived after .profile) t) ∧
        t.count .profilesTaken = min 65535 (s.count .profilesTaken + 1) ∧
        t.count .profileChanges = min 65535 (s.count .profileChanges + 1))

/-! ## Status pages -/

/-- R149, R170, R171: an ASK-STATUS without the clear-counters marker, or of an unrecognized page; the items of each section; and
the payload of a page-0 STATUS byte by byte (13.2, 13.3). That times remaining are held in microseconds, and a last carrier
condition of none as none, is log 18. The rest clock reads no more than R110 lets it measure, which every step keeps
(StepKeepsInv). -/
def Obligations.StatusAnswered : Prop :=
  (∀ (after : Micros) (sender : BitVec 6) (page : BitVec 3) (clearMarker : Bool) (s : State), Hears s →
    sender ≠ s.cfl.station → fromMaintenance sender = true →
    (3 < page.toNat →
      exec (.askStatus after sender page clearMarker) s =
        .next
          (((s.arrived after .askStatus).bump .unrecognizedStatus).offer
            (.status sender.toNat { page := page, contents := none }))) ∧
    (page.toNat ≤ 3 →
      let base := s.arrived after .askStatus
      let last := fun n : Nat => if n = 0 then 0 else if n = 1 then 11 else if n = 2 then 16 else 9
      let next := fun n cursor : Nat => if page.toNat = n then (if cursor = last n then 0 else cursor + 1) else cursor
      exec (.askStatus after sender page false) s =
        .next
          (State.offer
            (.status sender.toNat
              { page := page
                contents := some (base.acc.cursor page.toNat, base.sectionOf page.toNat (base.acc.cursor page.toNat)) })
            { base with
              acc :=
                { base.acc with
                  cursor0 := next 0 s.acc.cursor0, cursor1 := next 1 s.acc.cursor1
                  cursor2 := next 2 s.acc.cursor2, cursor3 := next 3 s.acc.cursor3 } }))) ∧
  ∀ s : State, s.rsq.restClock.measured ≤ Config.secondsLimit * second →
    let left := fun timer : Timer =>
      match timer with
      | some expiry => expiry - s.clock
      | none => 0
    let bit := fun (b : Bool) (value : Nat) => if b then value else 0
    let condition := fun (from_ : Nat) =>
      ((List.range 8).map fun n => bit (s.condition (BitVec.ofNat 4 (from_ + n))) (2 ^ n)).sum
    let minutes := ceilDiv (left s.plu.windowTimer) 60000000
    ((StatusReport.payload { page := 0, contents := some (0, s.sectionOf 0 0) }).map (·.toNat) =
      [128, 0, s.cfl.station.toNat, bit s.cfl.configBad 128 + 8 * roleCode s.image.role + s.image.sector.toNat,
        s.image.capacity / 256 % 256, s.image.capacity % 256, s.cfl.clampCount % 256, phaseCode s.rsq.phase,
        64 * orderCode s.rsq.order + 16 * orderCode s.clp.currentOrder +
          (match s.clp.link with
            | .waiting => 0
            | .up => 4
            | .lost => 8) +
          (match s.lde.state with
            | .unseeded => 0
            | .tracking => 1
            | .blind => 2),
        (match s.rsq.cover with
          | some cover => cover % 256
          | none => 255),
        bit s.plu.windowOpen 128 + bit s.plu.hold 32 + bit s.plu.rouse 16 + bit s.pvt.viewFull 8 +
          s.plu.activeProfile.toNat,
        minutes / 256 % 256, minutes % 256,
        bit s.plu.flags.sf0 1 + bit s.plu.flags.sf1 2 + bit s.plu.flags.sf2 4 + bit s.plu.flags.sf3 8 +
          bit s.plu.flags.sf4 16 + bit s.plu.flags.sf5 32 + bit s.plu.flags.sf6 64 + bit s.plu.flags.sf7 128,
        condition 8, condition 0, s.workingLevel / 256 % 256, s.workingLevel % 256, s.room / 256 % 256, s.room % 256,
        s.cvu.book.length % 256, s.pvt.entries.length % 256]) ∧
    s.sectionOf 1 0 =
      .figures
        { estimator := s.lde.state, demand := s.lde.demand.getD 0, level := s.lde.level.getD 0
          lastUtilisation := s.lde.lastUtilisation.getD 0, lastUsers := s.lde.lastUsers.getD 0
          lastDemand := s.lde.lastDemand.getD 0, quiet := s.lde.quiet, ceiling := s.ceilingN, wakeLimit := s.wakeLimitW
          committed := s.committed, normalRoom := s.ceilingN - s.committed, room := s.room
          recallRemaining := left s.cvu.recallTimer, guardRemaining := left s.cvu.recallGuard
          continuousRecall := s.continuousRecall, queueEntries := s.lif.queue.length
          beaconRemaining := left s.lif.beaconTimer, watchRemaining := left s.clp.watch
          lastCondition := s.clp.lastCondition } ∧
    s.sectionOf 1 1 =
      .sequencer
        { tag := s.rsq.tag, askWaitRemaining := left s.rsq.askWait, backoffRemaining := left s.rsq.backoff
          drainRemaining := left s.rsq.drainTimer, restGuardRemaining := left s.rsq.restGuard
          drainStep := s.rsq.drainStep, darkGiven := s.rsq.darkGiven, wakeCause := s.rsq.wakeCause
          omissions := s.rsq.omissions, recentRecall := s.rsq.recentRecall, noCover := s.rsq.noCover
          restSeconds := min 4294967295 (s.rsq.restClock.measured / 1000000), restMode := s.rsq.restClock.mode
          settleCount := s.rsq.settleCount, settled := s.rsq.settled, unsettled := s.rsq.unsettled, doze := s.rsq.doze
          freshAwake := (s.pvt.entries.filter fun e => decide (e.age ≤ 2) && e.phase == .awake).length } ∧
    (∀ position < 6, s.sectionOf 1 (2 + position) = .pledge s.cvu.book[position]?) ∧
    (∀ n < 4, s.sectionOf 1 (8 + n) = .profile (Profiles.get s.image.profiles (BitVec.ofNat 2 n))) ∧
    s.sectionOf 2 0 =
      .viewSummary s.pvt.pointer s.pvt.viewFull s.pvt.isolated
        (s.pvt.entries.filter fun e => decide (e.age ≤ 2)).length ∧
    (∀ slot < 16,
      s.sectionOf 2 (1 + slot) =
        .slot
          (match s.pvt.slots[slot]? with
            | some (some e) =>
              some
                { station := e.station, phase := e.phase, role := e.role, capacity := e.capacity, level := e.level
                  room := e.room, cover := e.cover, profile := e.profile, clash := e.clash, age := e.age
                  misses := e.misses, shunned := e.shunned, seenUs := e.seenUs }
            | _ => none)) ∧
    let counted := fun n =>
      match s.sectionOf 3 n with
      | .energy _ _ _ _ _ counts | .counts counts => counts
      | _ => []
    (∃ counts,
      s.sectionOf 3 0 =
        .energy s.acc.standby.seconds s.acc.deep.seconds s.acc.draining.seconds s.acc.returning.seconds
          s.acc.windowOpen.seconds counts) ∧
    let home : Counter → Nat := fun c =>
      match c with
      | .restsEntered | .deepEntries | .deepDecisions | .dozeBeacons => 0
      | .granted | .removed _ | .asksReceived | .asksUnanswered | .unmatchedResumes | .overloadRecalls
      | .continuousRecalls | .recallsSent => 1
      | .deniesSent _ | .deniesReceived _ => 2
      | .asksSent | .grantsReceived | .misses | .askWaitExpiries | .abandonedAsks | .drainFailures | .lateGrants
      | .recallsReceived | .recallsAnswered | .wakes _ | .orphanWakes | .unsettledRaisings => 3
      | .setAside | .malformedBeacons | .otherSectorRemovals | .evictions | .ageRemovals | .fullViewDrops | .windowsTaken
      | .profilesTaken | .flagsTaken | .maskedOut | .malformedProfiles | .windowOpenings | .closingsByNotice
      | .closingsByExpiry | .profileChanges | .unrecognizedStatus => 4
      | .contentionLosses | .abandons | .statusReplaced | .framingErrors | .badChecks | .malformedFrames | .unknownKind
      | .maintenanceFromCarrier | .clashFrames | .validSamples | .linkBadRecords | .unrecognizedRecords | .repliesSent
      | .repliesDropped | .linkLosses | .linkReturns | .carrierFaults | .readsAbsent | .readsTimedOut | .fallbackLoads
      | .loadingExits | .lineRestarts => 5
      | .sent _ => 6
      | .arrivals _ => 7
      | .abandonDiscards _ => 8
      | .queueDiscards _ => 9
    ∀ n < 10, ∀ c, ((counted n).filter fun row => row.1 == c) = if home c = n then [(c, s.count c)] else []

/-- R170, R172: a clear-counters request, taken after its page has been composed. A notice the queue then discards or replaces is
counted after the clear. -/
def Obligations.ClearCountersTaken : Prop :=
  ∀ (after : Micros) (sender : BitVec 6) (page : BitVec 3) (s : State), Hears s → sender ≠ s.cfl.station →
    fromMaintenance sender = true → page.toNat ≤ 3 →
    ∃ t u, exec (.askStatus after sender page true) s = .next t ∧ exec (.askStatus after sender page false) s = .next u ∧
      (∀ c, c ≠ .statusReplaced → (∀ k, c ≠ .queueDiscards k) →
        t.count c = if c = .granted then s.cvu.book.length else 0) ∧
      (s.rsq.phase = .mute ∨ s.lif.queue.length < 8 ∧ (∀ e ∈ s.lif.queue, e.notice.kind ≠ .status) →
        ∀ c, t.count c = if c = .granted then s.cvu.book.length else 0) ∧
      t.acc.standby = ⟨0, 0⟩ ∧ t.acc.deep = ⟨0, 0⟩ ∧ t.acc.draining = ⟨0, 0⟩ ∧ t.acc.returning = ⟨0, 0⟩ ∧
      t.acc.windowOpen = ⟨0, 0⟩ ∧
      t = { u with acc := t.acc } ∧
      t.acc.cursor0 = u.acc.cursor0 ∧ t.acc.cursor1 = u.acc.cursor1 ∧ t.acc.cursor2 = u.acc.cursor2 ∧
      t.acc.cursor3 = u.acc.cursor3 ∧
      t.count .granted = t.removals + t.cvu.book.length

/-! ## The coordination line -/

/-- R137 to R140, R148: an attempt starts with the head of the queue and is lost, abandoned or complete. -/
def Obligations.AttemptRunsItsCourse : Prop :=
  ∀ (after : Micros) (s : State), s.held = false →
    (∀ e rest, s.lif.receiver = .idle → s.lif.queue = e :: rest → s.lif.attempting = false →
      exec (.transmissionAttempt after) s =
        .next
          { s.elapse after with
            lif :=
              { s.lif with
                receiver := .inFrame
                queue :=
                  { e with
                    attempt :=
                      some (if e.notice = .beacon then .beacon (s.elapse after).composeBeacon else .asQueued) } ::
                    rest } }) ∧
    ∀ (before behind : List Entry) (e : Entry), s.lif.queue = before ++ e :: behind → e.driven = true →
      (∀ f ∈ before ++ behind, f.attempt = none) →
      exec (.contentionLoss after) s =
        .next
          { (s.elapse after).bump .contentionLosses with
            lif := { s.lif with queue := before ++ { e with attempt := none } :: behind } } ∧
      (e.abandons < 3 →
        exec (.abandon after) s =
          .next
            { (s.elapse after).bump .abandons with
              lif :=
                { s.lif with
                  queue := before ++ { e with attempt := none, abandons := e.abandons + 1 } :: behind } }) ∧
      (3 ≤ e.abandons →
        exec (.abandon after) s =
          .next
            { ((s.elapse after).bump .abandons).bump (.abandonDiscards e.notice.kind) with
              lif := { s.lif with queue := before ++ behind } }) ∧
      exec (.attemptComplete after) s =
        .next
          { (s.elapse after).bump (.sent e.notice.kind) with
            lif := { s.lif with receiver := .waiting, queue := before ++ behind } }

/-- R52: the resting-seen list of the own beacon, formed from the view at the start of the attempt. R29, R76, R104, R135, R148:
its other fields, taken from their owners as they stand. -/
def Obligations.BeaconComposed : Prop :=
  (∀ (own : Nat) (v : PeerView), ViewKept own v → (∀ e ∈ v.entries, e.age ≤ 31) →
    let rests := v.entries.filter fun e => e.phase == .standby || e.phase == .deep
    v.restingSeen.Pairwise (· < ·) ∧
    v.restingSeen.length = min 15 rests.length ∧
    (∀ n ∈ v.restingSeen, n ≠ own ∧ ∃ e ∈ rests, e.station = n) ∧
    (∀ e ∈ rests, ∀ f ∈ rests, e.station ∈ v.restingSeen → f.station ∉ v.restingSeen →
      e.age < f.age ∨ e.age = f.age ∧ e.station < f.station)) ∧
  (∀ s : State, s.Inv → s.rsq.phase ≠ .loading → s.rsq.phase ≠ .mute →
    let b := s.composeBeacon
    b.phase.toNat = phaseCode s.rsq.phase ∧ b.role.toNat = roleCode s.image.role ∧ b.profile = s.plu.activeProfile ∧
    b.clash = s.lif.clash ∧ b.capacity.toNat = s.image.capacity ∧ b.level.toNat = s.workingLevel ∧
    b.room.toNat = s.room ∧ coverOf b.cover = s.rsq.cover ∧
    b.covering.map (·.toNat) = s.cvu.book.map (·.leaner) ∧ b.resting.map (·.toNat) = s.pvt.restingSeen ∧
    b.wellFormed = true)

/-- R144, R146: frames that are no arrival, a STATUS arrival, the idle line, and a station in LOADING. A frame still in reception
when the line becomes idle has not reached its length: it is discarded with a framing error. Which addressees (R136) and which
payload lengths (R174) suit each kind, the kind codes, and the kinds and numbers of maintenance stations are written out. -/
def Obligations.FramesThatReachNoBlock : Prop :=
  (([.recall, .coverAsk, .coverGrant, .coverDeny, .resume, .beacon, .window, .flags, .profile, .restart, .askStatus,
        .status] : List Kind).map kindIndex =
      List.range 12) ∧
  (∀ (k : Kind) (addressee : Byte),
    addressSuits k addressee = true ↔
      match k with
      | .beacon => addressee = 0xFF
      | .window | .flags | .profile => True
      | .recall | .coverAsk | .coverGrant | .coverDeny | .resume | .restart | .askStatus | .status => addressee ≠ 0xFF) ∧
  (∀ (k : Kind) (payload : List Byte),
    lengthSuits k payload = true ↔
      match k with
      | .recall => payload.length = 1
      | .coverAsk => payload.length = 3
      | .coverGrant => payload.length = 3
      | .coverDeny => payload.length = 4
      | .resume => payload.length = 1
      | .beacon => ∃ counts, payload[7]? = some counts ∧ payload.length = 8 + counts.toNat / 16 + counts.toNat % 16
      | .window => payload.length = 4
      | .flags => payload.length = 3
      | .profile => payload.length = 2
      | .restart => payload.length = 0
      | .askStatus => payload.length = 1
      | .status => 2 ≤ payload.length ∧ payload.length ≤ 48) ∧
  (∀ k, maintenanceKind k = true ↔ k = .window ∨ k = .flags ∨ k = .profile ∨ k = .restart ∨ k = .askStatus) ∧
  (∀ sender, fromMaintenance sender = true ↔ 60 ≤ sender.toNat) ∧
  ∀ (after : Micros) (s : State), s.held = false →
    (s.rsq.phase ≠ .loading → s.lif.attempting = false →
      let idle : State := { s.elapse after with lif := { s.lif with receiver := .idle } }
      exec (.lineIdle after) s = .next (if s.lif.receiver = .inFrame then idle.bump .framingErrors else idle)) ∧
    (s.lif.attempting = true → exec (.lineIdle after) s = .next (s.elapse after)) ∧
    (s.rsq.phase = .loading → ∀ why sender frame,
      exec (.lineIdle after) s = .next (s.elapse after) ∧ exec (.frameDiscarded after why) s = .next (s.elapse after) ∧
      exec (.clashFrame after) s = .next (s.elapse after) ∧ exec (.frameIgnored after frame) s = .next (s.elapse after) ∧
      exec (.statusArrival after sender) s = .next (s.elapse after)) ∧
    (Hears s →
      exec (.frameDiscarded after .framing) s = .next ((s.heard after).bump .framingErrors) ∧
      exec (.frameDiscarded after .oversize) s = .next ((s.heard after).bump .malformedFrames) ∧
      exec (.frameDiscarded after .badCheck) s = .next ((s.heard after).bump .badChecks) ∧
      (∀ sender, sender ≠ s.cfl.station →
        exec (.statusArrival after sender) s = .next (s.arrived after .status)) ∧
      ∀ f : Frame, f.sender ≠ s.cfl.station →
        let known := 1 ≤ f.kind.toNat ∧ f.kind.toNat ≤ 12
        let addressed := f.addressee = 0xFF ∨ f.addressee.toNat = s.cfl.station.toNat
        (¬known → exec (.frameIgnored after f) s = .next ((s.heard after).bump .unknownKind)) ∧
        (known → ¬addressed → exec (.frameIgnored after f) s = .next (s.heard after)) ∧
        ∀ k, f.kind.toNat = kindIndex k + 1 → addressed →
          (addressSuits k f.addressee = false ∨ lengthSuits k f.payload = false →
            exec (.frameIgnored after f) s = .next ((s.heard after).bump .malformedFrames)) ∧
          (addressSuits k f.addressee = true → lengthSuits k f.payload = true → maintenanceKind k = true →
            fromMaintenance f.sender = false →
            exec (.frameIgnored after f) s = .next ((s.heard after).bump .maintenanceFromCarrier)))

/-- R28, R70, R72, R89, R96 to R98, R102, R145: a frame bearing the own number raises CLASH, whatever notice it carries. A rouse
term that tests CLASH turns true in the same event; that the wake is then counted as ROUSE is the model's choice (log 12). -/
def Obligations.OwnNumberRaisesClash : Prop :=
  ∀ (after : Micros) (s : State), Hears s →
    (s.lif.clash = true → exec (.clashFrame after) s = .next ((s.heard after).bump .clashFrames)) ∧
    (s.lif.clash = false →
      let base := { s.heard after with lif := { (s.heard after).lif with clash := true } }
      let answered :=
        match s.rsq.phase, s.rsq.cover with
        | .draining, some cover => base.offer (.resume cover s.rsq.tag)
        | _, _ => base
      ∃ t, exec (.clashFrame after) s = .next t ∧
        t.lif.clash = true ∧ t.room = 0 ∧ t.composeBeacon.clash = true ∧
        t.count .clashFrames = min 65535 (s.count .clashFrames + 1) ∧
        t.rsq.phase =
          (match s.rsq.phase with
            | .seeking | .draining => .awake
            | .standby => if s.rsq.darkGiven then .warming else .waking
            | .deep => .warming
            | other => other) ∧
        ((s.rsq.phase = .seeking ∨ s.rsq.phase = .draining) → t.rsq.cover = none ∧ t.rsq.backoff = s.rsq.backoff) ∧
        (s.rsq.phase = .seeking →
          t.rsq.askWait = none ∧ t.count .abandonedAsks = min 65535 (s.count .abandonedAsks + 1)) ∧
        (s.rsq.phase = .draining →
          t.rsq.drainTimer = none ∧ t.count .drainFailures = s.count .drainFailures) ∧
        ((s.rsq.phase = .draining ∨ s.rsq.phase = .standby ∨ s.rsq.phase = .deep) → TermsFormed s → s.plu.rouse = false →
          let cause : WakeCause := if s.profile.rouse.code = 13 then .rouse else .clash
          t.rsq.wakeCause = some cause ∧ t.count (.wakes cause) = min 65535 (s.count (.wakes cause) + 1)) ∧
        (s.rsq.phase ≠ .seeking → s.rsq.phase ≠ .draining → t.rsq.cover = s.rsq.cover) ∧
        (∀ p, s.cvu.calling = false → chooseRecall s.cvu.book = some p →
          t.cvu.book = changePledge p.leaner (fun p => { p with state := .called, attempts := 1 }) s.cvu.book ∧
          t.cvu.recallTimer = some (s.clock + after + s.recallLength p.depth) ∧
          t.lif = (answered.offer (.recall p.leaner p.tag)).lif ∧
          t.count .continuousRecalls = min 65535 (s.count .continuousRecalls + 1)) ∧
        ((s.cvu.calling = true ∨ chooseRecall s.cvu.book = none) → t.cvu = s.cvu ∧ t.lif = answered.lif) ∧
        t.pvt = s.pvt ∧ t.lde = s.lde ∧ t.clp = s.clp ∧ t.cfl = s.cfl) ∧
    ∀ (c : Instr),
      (∃ sector b, c = .beacon after s.cfl.station sector b) ∨
      (∃ sector tag amount, c = .coverAsk after s.cfl.station sector tag amount) ∨
      (∃ tag, c = .resume after s.cfl.station tag) ∨ (∃ tag amount, c = .coverGrant after s.cfl.station tag amount) ∨
      (∃ tag reason room, c = .coverDeny after s.cfl.station tag reason room) ∨
      (∃ tag, c = .recall after s.cfl.station tag) ∨
      (∃ duration mask, c = .windowOpen after s.cfl.station duration mask) ∨
      (∃ mask, c = .windowClose after s.cfl.station mask) ∨
      (∃ actions mask, c = .flags after s.cfl.station actions mask) ∨
      (∃ number mask, c = .profile after s.cfl.station number mask) ∨
      (∃ page clearMarker, c = .askStatus after s.cfl.station page clearMarker) ∨
      (∃ straps, c = .restart after s.cfl.station straps) ∨ c = .statusArrival after s.cfl.station →
      exec c s = exec (.clashFrame after) s

/-- R141, R142, R149: a notice offered to a queue that has room, a beacon with its slot queued, a STATUS that replaces one, and
the phases that take none. Which of two queued STATUS entries with no attempt in progress is replaced, the first in sending
order, is the model's choice (log 26). -/
def Obligations.OfferedNoticeJoins : Prop :=
  ∀ (n : Notice) (s : State),
    (s.rsq.phase = .mute ∨ s.rsq.phase = .loading → s.offer n = s) ∧
    (s.rsq.phase ≠ .mute → s.rsq.phase ≠ .loading →
      let beaconQueued := ∃ e ∈ s.lif.queue, e.notice = .beacon
      let statusQueued := ∃ e ∈ s.lif.queue, e.notice.kind = .status ∧ e.attempt = none
      (n = .beacon → beaconQueued → s.offer n = s) ∧
      (¬(n = .beacon ∧ beaconQueued) → ¬(n.kind = .status ∧ statusQueued) → s.lif.queue.length < 8 →
        QueueKept s.lif.queue →
        ∃ ahead behind, s.lif.queue = ahead ++ behind ∧ (∀ e ∈ ahead, e.priority ≤ n.priority) ∧
          (∀ e ∈ behind, n.priority < e.priority) ∧
          s.offer n =
            { s with
              lif := { s.lif with queue := ahead ++ { notice := n, abandons := 0, attempt := none } :: behind } }) ∧
      (n.kind = .status → ∀ (before after : List Entry) (old : Entry), s.lif.queue = before ++ old :: after →
        old.notice.kind = .status → old.attempt = none →
        (∀ e ∈ before, ¬(e.notice.kind = .status ∧ e.attempt = none)) →
        s.offer n =
          { s.bump .statusReplaced with
            lif :=
              { s.lif with queue := joinQueue { notice := n, abandons := 0, attempt := none } (before ++ after) } }))

/-- R143: a notice offered to a full queue. -/
def Obligations.FullQueueDisplaces : Prop :=
  ∀ (n : Notice) (s : State), s.rsq.phase ≠ .mute → s.rsq.phase ≠ .loading → s.lif.queue.length = 8 →
    QueueKept s.lif.queue → ¬(n = .beacon ∧ ∃ e ∈ s.lif.queue, e.notice = .beacon) →
    ¬(n.kind = .status ∧ ∃ e ∈ s.lif.queue, e.notice.kind = .status ∧ e.attempt = none) →
    let outranked := fun e : Entry => n.priority < e.priority ∧ e.attempt = none
    ((∀ e ∈ s.lif.queue, ¬outranked e) → s.offer n = s.bump (.queueDiscards n.kind)) ∧
    (∀ (before behind : List Entry) (e : Entry), s.lif.queue = before ++ e :: behind → outranked e →
      (∀ f ∈ before, outranked f → f.priority ≤ e.priority) → (∀ f ∈ behind, outranked f → f.priority < e.priority) →
      s.offer n =
        { s.bump (.queueDiscards e.notice.kind) with
          lif :=
            { s.lif with
              queue := joinQueue { notice := n, abandons := 0, attempt := none } (before ++ behind) } }) ∧
    (∀ e ∈ s.lif.queue, e.attempt ≠ none → e ∈ (s.offer n).lif.queue) ∧
    (n = .beacon → s.offer n = s.bump (.queueDiscards .beacon))

/-- R45, R46, R48, R65, R67, R101, R147: the own beacon time: the next one, the view's ages and removals, the pledges of leaners
whose entries are removed, and the other pledges' grant ages and lapse. The removal of the cover's entry is an orphan condition:
a wake with cause ORPHAN at a station whose rouse term is the factory one and so never true; an aborted drain queues its RESUME
(R98) before the beacon slot is placed. A rouse term that tests ISOLATED or UNSETTLED and is turned true ends a drain or a rest
(R53, R108, R134). Where the cover's entry leaves at the beacon time at which ISOLATED turns true, that the cause is ROUSE and
not ORPHAN is the model's reading (log 12). -/
def Obligations.BeaconTimeAgesViewAndBook : Prop :=
  ∀ (after expiry : Micros) (s : State), s.held = false → s.lif.beaconTimer = some expiry → expiry ≤ s.clock + after →
    let aged := s.pvt.slots.map (Option.map fun e => { e with age := min 31 (e.age + 1) })
    let gone := fun e : ViewEntry => (if e.phase = .deep then 16 else 8) ≤ e.age
    let removed := (aged.filterMap id).filter fun e => decide (gone e)
    let roused := fun t : State =>
      RouseWake s t ∧
      (BookOnlyAwake s →
        (s.rsq.phase = .draining → ∀ cover, s.rsq.cover = some cover →
          t.lif.queue = (((s.elapse after).offer (.resume cover s.rsq.tag)).offer .beacon).lif.queue) ∧
        ((s.rsq.phase = .standby ∨ s.rsq.phase = .deep) →
          t.lif.queue = ((s.elapse after).offer .beacon).lif.queue))
    ∃ t, exec (.ownBeaconTime after) s = .next t ∧
      t.lif.beaconTimer = some (expiry + 2 ^ s.image.periodCode.toNat * 1000000) ∧
      t.pvt.slots = aged.map (fun slot => slot.filter fun e => !decide (gone e)) ∧
      t.pvt.pointer = s.pvt.pointer ∧
      (removed ≠ [] → t.pvt.viewFull = false) ∧ (removed = [] → t.pvt.viewFull = s.pvt.viewFull) ∧
      t.count .ageRemovals =
        (if removed = [] then s.count .ageRemovals else min 65535 (s.count .ageRemovals + removed.length)) ∧
      (removed = [] →
        let grown := s.cvu.book.map fun p => { p with grantAge := min 4 (p.grantAge + 1) }
        let lapsed := fun p : Pledge => p.state = .granted ∧ p.named = false ∧ 4 ≤ p.grantAge
        t.cvu = { s.cvu with book := grown.filter fun p => !decide (lapsed p) } ∧
        ((grown.filter fun p => decide (lapsed p)) ≠ [] →
          t.count (.removed .lapsed) =
            min 65535 (s.count (.removed .lapsed) + (grown.filter fun p => decide (lapsed p)).length))) ∧
      (BookOnlyAwake s → BookKept s.cvu.book → ViewKept s.own s.pvt →
        let lost := fun p : Pledge => s.rsq.cover ≠ some p.leaner ∧ ∃ e ∈ removed, e.station = p.leaner
        let goes := s.cvu.book.filter fun p => decide (lost p)
        let grown :=
          (s.cvu.book.filter fun p => !decide (lost p)).map fun p => { p with grantAge := min 4 (p.grantAge + 1) }
        let lapsed := fun p : Pledge => p.state = .granted ∧ p.named = false ∧ 4 ≤ p.grantAge
        t.count (.removed .leanerLost) =
          (if goes = [] then s.count (.removed .leanerLost)
          else min 65535 (s.count (.removed .leanerLost) + goes.length)) ∧
        t.cvu.recallGuard = s.cvu.recallGuard ∧
        (s.continuousRecall = false ∨ (∀ p ∈ goes, p.state ≠ .called) →
          t.cvu =
            { s.cvu with
              book := grown.filter fun p => !decide (lapsed p)
              recallTimer := if goes.any (·.state == .called) then none else s.cvu.recallTimer } ∧
          t.count (.removed .lapsed) =
            (if (grown.filter fun p => decide (lapsed p)) = [] then s.count (.removed .lapsed)
            else min 65535 (s.count (.removed .lapsed) + (grown.filter fun p => decide (lapsed p)).length)))) ∧
      (s.profile.rouse = { code := 15, inverted := true } → ViewKept s.own s.pvt →
        ∀ cover, s.rsq.cover = some cover → (∃ e ∈ removed, e.station = cover) →
          Orphaned s t ∧
          (s.rsq.phase = .draining → BookOnlyAwake s →
            t.lif.queue = (((s.elapse after).offer (.resume cover s.rsq.tag)).offer .beacon).lif.queue)) ∧
      ((s.rsq.phase = .draining ∨ s.rsq.phase = .standby ∨ s.rsq.phase = .deep) → s.plu.rouse = false →
        (s.pvt.isolated = false → (∀ e ∈ aged.filterMap id, 2 < e.age) →
          s.profile.rouse = { code := 14, inverted := false } → roused t) ∧
        (s.rsq.phase = .standby → (∀ e ∈ removed, s.rsq.cover ≠ some e.station) →
          (s.rsq.unsettled = false → 7 ≤ s.rsq.settleCount →
            (∃ e ∈ aged.filterMap id, Unheard e) →
            s.profile.rouse = { code := 11, inverted := false } →
            roused t ∧ t.count .unsettledRaisings = min 65535 (s.count .unsettledRaisings + 1)) ∧
          (s.rsq.unsettled = true → (∀ e ∈ aged.filterMap id, ¬Unheard e) →
            s.profile.rouse = { code := 11, inverted := true } → roused t))) ∧
      t.lde = s.lde ∧ t.clp = s.clp ∧ t.cfl = s.cfl

/-- R96, R108, R112, R114, R115, R117, R147: the Rest Sequencer's work at an own beacon time of a station whose rouse term is the
factory one, when no entry is removed. That a doze beacon is counted when its placement is decided, even when its slot is still
queued or the queue is full, is the model's reading of R115 (log 21). -/
def Obligations.BeaconTimeRestWork : Prop :=
  ∀ (after : Micros) (s : State), s.held = false → Expired s.lif.beaconTimer s after →
    s.profile.rouse = { code := 15, inverted := true } →
    outlivedStations (ageSlots s.pvt.slots) = [] →
    ∃ t, exec (.ownBeaconTime after) s = .next t ∧
      let entries := (s.pvt.slots.filterMap id).map ageEntry
      let awake := (entries.filter fun e => decide (e.age ≤ 2) && e.phase == .awake).length
      let above :=
        (entries.filter fun e =>
          decide (e.age ≤ 2) && e.phase == .standby && decide (s.cfl.station.toNat < e.station)).length
      let wakes := awake < s.profile.awakeFloor ∧ above < s.profile.awakeFloor - awake
      let settled :=
        ∀ e ∈ entries, e.age ≤ 2 →
          (e.phase = .awake ∨ e.phase = .seeking ∨ e.phase = .draining ∨ e.phase = .waking ∨ e.phase = .warming) →
          e.seenUs = true
      let anchored := ∃ cover e, s.rsq.cover = some cover ∧ s.pvt.find cover = some e ∧ e.role = .anchor
      let deepens :=
        0 < s.profile.deepDwell ∧ 60 * s.profile.deepDwell ≤ (s.elapse after).rsq.restClock.measured / 1000000 ∧ settled ∧
          anchored
      (s.rsq.phase = .standby →
        t.rsq.settleCount = min 8 (s.rsq.settleCount + 1) ∧
        t.lif.queue = ((s.elapse after).offer .beacon).lif.queue ∧
        (¬settled ∧ 7 ≤ s.rsq.settleCount ∧ s.rsq.unsettled = false →
          t.count .unsettledRaisings = min 65535 (s.count .unsettledRaisings + 1)) ∧
        (¬(¬settled ∧ 7 ≤ s.rsq.settleCount ∧ s.rsq.unsettled = false) →
          t.count .unsettledRaisings = s.count .unsettledRaisings) ∧
        (wakes →
          t.count (.wakes .settle) = min 65535 (s.count (.wakes .settle) + 1) ∧
          t.count .deepDecisions = s.count .deepDecisions ∧
          t.rsq.phase = (if s.rsq.darkGiven then .warming else .waking) ∧ t.rsq.wakeCause = some .settle ∧
          t.rsq.darkGiven = s.rsq.darkGiven ∧ t.rsq.settled = false ∧ t.rsq.unsettled = false) ∧
        (¬wakes →
          t.rsq.phase = .standby ∧ (t.rsq.settled = true ↔ settled) ∧
          (t.rsq.unsettled = true ↔ ¬settled ∧ 7 ≤ s.rsq.settleCount) ∧
          t.count (.wakes .settle) = s.count (.wakes .settle) ∧
          (t.rsq.darkGiven = true ↔ s.rsq.darkGiven = true ∨ deepens) ∧
          (s.rsq.darkGiven = false → deepens → t.count .deepDecisions = min 65535 (s.count .deepDecisions + 1)) ∧
          (¬(s.rsq.darkGiven = false ∧ deepens) → t.count .deepDecisions = s.count .deepDecisions))) ∧
      (s.rsq.phase = .deep →
        t.rsq.phase = .deep ∧ t.rsq.doze = (s.rsq.doze + 1) % 4 ∧
        (s.rsq.doze ≠ 0 → t.lif.queue = s.lif.queue ∧ t.count .dozeBeacons = s.count .dozeBeacons) ∧
        (s.rsq.doze = 0 →
          t.lif.queue = ((s.elapse after).offer .beacon).lif.queue ∧
          t.count .dozeBeacons = min 65535 (s.count .dozeBeacons + 1))) ∧
      (s.rsq.phase ≠ .standby → s.rsq.phase ≠ .deep →
        t.rsq.phase = s.rsq.phase ∧ t.rsq.cover = s.rsq.cover ∧
        t.lif.queue = ((s.elapse after).offer .beacon).lif.queue)

/-! ## Formats -/

/-- R177: the check. -/
def Obligations.CheckFormed : Prop :=
  crc [] = 0xFFFF ∧
  (∀ (bytes : List Byte) (b : Byte), crc (bytes ++ [b]) = crcByte (crc bytes) b) ∧
  (∀ (r : BitVec 16) (b : Byte),
    crcByte r b = Nat.repeat (fun r : BitVec 16 => if r.getLsbD 15 then (r <<< 1) ^^^ 0x1021 else r <<< 1) 8
      (r ^^^ (b.zeroExtend 16 <<< 8))) ∧
  crc [0x31, 0x32, 0x33, 0x34, 0x35, 0x36, 0x37, 0x38, 0x39] = 0x29B1 ∧
  (∀ bytes : List Byte, withCheck bytes = bytes ++ [(crc bytes).extractLsb' 8 8, (crc bytes).extractLsb' 0 8]) ∧
  (∀ bytes : List Byte, checkedBody (withCheck bytes) = some bytes) ∧
  (∀ received body : List Byte, checkedBody received = some body → received = withCheck body) ∧
  (∀ f : Frame, frameCharacters f = withCheck (frameHeader f ++ f.payload) ∧ (frameHeader f).length = 4) ∧
  (∀ r : Reply, ∃ kind fields : Byte, replyBytes r = withCheck [kind, fields]) ∧
  (∀ record : List Byte, record.length = 71 → record ≠ withCheck (record.take 69) → loadRecord record = fallback 0)

/-- R136, R144, R146, R152, R153, R173 to R177: every frame reads back as it was written, whatever follows it before the line is
idle, and one cut short or of a length above 48 does not; a notice this station drives is, at a station of another number it is
addressed to, the command of its kind with every field as sent; the notices of maintenance stations and the records of the
carrier link are read by their layouts, with the bits they leave unassigned not read; and a REPLY is written by its layout, its
unassigned bit 6 as 0, which is the model's choice (log 27). Every character of a frame this station drives, every byte of its
payloads and the codes of the deny reasons are written out; the contents of a STATUS section other than page 0's are a free
value of at most 46 bytes, and so is the second byte of an unrecognized STATUS (log 10). -/
def Obligations.SentNoticesReadBack : Prop :=
  let reasons : List (DenyReason × Byte) :=
    [(.sector, 1), (.role, 2), (.clash, 3), (.blind, 4), (.closed, 5), (.notAwake, 6), (.full, 7), (.noRoom, 8)]
  (∀ reason code, reasonOf code = some reason ↔ (reason, code) ∈ reasons) ∧
  (∀ (s : State) (b : BeaconFields) (peer : BitVec 6) (tag : BitVec 8) (value : BitVec 16),
    let driven := fun (n : Notice) (priority : BitVec 2) (kind : BitVec 5) (addressee : Byte) (payload : List Byte) =>
      frameCharacters (s.frameOf n b) =
        withCheck
          ([(priority ++ s.cfl.station : BitVec 8), (kind ++ s.image.sector : BitVec 8), addressee,
              BitVec.ofNat 8 payload.length] ++
            payload)
    let high := value.extractLsb' 8 8
    let low := value.extractLsb' 0 8
    driven (.recall peer.toNat tag) 0 1 (peer.setWidth 8) [tag] ∧
    driven (.coverAsk peer.toNat tag value.toNat) 1 2 (peer.setWidth 8) [tag, high, low] ∧
    driven (.coverGrant peer.toNat tag value.toNat) 1 3 (peer.setWidth 8) [tag, high, low] ∧
    (∀ reason code, (reason, code) ∈ reasons →
      driven (.coverDeny peer.toNat tag reason value.toNat) 1 4 (peer.setWidth 8) [tag, code, high, low]) ∧
    driven (.resume peer.toNat tag) 1 5 (peer.setWidth 8) [tag] ∧
    driven .beacon 3 6 0xFF
      ([(b.phase ++ b.role ++ b.profile ++ BitVec.ofBool b.clash : BitVec 8), b.capacity.extractLsb' 8 8,
          b.capacity.extractLsb' 0 8, b.level.extractLsb' 4 8,
          (b.level.extractLsb' 0 4 ++ b.room.extractLsb' 8 4 : BitVec 8), b.room.extractLsb' 0 8, b.cover,
          (BitVec.ofNat 4 b.covering.length ++ BitVec.ofNat 4 b.resting.length : BitVec 8)] ++
        b.covering ++ b.resting) ∧
    ∀ (page : BitVec 3) (number : BitVec 8) (contents : Section),
      (sectionPayload contents).length ≤ 46 ∧
      driven (.status peer.toNat { page := page, contents := some (number.toNat, contents) }) 2 12 (peer.setWidth 8)
        ([(1#1 ++ 0#4 ++ page : BitVec 8), number] ++ sectionPayload contents) ∧
      ∃ second : Byte,
        driven (.status peer.toNat { page := page, contents := none }) 2 12 (peer.setWidth 8)
          [(0#5 ++ page : BitVec 8), second]) ∧
  (∀ f : Frame, f.wellFormed = true →
    (∀ more : List Byte, readFrame (frameCharacters f ++ more) = .inl f) ∧
    ∀ n < (frameCharacters f).length, readFrame ((frameCharacters f).take n) = .inr .framing) ∧
  (∀ (c1 c2 c3 c4 : Byte) (rest : List Byte), 48 < c4.toNat → readFrame (c1 :: c2 :: c3 :: c4 :: rest) = .inr .oversize) ∧
  (∀ (c1 c2 c3 c4 : Byte) (payload more : List Byte) (check : BitVec 16), payload.length = c4.toNat → c4.toNat ≤ 48 →
    check ≠ crc (c1 :: c2 :: c3 :: c4 :: payload) →
    readFrame (c1 :: c2 :: c3 :: c4 :: payload ++ twoBytes check ++ more) = .inr .badCheck) ∧
  (([.awake, .seeking, .draining, .standby, .deep, .waking, .warming, .loading, .mute] : List Phase).map phaseCode =
      List.range 9 ∧
    ([.anchor, .capacity, .stay] : List Role).map roleCode = List.range 3 ∧
    ([.run, .drain, .rest, .dark] : List Order).map orderCode = List.range 4) ∧
  (∀ r : Reply,
    replyBytes r =
      withCheck
        [0x02,
          (BitVec.ofBool r.recognized ++ (0 : BitVec 1) ++ BitVec.ofNat 2 (orderCode r.order) ++
            BitVec.ofNat 4 (phaseCode r.phase) : BitVec 8)]) ∧
  (∀ (after : Micros) (kind : Byte) (u : BitVec 10) (n : BitVec 11) (code : BitVec 3),
    let fields : BitVec 24 := u ++ n ++ code
    linkCommand after
        (withCheck [kind, fields.extractLsb' 16 8, fields.extractLsb' 8 8, fields.extractLsb' 0 8]) =
      if kind = 0x01 then
        match code.toNat with
        | 0 => .validSample after u n .onAir
        | 1 => .validSample after u n .draining
        | 2 => .validSample after u n .drained
        | 3 => .validSample after u n .resting
        | 4 => .validSample after u n .dark
        | 5 => .validSample after u n .warming
        | 6 => .validSample after u n .fault
        | _ => .unrecognizedRecord after
      else .unrecognizedRecord after) ∧
  (∀ (after : Micros) (b1 b2 : Byte), linkCommand after (withCheck [b1, b2]) = .unrecognizedRecord after) ∧
  (∀ (after : Micros) (bytes : List Byte),
    bytes.length ≠ 4 ∧ bytes.length ≠ 6 ∨ (∀ body, bytes ≠ withCheck body) →
    linkCommand after bytes = .linkBadRecord after) ∧
  (∀ (own sender : BitVec 6) (after : Micros) (straps : BitVec 6) (priority : BitVec 2) (sector : BitVec 3)
    (addressee : Byte), fromMaintenance sender = true → sender ≠ own → addressee = 0xFF ∨ addressee.toNat = own.toNat →
    let received := fun (kind : BitVec 5) (payload : List Byte) =>
      lineCommand own after straps
        (frameCharacters
          { priority := priority, sender := sender, kind := kind, sector := sector, addressee := addressee
            payload := payload })
    let action := fun code : BitVec 2 =>
      if code = 0 then FlagAction.keep else if code = 1 then .set else if code = 2 then .clear else .invert
    (∀ b d1 d2 mask : Byte,
      received 7 [b, d1, d2, mask] =
        if b.getLsbD 0 then .windowOpen after sender (d1 ++ d2) mask else .windowClose after sender mask) ∧
    (∀ b0 b1 mask : Byte,
      received 8 [b0, b1, mask] =
        .flags after sender
          { sf0 := action (b0.extractLsb' 0 2), sf1 := action (b0.extractLsb' 2 2), sf2 := action (b0.extractLsb' 4 2)
            sf3 := action (b0.extractLsb' 6 2), sf4 := action (b1.extractLsb' 0 2), sf5 := action (b1.extractLsb' 2 2)
            sf6 := action (b1.extractLsb' 4 2), sf7 := action (b1.extractLsb' 6 2) }
          mask) ∧
    (∀ number mask : Byte, received 9 [number, mask] = .profile after sender number mask) ∧
    (addressee ≠ 0xFF →
      received 10 [] = .restart after sender straps ∧
      ∀ b : Byte, received 11 [b] = .askStatus after sender (b.extractLsb' 0 3) (b.getLsbD 7))) ∧
  ∀ (s : State) (own : BitVec 6) (after : Micros) (straps : BitVec 6) (b : BeaconFields), own ≠ s.cfl.station →
    b.wellFormed = true →
    let received := fun n : Notice => lineCommand own after straps (frameCharacters (s.frameOf n b))
    received .beacon = .beacon after s.cfl.station s.image.sector b ∧
    (∀ tag, received (.recall own.toNat tag) = .recall after s.cfl.station tag) ∧
    (∀ tag, received (.resume own.toNat tag) = .resume after s.cfl.station tag) ∧
    (∀ tag (amount : BitVec 16),
      received (.coverAsk own.toNat tag amount.toNat) = .coverAsk after s.cfl.station s.image.sector tag amount) ∧
    (∀ tag (amount : BitVec 16),
      received (.coverGrant own.toNat tag amount.toNat) = .coverGrant after s.cfl.station tag amount) ∧
    (∀ tag reason code (room : BitVec 16), (reason, code) ∈ reasons →
      received (.coverDeny own.toNat tag reason room.toNat) = .coverDeny after s.cfl.station tag code room) ∧
    (∀ report, received (.status own.toNat report) = .statusArrival after s.cfl.station)

/-! ## Promises -/

/-- The device just reset keeps every promise of Safety.lean. -/
def Obligations.ResetKeepsPromises : Prop :=
  State.reset.Inv ∧ TermsFormed State.reset ∧ TimersRun State.reset ∧ ConditionsFormed State.reset

/-- Every step keeps the promises of R1, R7, R8, R24, R37, R55, R56, R72, R75, R78, R80, R104, R105, R110, R123, R126, R141,
R155, R157, R159 and R162 that State.Inv gathers. -/
def Obligations.StepKeepsInv : Prop := ∀ s t : State, s.Inv → step s = .next t → t.Inv

/-- Every step leaves the term values, settled, UNSETTLED, ISOLATED and VIEW_FULL formed from the state as it then stands (R44,
R53, R107 to R109, R131, R132). -/
def Obligations.StepKeepsConditionsFormed : Prop :=
  ∀ s t : State, s.Inv → TermsFormed s → ConditionsFormed s → step s = .next t → TermsFormed t ∧ ConditionsFormed t

/-- Every step leaves each timer running exactly while what it times goes on (R72 to R74, R84 to R89, R91 to R94, R98, R99, R122,
R123, R147, R158, R161). -/
def Obligations.StepKeepsTimersRunning : Prop :=
  ∀ s t : State, s.Inv → TimersRun s → step s = .next t → TimersRun t

end
end

