-- ==== Sys2Proof/Laws/State.lean ====
section
/-! SUPPORT. One lemma per field per update of the state: each update of a block changes that block and nothing else. -/

namespace Sys2Proof.Machine

variable (s : State)

/-! ### onLif -/

@[simp] theorem State.onLif_held (f : LineInterface → LineInterface) : (s.onLif f).held = s.held := rfl
@[simp] theorem State.onLif_clock (f : LineInterface → LineInterface) : (s.onLif f).clock = s.clock := rfl
@[simp] theorem State.onLif_pending (f : LineInterface → LineInterface) : (s.onLif f).pending = s.pending := rfl
@[simp] theorem State.onLif_lif (f : LineInterface → LineInterface) : (s.onLif f).lif = f s.lif := rfl
@[simp] theorem State.onLif_pvt (f : LineInterface → LineInterface) : (s.onLif f).pvt = s.pvt := rfl
@[simp] theorem State.onLif_lde (f : LineInterface → LineInterface) : (s.onLif f).lde = s.lde := rfl
@[simp] theorem State.onLif_cvu (f : LineInterface → LineInterface) : (s.onLif f).cvu = s.cvu := rfl
@[simp] theorem State.onLif_rsq (f : LineInterface → LineInterface) : (s.onLif f).rsq = s.rsq := rfl
@[simp] theorem State.onLif_plu (f : LineInterface → LineInterface) : (s.onLif f).plu = s.plu := rfl
@[simp] theorem State.onLif_clp (f : LineInterface → LineInterface) : (s.onLif f).clp = s.clp := rfl
@[simp] theorem State.onLif_cfl (f : LineInterface → LineInterface) : (s.onLif f).cfl = s.cfl := rfl
@[simp] theorem State.onLif_acc (f : LineInterface → LineInterface) : (s.onLif f).acc = s.acc := rfl

/-! ### onPvt -/

@[simp] theorem State.onPvt_held (f : PeerView → PeerView) : (s.onPvt f).held = s.held := rfl
@[simp] theorem State.onPvt_clock (f : PeerView → PeerView) : (s.onPvt f).clock = s.clock := rfl
@[simp] theorem State.onPvt_pending (f : PeerView → PeerView) : (s.onPvt f).pending = s.pending := rfl
@[simp] theorem State.onPvt_lif (f : PeerView → PeerView) : (s.onPvt f).lif = s.lif := rfl
@[simp] theorem State.onPvt_pvt (f : PeerView → PeerView) : (s.onPvt f).pvt = f s.pvt := rfl
@[simp] theorem State.onPvt_lde (f : PeerView → PeerView) : (s.onPvt f).lde = s.lde := rfl
@[simp] theorem State.onPvt_cvu (f : PeerView → PeerView) : (s.onPvt f).cvu = s.cvu := rfl
@[simp] theorem State.onPvt_rsq (f : PeerView → PeerView) : (s.onPvt f).rsq = s.rsq := rfl
@[simp] theorem State.onPvt_plu (f : PeerView → PeerView) : (s.onPvt f).plu = s.plu := rfl
@[simp] theorem State.onPvt_clp (f : PeerView → PeerView) : (s.onPvt f).clp = s.clp := rfl
@[simp] theorem State.onPvt_cfl (f : PeerView → PeerView) : (s.onPvt f).cfl = s.cfl := rfl
@[simp] theorem State.onPvt_acc (f : PeerView → PeerView) : (s.onPvt f).acc = s.acc := rfl

/-! ### onLde -/

@[simp] theorem State.onLde_held (f : LoadEstimator → LoadEstimator) : (s.onLde f).held = s.held := rfl
@[simp] theorem State.onLde_clock (f : LoadEstimator → LoadEstimator) : (s.onLde f).clock = s.clock := rfl
@[simp] theorem State.onLde_pending (f : LoadEstimator → LoadEstimator) : (s.onLde f).pending = s.pending := rfl
@[simp] theorem State.onLde_lif (f : LoadEstimator → LoadEstimator) : (s.onLde f).lif = s.lif := rfl
@[simp] theorem State.onLde_pvt (f : LoadEstimator → LoadEstimator) : (s.onLde f).pvt = s.pvt := rfl
@[simp] theorem State.onLde_lde (f : LoadEstimator → LoadEstimator) : (s.onLde f).lde = f s.lde := rfl
@[simp] theorem State.onLde_cvu (f : LoadEstimator → LoadEstimator) : (s.onLde f).cvu = s.cvu := rfl
@[simp] theorem State.onLde_rsq (f : LoadEstimator → LoadEstimator) : (s.onLde f).rsq = s.rsq := rfl
@[simp] theorem State.onLde_plu (f : LoadEstimator → LoadEstimator) : (s.onLde f).plu = s.plu := rfl
@[simp] theorem State.onLde_clp (f : LoadEstimator → LoadEstimator) : (s.onLde f).clp = s.clp := rfl
@[simp] theorem State.onLde_cfl (f : LoadEstimator → LoadEstimator) : (s.onLde f).cfl = s.cfl := rfl
@[simp] theorem State.onLde_acc (f : LoadEstimator → LoadEstimator) : (s.onLde f).acc = s.acc := rfl

/-! ### onCvu -/

@[simp] theorem State.onCvu_held (f : CoverUnit → CoverUnit) : (s.onCvu f).held = s.held := rfl
@[simp] theorem State.onCvu_clock (f : CoverUnit → CoverUnit) : (s.onCvu f).clock = s.clock := rfl
@[simp] theorem State.onCvu_pending (f : CoverUnit → CoverUnit) : (s.onCvu f).pending = s.pending := rfl
@[simp] theorem State.onCvu_lif (f : CoverUnit → CoverUnit) : (s.onCvu f).lif = s.lif := rfl
@[simp] theorem State.onCvu_pvt (f : CoverUnit → CoverUnit) : (s.onCvu f).pvt = s.pvt := rfl
@[simp] theorem State.onCvu_lde (f : CoverUnit → CoverUnit) : (s.onCvu f).lde = s.lde := rfl
@[simp] theorem State.onCvu_cvu (f : CoverUnit → CoverUnit) : (s.onCvu f).cvu = f s.cvu := rfl
@[simp] theorem State.onCvu_rsq (f : CoverUnit → CoverUnit) : (s.onCvu f).rsq = s.rsq := rfl
@[simp] theorem State.onCvu_plu (f : CoverUnit → CoverUnit) : (s.onCvu f).plu = s.plu := rfl
@[simp] theorem State.onCvu_clp (f : CoverUnit → CoverUnit) : (s.onCvu f).clp = s.clp := rfl
@[simp] theorem State.onCvu_cfl (f : CoverUnit → CoverUnit) : (s.onCvu f).cfl = s.cfl := rfl
@[simp] theorem State.onCvu_acc (f : CoverUnit → CoverUnit) : (s.onCvu f).acc = s.acc := rfl

/-! ### onRsq -/

@[simp] theorem State.onRsq_held (f : RestSequencer → RestSequencer) : (s.onRsq f).held = s.held := rfl
@[simp] theorem State.onRsq_clock (f : RestSequencer → RestSequencer) : (s.onRsq f).clock = s.clock := rfl
@[simp] theorem State.onRsq_pending (f : RestSequencer → RestSequencer) : (s.onRsq f).pending = s.pending := rfl
@[simp] theorem State.onRsq_lif (f : RestSequencer → RestSequencer) : (s.onRsq f).lif = s.lif := rfl
@[simp] theorem State.onRsq_pvt (f : RestSequencer → RestSequencer) : (s.onRsq f).pvt = s.pvt := rfl
@[simp] theorem State.onRsq_lde (f : RestSequencer → RestSequencer) : (s.onRsq f).lde = s.lde := rfl
@[simp] theorem State.onRsq_cvu (f : RestSequencer → RestSequencer) : (s.onRsq f).cvu = s.cvu := rfl
@[simp] theorem State.onRsq_rsq (f : RestSequencer → RestSequencer) : (s.onRsq f).rsq = f s.rsq := rfl
@[simp] theorem State.onRsq_plu (f : RestSequencer → RestSequencer) : (s.onRsq f).plu = s.plu := rfl
@[simp] theorem State.onRsq_clp (f : RestSequencer → RestSequencer) : (s.onRsq f).clp = s.clp := rfl
@[simp] theorem State.onRsq_cfl (f : RestSequencer → RestSequencer) : (s.onRsq f).cfl = s.cfl := rfl
@[simp] theorem State.onRsq_acc (f : RestSequencer → RestSequencer) : (s.onRsq f).acc = s.acc := rfl

/-! ### onPlu -/

@[simp] theorem State.onPlu_held (f : PolicyUnit → PolicyUnit) : (s.onPlu f).held = s.held := rfl
@[simp] theorem State.onPlu_clock (f : PolicyUnit → PolicyUnit) : (s.onPlu f).clock = s.clock := rfl
@[simp] theorem State.onPlu_pending (f : PolicyUnit → PolicyUnit) : (s.onPlu f).pending = s.pending := rfl
@[simp] theorem State.onPlu_lif (f : PolicyUnit → PolicyUnit) : (s.onPlu f).lif = s.lif := rfl
@[simp] theorem State.onPlu_pvt (f : PolicyUnit → PolicyUnit) : (s.onPlu f).pvt = s.pvt := rfl
@[simp] theorem State.onPlu_lde (f : PolicyUnit → PolicyUnit) : (s.onPlu f).lde = s.lde := rfl
@[simp] theorem State.onPlu_cvu (f : PolicyUnit → PolicyUnit) : (s.onPlu f).cvu = s.cvu := rfl
@[simp] theorem State.onPlu_rsq (f : PolicyUnit → PolicyUnit) : (s.onPlu f).rsq = s.rsq := rfl
@[simp] theorem State.onPlu_plu (f : PolicyUnit → PolicyUnit) : (s.onPlu f).plu = f s.plu := rfl
@[simp] theorem State.onPlu_clp (f : PolicyUnit → PolicyUnit) : (s.onPlu f).clp = s.clp := rfl
@[simp] theorem State.onPlu_cfl (f : PolicyUnit → PolicyUnit) : (s.onPlu f).cfl = s.cfl := rfl
@[simp] theorem State.onPlu_acc (f : PolicyUnit → PolicyUnit) : (s.onPlu f).acc = s.acc := rfl

/-! ### onClp -/

@[simp] theorem State.onClp_held (f : CarrierLink → CarrierLink) : (s.onClp f).held = s.held := rfl
@[simp] theorem State.onClp_clock (f : CarrierLink → CarrierLink) : (s.onClp f).clock = s.clock := rfl
@[simp] theorem State.onClp_pending (f : CarrierLink → CarrierLink) : (s.onClp f).pending = s.pending := rfl
@[simp] theorem State.onClp_lif (f : CarrierLink → CarrierLink) : (s.onClp f).lif = s.lif := rfl
@[simp] theorem State.onClp_pvt (f : CarrierLink → CarrierLink) : (s.onClp f).pvt = s.pvt := rfl
@[simp] theorem State.onClp_lde (f : CarrierLink → CarrierLink) : (s.onClp f).lde = s.lde := rfl
@[simp] theorem State.onClp_cvu (f : CarrierLink → CarrierLink) : (s.onClp f).cvu = s.cvu := rfl
@[simp] theorem State.onClp_rsq (f : CarrierLink → CarrierLink) : (s.onClp f).rsq = s.rsq := rfl
@[simp] theorem State.onClp_plu (f : CarrierLink → CarrierLink) : (s.onClp f).plu = s.plu := rfl
@[simp] theorem State.onClp_clp (f : CarrierLink → CarrierLink) : (s.onClp f).clp = f s.clp := rfl
@[simp] theorem State.onClp_cfl (f : CarrierLink → CarrierLink) : (s.onClp f).cfl = s.cfl := rfl
@[simp] theorem State.onClp_acc (f : CarrierLink → CarrierLink) : (s.onClp f).acc = s.acc := rfl

/-! ### onCfl -/

@[simp] theorem State.onCfl_held (f : Loader → Loader) : (s.onCfl f).held = s.held := rfl
@[simp] theorem State.onCfl_clock (f : Loader → Loader) : (s.onCfl f).clock = s.clock := rfl
@[simp] theorem State.onCfl_pending (f : Loader → Loader) : (s.onCfl f).pending = s.pending := rfl
@[simp] theorem State.onCfl_lif (f : Loader → Loader) : (s.onCfl f).lif = s.lif := rfl
@[simp] theorem State.onCfl_pvt (f : Loader → Loader) : (s.onCfl f).pvt = s.pvt := rfl
@[simp] theorem State.onCfl_lde (f : Loader → Loader) : (s.onCfl f).lde = s.lde := rfl
@[simp] theorem State.onCfl_cvu (f : Loader → Loader) : (s.onCfl f).cvu = s.cvu := rfl
@[simp] theorem State.onCfl_rsq (f : Loader → Loader) : (s.onCfl f).rsq = s.rsq := rfl
@[simp] theorem State.onCfl_plu (f : Loader → Loader) : (s.onCfl f).plu = s.plu := rfl
@[simp] theorem State.onCfl_clp (f : Loader → Loader) : (s.onCfl f).clp = s.clp := rfl
@[simp] theorem State.onCfl_cfl (f : Loader → Loader) : (s.onCfl f).cfl = f s.cfl := rfl
@[simp] theorem State.onCfl_acc (f : Loader → Loader) : (s.onCfl f).acc = s.acc := rfl

/-! ### onAcc -/

@[simp] theorem State.onAcc_held (f : Accounting → Accounting) : (s.onAcc f).held = s.held := rfl
@[simp] theorem State.onAcc_clock (f : Accounting → Accounting) : (s.onAcc f).clock = s.clock := rfl
@[simp] theorem State.onAcc_pending (f : Accounting → Accounting) : (s.onAcc f).pending = s.pending := rfl
@[simp] theorem State.onAcc_lif (f : Accounting → Accounting) : (s.onAcc f).lif = s.lif := rfl
@[simp] theorem State.onAcc_pvt (f : Accounting → Accounting) : (s.onAcc f).pvt = s.pvt := rfl
@[simp] theorem State.onAcc_lde (f : Accounting → Accounting) : (s.onAcc f).lde = s.lde := rfl
@[simp] theorem State.onAcc_cvu (f : Accounting → Accounting) : (s.onAcc f).cvu = s.cvu := rfl
@[simp] theorem State.onAcc_rsq (f : Accounting → Accounting) : (s.onAcc f).rsq = s.rsq := rfl
@[simp] theorem State.onAcc_plu (f : Accounting → Accounting) : (s.onAcc f).plu = s.plu := rfl
@[simp] theorem State.onAcc_clp (f : Accounting → Accounting) : (s.onAcc f).clp = s.clp := rfl
@[simp] theorem State.onAcc_cfl (f : Accounting → Accounting) : (s.onAcc f).cfl = s.cfl := rfl
@[simp] theorem State.onAcc_acc (f : Accounting → Accounting) : (s.onAcc f).acc = f s.acc := rfl

/-! ### bump -/

variable (c : Counter)

@[simp] theorem State.bump_held : (s.bump c).held = s.held := rfl
@[simp] theorem State.bump_clock : (s.bump c).clock = s.clock := rfl
@[simp] theorem State.bump_pending : (s.bump c).pending = s.pending := rfl
@[simp] theorem State.bump_lif : (s.bump c).lif = s.lif := rfl
@[simp] theorem State.bump_pvt : (s.bump c).pvt = s.pvt := rfl
@[simp] theorem State.bump_lde : (s.bump c).lde = s.lde := rfl
@[simp] theorem State.bump_cvu : (s.bump c).cvu = s.cvu := rfl
@[simp] theorem State.bump_rsq : (s.bump c).rsq = s.rsq := rfl
@[simp] theorem State.bump_plu : (s.bump c).plu = s.plu := rfl
@[simp] theorem State.bump_clp : (s.bump c).clp = s.clp := rfl
@[simp] theorem State.bump_cfl : (s.bump c).cfl = s.cfl := rfl

/-! ### elapse -/

variable (t : Micros)

@[simp] theorem State.elapse_held : (s.elapse t).held = s.held := rfl
@[simp] theorem State.elapse_clock : (s.elapse t).clock = s.clock + t := rfl
@[simp] theorem State.elapse_pending : (s.elapse t).pending = s.pending := rfl
@[simp] theorem State.elapse_lif : (s.elapse t).lif = s.lif := rfl
@[simp] theorem State.elapse_pvt : (s.elapse t).pvt = s.pvt := rfl
@[simp] theorem State.elapse_lde : (s.elapse t).lde = s.lde := rfl
@[simp] theorem State.elapse_cvu : (s.elapse t).cvu = s.cvu := rfl
@[simp] theorem State.elapse_plu : (s.elapse t).plu = s.plu := rfl
@[simp] theorem State.elapse_clp : (s.elapse t).clp = s.clp := rfl
@[simp] theorem State.elapse_cfl : (s.elapse t).cfl = s.cfl := rfl
@[simp] theorem State.elapse_rsq_phase : (s.elapse t).rsq.phase = s.rsq.phase := rfl
@[simp] theorem State.elapse_rsq_cover : (s.elapse t).rsq.cover = s.rsq.cover := rfl
@[simp] theorem State.elapse_rsq_tag : (s.elapse t).rsq.tag = s.rsq.tag := rfl
@[simp] theorem State.elapse_rsq_askWait : (s.elapse t).rsq.askWait = s.rsq.askWait := rfl
@[simp] theorem State.elapse_rsq_backoff : (s.elapse t).rsq.backoff = s.rsq.backoff := rfl
@[simp] theorem State.elapse_rsq_drainTimer : (s.elapse t).rsq.drainTimer = s.rsq.drainTimer := rfl
@[simp] theorem State.elapse_rsq_drainStep : (s.elapse t).rsq.drainStep = s.rsq.drainStep := rfl
@[simp] theorem State.elapse_rsq_darkGiven : (s.elapse t).rsq.darkGiven = s.rsq.darkGiven := rfl
@[simp] theorem State.elapse_rsq_wakeCause : (s.elapse t).rsq.wakeCause = s.rsq.wakeCause := rfl
@[simp] theorem State.elapse_rsq_omissions : (s.elapse t).rsq.omissions = s.rsq.omissions := rfl
@[simp] theorem State.elapse_rsq_restGuard : (s.elapse t).rsq.restGuard = s.rsq.restGuard := rfl
@[simp] theorem State.elapse_rsq_recentRecall : (s.elapse t).rsq.recentRecall = s.rsq.recentRecall := rfl
@[simp] theorem State.elapse_rsq_noCover : (s.elapse t).rsq.noCover = s.rsq.noCover := rfl
@[simp] theorem State.elapse_rsq_settleCount : (s.elapse t).rsq.settleCount = s.rsq.settleCount := rfl
@[simp] theorem State.elapse_rsq_settled : (s.elapse t).rsq.settled = s.rsq.settled := rfl
@[simp] theorem State.elapse_rsq_unsettled : (s.elapse t).rsq.unsettled = s.rsq.unsettled := rfl
@[simp] theorem State.elapse_rsq_doze : (s.elapse t).rsq.doze = s.rsq.doze := rfl
@[simp] theorem State.elapse_acc_counts : (s.elapse t).acc.counts = s.acc.counts := rfl
@[simp] theorem State.elapse_acc_cursor0 : (s.elapse t).acc.cursor0 = s.acc.cursor0 := rfl
@[simp] theorem State.elapse_acc_cursor1 : (s.elapse t).acc.cursor1 = s.acc.cursor1 := rfl
@[simp] theorem State.elapse_acc_cursor2 : (s.elapse t).acc.cursor2 = s.acc.cursor2 := rfl
@[simp] theorem State.elapse_acc_cursor3 : (s.elapse t).acc.cursor3 = s.acc.cursor3 := rfl
@[simp] theorem State.elapse_count : (s.elapse t).count c = s.count c := rfl
@[simp] theorem State.elapse_own : (s.elapse t).own = s.own := rfl
@[simp] theorem State.elapse_image : (s.elapse t).image = s.image := rfl
@[simp] theorem State.elapse_profile : (s.elapse t).profile = s.profile := rfl

end Sys2Proof.Machine
end

