-- ==== Sys2Proof/Laws/Counters.lean ====
section
/-! SUPPORT. Counters: each has its own place, so writing one leaves every other alone (R168). -/

namespace Sys2Proof.Machine

/-- Every counter, in the order of its place. -/
def everyCounter : List Counter :=
  allKinds.map .sent ++ allKinds.map .arrivals ++ allKinds.map .abandonDiscards ++ allKinds.map .queueDiscards ++
    [.contentionLosses, .abandons, .statusReplaced, .framingErrors, .badChecks, .malformedFrames, .unknownKind,
      .maintenanceFromCarrier, .clashFrames, .validSamples, .linkBadRecords, .unrecognizedRecords, .repliesSent,
      .repliesDropped, .linkLosses, .linkReturns, .carrierFaults, .setAside, .malformedBeacons, .otherSectorRemovals,
      .evictions, .ageRemovals, .fullViewDrops, .granted] ++ allCauses.map .removed ++
    [.asksReceived, .asksUnanswered, .unmatchedResumes, .overloadRecalls, .continuousRecalls, .recallsSent] ++
    allReasons.map .deniesSent ++ allReasons.map .deniesReceived ++
    [.asksSent, .grantsReceived, .misses, .askWaitExpiries, .abandonedAsks, .drainFailures, .lateGrants, .recallsReceived,
      .recallsAnswered] ++ allWakes.map .wakes ++
    [.orphanWakes, .unsettledRaisings, .restsEntered, .deepEntries, .deepDecisions, .dozeBeacons, .windowsTaken,
      .profilesTaken, .flagsTaken, .maskedOut, .malformedProfiles, .windowOpenings, .closingsByNotice, .closingsByExpiry,
      .profileChanges, .unrecognizedStatus, .readsAbsent, .readsTimedOut, .fallbackLoads, .loadingExits, .lineRestarts]

/-- A counter is found at its place. -/
theorem everyCounter_at (c : Counter) : everyCounter[counterIndex c]? = some c := by
  cases c with
  | sent k => cases k <;> rfl
  | arrivals k => cases k <;> rfl
  | abandonDiscards k => cases k <;> rfl
  | queueDiscards k => cases k <;> rfl
  | removed k => cases k <;> rfl
  | deniesSent k => cases k <;> rfl
  | deniesReceived k => cases k <;> rfl
  | wakes k => cases k <;> rfl
  | _ => rfl

/-- No two counters share a place. -/
theorem counterIndex_injective {c d : Counter} (h : counterIndex c = counterIndex d) : c = d := by
  have hc := everyCounter_at c
  rw [h, everyCounter_at d] at hc
  exact (Option.some.inj hc).symm

@[simp] theorem Accounting.count_setCount_same (a : Accounting) (c : Counter) (n : Nat) : (a.setCount c n).count c = n := by
  simp [Accounting.count, Accounting.setCount]

theorem Accounting.count_setCount_other (a : Accounting) {c d : Counter} (n : Nat) (h : d ≠ c) :
    (a.setCount c n).count d = a.count d := by
  have hne : counterIndex c ≠ counterIndex d := fun e => h (counterIndex_injective e).symm
  simp [Accounting.count, Accounting.setCount, hne]

/-- What a count does to every counter: its own is raised by 1, stopping at 65535, and no other changes (R168). -/
theorem State.count_bump (s : State) (c d : Counter) :
    (s.bump c).count d = if d = c then saturatingSucc Config.counterLimit (s.count d) else s.count d := by
  by_cases h : d = c
  · subst h
    simp [State.bump, State.count]
  · simp [State.bump, State.count, Accounting.count_setCount_other _ _ h, h]

@[simp] theorem State.count_bump_same (s : State) (c : Counter) :
    (s.bump c).count c = saturatingSucc Config.counterLimit (s.count c) := by
  simp [State.count_bump]

/-- An update of any block but Accounting leaves every counter. -/
theorem State.count_eq_of_acc {s t : State} (h : t.acc = s.acc) (c : Counter) : t.count c = s.count c := by
  simp [State.count, h]

end Sys2Proof.Machine
end

