-- ==== Sys2Proof/Laws/Frames.lean ====
section
/-! SUPPORT. The frame of each shared operation, one theorem each: the blocks it leaves alone, and that of Accounting it changes
counts alone. A conjunction tagged simp is one rewriting for each of its equations. -/

namespace Sys2Proof.Machine

/-- Accounting but for its 16-bit counters: what no count changes. -/
def Accounting.beyondCounts (a : Accounting) : Accounting := { a with counts := Vector.replicate Config.counterTotal 0 }

@[simp] theorem Accounting.beyondCounts_setCount (a : Accounting) (c : Counter) (n : Nat) :
    (a.setCount c n).beyondCounts = a.beyondCounts := rfl

/-- The same beyond counts is the same but for counts. -/
theorem countsAlone_of {s t : State} (h : t.acc.beyondCounts = s.acc.beyondCounts) : CountsAlone s t := by
  unfold CountsAlone
  cases hs : s.acc with
  | mk => cases ht : t.acc with
    | mk => simp_all [Accounting.beyondCounts]

variable (s : State)

@[simp] theorem State.bump_frame (c : Counter) :
    (s.bump c).held = s.held ∧ (s.bump c).clock = s.clock ∧ (s.bump c).pending = s.pending ∧ (s.bump c).lif = s.lif ∧
      (s.bump c).pvt = s.pvt ∧ (s.bump c).lde = s.lde ∧ (s.bump c).cvu = s.cvu ∧ (s.bump c).rsq = s.rsq ∧
      (s.bump c).plu = s.plu ∧ (s.bump c).clp = s.clp ∧ (s.bump c).cfl = s.cfl ∧
      (s.bump c).acc.beyondCounts = s.acc.beyondCounts := by
  unfold State.bump
  simp

@[simp] theorem State.enqueue_frame (n : Notice) :
    (s.enqueue n).held = s.held ∧ (s.enqueue n).clock = s.clock ∧ (s.enqueue n).pending = s.pending ∧
      (s.enqueue n).pvt = s.pvt ∧ (s.enqueue n).lde = s.lde ∧ (s.enqueue n).cvu = s.cvu ∧ (s.enqueue n).rsq = s.rsq ∧
      (s.enqueue n).plu = s.plu ∧ (s.enqueue n).clp = s.clp ∧ (s.enqueue n).cfl = s.cfl ∧
      (s.enqueue n).acc.beyondCounts = s.acc.beyondCounts := by
  unfold State.enqueue
  repeat' split
  all_goals simp

@[simp] theorem State.offer_frame (n : Notice) :
    (s.offer n).held = s.held ∧ (s.offer n).clock = s.clock ∧ (s.offer n).pending = s.pending ∧
      (s.offer n).pvt = s.pvt ∧ (s.offer n).lde = s.lde ∧ (s.offer n).cvu = s.cvu ∧ (s.offer n).rsq = s.rsq ∧
      (s.offer n).plu = s.plu ∧ (s.offer n).clp = s.clp ∧ (s.offer n).cfl = s.cfl ∧
      (s.offer n).acc.beyondCounts = s.acc.beyondCounts := by
  unfold State.offer
  repeat' split
  all_goals simp

@[simp] theorem State.formValues_frame :
    (s.formValues).held = s.held ∧ (s.formValues).clock = s.clock ∧ (s.formValues).pending = s.pending ∧
      (s.formValues).lif = s.lif ∧ (s.formValues).pvt = s.pvt ∧ (s.formValues).lde = s.lde ∧
      (s.formValues).cvu = s.cvu ∧ (s.formValues).clp = s.clp ∧ (s.formValues).cfl = s.cfl ∧
      (s.formValues).acc = s.acc := by
  unfold State.formValues
  dsimp only
  repeat' split
  all_goals simp

@[simp] theorem State.resumeToCover_frame :
    (s.resumeToCover).held = s.held ∧ (s.resumeToCover).clock = s.clock ∧ (s.resumeToCover).pending = s.pending ∧
      (s.resumeToCover).pvt = s.pvt ∧ (s.resumeToCover).lde = s.lde ∧ (s.resumeToCover).cvu = s.cvu ∧
      (s.resumeToCover).rsq = s.rsq ∧ (s.resumeToCover).plu = s.plu ∧ (s.resumeToCover).clp = s.clp ∧
      (s.resumeToCover).cfl = s.cfl ∧ (s.resumeToCover).acc.beyondCounts = s.acc.beyondCounts := by
  unfold State.resumeToCover
  repeat' split
  all_goals simp

@[simp] theorem State.startRestGuard_frame :
    (s.startRestGuard).held = s.held ∧ (s.startRestGuard).clock = s.clock ∧ (s.startRestGuard).pending = s.pending ∧
      (s.startRestGuard).lif = s.lif ∧ (s.startRestGuard).pvt = s.pvt ∧ (s.startRestGuard).lde = s.lde ∧
      (s.startRestGuard).cvu = s.cvu ∧ (s.startRestGuard).clp = s.clp ∧ (s.startRestGuard).cfl = s.cfl ∧
      (s.startRestGuard).acc = s.acc := by
  unfold State.startRestGuard
  dsimp only
  repeat' split
  all_goals simp

@[simp] theorem State.abortDrain_frame (cause : WakeCause) :
    (s.abortDrain cause).held = s.held ∧ (s.abortDrain cause).clock = s.clock ∧
      (s.abortDrain cause).pending = s.pending ∧ (s.abortDrain cause).pvt = s.pvt ∧
      (s.abortDrain cause).lde = s.lde ∧ (s.abortDrain cause).cvu = s.cvu ∧ (s.abortDrain cause).clp = s.clp ∧
      (s.abortDrain cause).cfl = s.cfl ∧ (s.abortDrain cause).acc.beyondCounts = s.acc.beyondCounts := by
  unfold State.abortDrain
  dsimp only
  repeat' split
  all_goals simp

@[simp] theorem State.leaveRest_frame (cause : WakeCause) :
    (s.leaveRest cause).held = s.held ∧ (s.leaveRest cause).clock = s.clock ∧
      (s.leaveRest cause).pending = s.pending ∧ (s.leaveRest cause).lif = s.lif ∧ (s.leaveRest cause).pvt = s.pvt ∧
      (s.leaveRest cause).lde = s.lde ∧ (s.leaveRest cause).cvu = s.cvu ∧ (s.leaveRest cause).clp = s.clp ∧
      (s.leaveRest cause).cfl = s.cfl ∧ (s.leaveRest cause).acc = s.acc := by
  unfold State.leaveRest
  dsimp only
  repeat' split
  all_goals simp

@[simp] theorem State.countWake_frame (cause : WakeCause) :
    (s.countWake cause).held = s.held ∧ (s.countWake cause).clock = s.clock ∧
      (s.countWake cause).pending = s.pending ∧ (s.countWake cause).lif = s.lif ∧ (s.countWake cause).pvt = s.pvt ∧
      (s.countWake cause).lde = s.lde ∧ (s.countWake cause).cvu = s.cvu ∧ (s.countWake cause).rsq = s.rsq ∧
      (s.countWake cause).plu = s.plu ∧ (s.countWake cause).clp = s.clp ∧ (s.countWake cause).cfl = s.cfl ∧
      (s.countWake cause).acc.beyondCounts = s.acc.beyondCounts := by
  unfold State.countWake
  repeat' split
  all_goals simp

@[simp] theorem State.wake_frame (cause : WakeCause) :
    (s.wake cause).held = s.held ∧ (s.wake cause).clock = s.clock ∧ (s.wake cause).pending = s.pending ∧
      (s.wake cause).pvt = s.pvt ∧ (s.wake cause).lde = s.lde ∧ (s.wake cause).cvu = s.cvu ∧
      (s.wake cause).clp = s.clp ∧ (s.wake cause).cfl = s.cfl ∧
      (s.wake cause).acc.beyondCounts = s.acc.beyondCounts := by
  unfold State.wake
  repeat' split
  all_goals simp

@[simp] theorem State.formTerms_frame :
    (s.formTerms).held = s.held ∧ (s.formTerms).clock = s.clock ∧ (s.formTerms).pending = s.pending ∧
      (s.formTerms).pvt = s.pvt ∧ (s.formTerms).lde = s.lde ∧ (s.formTerms).cvu = s.cvu ∧ (s.formTerms).clp = s.clp ∧
      (s.formTerms).cfl = s.cfl ∧ (s.formTerms).acc.beyondCounts = s.acc.beyondCounts := by
  unfold State.formTerms
  simp only [doWhen]
  repeat' split
  all_goals simp

@[simp] theorem State.rouseAtEntry_frame :
    (s.rouseAtEntry).held = s.held ∧ (s.rouseAtEntry).clock = s.clock ∧ (s.rouseAtEntry).pending = s.pending ∧
      (s.rouseAtEntry).pvt = s.pvt ∧ (s.rouseAtEntry).lde = s.lde ∧ (s.rouseAtEntry).cvu = s.cvu ∧
      (s.rouseAtEntry).clp = s.clp ∧ (s.rouseAtEntry).cfl = s.cfl ∧
      (s.rouseAtEntry).acc.beyondCounts = s.acc.beyondCounts := by
  unfold State.rouseAtEntry
  simp only [doWhen]
  repeat' split
  all_goals simp

@[simp] theorem State.setLinkLost_frame (b : Bool) :
    (s.setLinkLost b).held = s.held ∧ (s.setLinkLost b).clock = s.clock ∧ (s.setLinkLost b).pending = s.pending ∧
      (s.setLinkLost b).pvt = s.pvt ∧ (s.setLinkLost b).cvu = s.cvu ∧ (s.setLinkLost b).clp = s.clp ∧
      (s.setLinkLost b).cfl = s.cfl ∧ (s.setLinkLost b).acc.beyondCounts = s.acc.beyondCounts := by
  unfold State.setLinkLost
  simp only [State.setCondition]
  repeat' split
  all_goals simp

@[simp] theorem State.setCarrierFault_frame (b : Bool) :
    (s.setCarrierFault b).held = s.held ∧ (s.setCarrierFault b).clock = s.clock ∧
      (s.setCarrierFault b).pending = s.pending ∧ (s.setCarrierFault b).pvt = s.pvt ∧
      (s.setCarrierFault b).lde = s.lde ∧ (s.setCarrierFault b).cvu = s.cvu ∧ (s.setCarrierFault b).cfl = s.cfl ∧
      (s.setCarrierFault b).acc.beyondCounts = s.acc.beyondCounts := by
  unfold State.setCarrierFault
  simp only [doWhen, State.setCondition]
  repeat' split
  all_goals simp

@[simp] theorem State.setNoCover_frame (b : Bool) :
    (s.setNoCover b).held = s.held ∧ (s.setNoCover b).clock = s.clock ∧ (s.setNoCover b).pending = s.pending ∧
      (s.setNoCover b).pvt = s.pvt ∧ (s.setNoCover b).lde = s.lde ∧ (s.setNoCover b).cvu = s.cvu ∧
      (s.setNoCover b).clp = s.clp ∧ (s.setNoCover b).cfl = s.cfl ∧
      (s.setNoCover b).acc.beyondCounts = s.acc.beyondCounts := by
  unfold State.setNoCover
  simp only [State.setCondition]
  repeat' split
  all_goals simp

@[simp] theorem State.setUnsettled_frame (b : Bool) :
    (s.setUnsettled b).held = s.held ∧ (s.setUnsettled b).clock = s.clock ∧ (s.setUnsettled b).pending = s.pending ∧
      (s.setUnsettled b).pvt = s.pvt ∧ (s.setUnsettled b).lde = s.lde ∧ (s.setUnsettled b).cvu = s.cvu ∧
      (s.setUnsettled b).clp = s.clp ∧ (s.setUnsettled b).cfl = s.cfl ∧
      (s.setUnsettled b).acc.beyondCounts = s.acc.beyondCounts := by
  unfold State.setUnsettled
  simp only [doWhen, State.setCondition]
  repeat' split
  all_goals simp

@[simp] theorem State.endRecentRecall_frame :
    (s.endRecentRecall).held = s.held ∧ (s.endRecentRecall).clock = s.clock ∧
      (s.endRecentRecall).pending = s.pending ∧ (s.endRecentRecall).pvt = s.pvt ∧ (s.endRecentRecall).lde = s.lde ∧
      (s.endRecentRecall).cvu = s.cvu ∧ (s.endRecentRecall).clp = s.clp ∧ (s.endRecentRecall).cfl = s.cfl ∧
      (s.endRecentRecall).acc.beyondCounts = s.acc.beyondCounts := by
  unfold State.endRecentRecall
  simp only [State.setCondition]
  repeat' split
  all_goals simp

@[simp] theorem State.formIsolated_frame :
    (s.formIsolated).held = s.held ∧ (s.formIsolated).clock = s.clock ∧ (s.formIsolated).pending = s.pending ∧
      (s.formIsolated).lde = s.lde ∧ (s.formIsolated).cvu = s.cvu ∧ (s.formIsolated).clp = s.clp ∧
      (s.formIsolated).cfl = s.cfl ∧ (s.formIsolated).acc.beyondCounts = s.acc.beyondCounts := by
  unfold State.formIsolated
  simp only [State.setCondition]
  repeat' split
  all_goals simp

@[simp] theorem State.useSample_frame (u : BitVec 10) (n : BitVec 11) (arrivedAwake : Bool) :
    (s.useSample u n arrivedAwake).held = s.held ∧ (s.useSample u n arrivedAwake).clock = s.clock ∧
      (s.useSample u n arrivedAwake).pending = s.pending ∧ (s.useSample u n arrivedAwake).lif = s.lif ∧
      (s.useSample u n arrivedAwake).pvt = s.pvt ∧ (s.useSample u n arrivedAwake).cvu = s.cvu ∧
      (s.useSample u n arrivedAwake).rsq = s.rsq ∧ (s.useSample u n arrivedAwake).plu = s.plu ∧
      (s.useSample u n arrivedAwake).clp = s.clp ∧ (s.useSample u n arrivedAwake).cfl = s.cfl ∧
      (s.useSample u n arrivedAwake).acc = s.acc := by
  unfold State.useSample
  dsimp only
  repeat' split
  all_goals simp

@[simp] theorem State.zeroQuiet_frame :
    (s.zeroQuiet).held = s.held ∧ (s.zeroQuiet).clock = s.clock ∧ (s.zeroQuiet).pending = s.pending ∧
      (s.zeroQuiet).lif = s.lif ∧ (s.zeroQuiet).pvt = s.pvt ∧ (s.zeroQuiet).cvu = s.cvu ∧ (s.zeroQuiet).rsq = s.rsq ∧
      (s.zeroQuiet).plu = s.plu ∧ (s.zeroQuiet).clp = s.clp ∧ (s.zeroQuiet).cfl = s.cfl ∧
      (s.zeroQuiet).acc = s.acc := by
  unfold State.zeroQuiet
  simp

@[simp] theorem State.sendRecall_frame (p : Pledge) :
    (s.sendRecall p).held = s.held ∧ (s.sendRecall p).clock = s.clock ∧ (s.sendRecall p).pending = s.pending ∧
      (s.sendRecall p).pvt = s.pvt ∧ (s.sendRecall p).lde = s.lde ∧ (s.sendRecall p).rsq = s.rsq ∧
      (s.sendRecall p).plu = s.plu ∧ (s.sendRecall p).clp = s.clp ∧ (s.sendRecall p).cfl = s.cfl ∧
      (s.sendRecall p).acc.beyondCounts = s.acc.beyondCounts := by
  unfold State.sendRecall
  simp

@[simp] theorem State.startRecall_frame (counted : Counter) :
    (s.startRecall counted).held = s.held ∧ (s.startRecall counted).clock = s.clock ∧
      (s.startRecall counted).pending = s.pending ∧ (s.startRecall counted).pvt = s.pvt ∧
      (s.startRecall counted).lde = s.lde ∧ (s.startRecall counted).rsq = s.rsq ∧
      (s.startRecall counted).plu = s.plu ∧ (s.startRecall counted).clp = s.clp ∧
      (s.startRecall counted).cfl = s.cfl ∧ (s.startRecall counted).acc.beyondCounts = s.acc.beyondCounts := by
  unfold State.startRecall
  repeat' split
  all_goals simp

@[simp] theorem State.continuousCheck_frame :
    (s.continuousCheck).held = s.held ∧ (s.continuousCheck).clock = s.clock ∧
      (s.continuousCheck).pending = s.pending ∧ (s.continuousCheck).pvt = s.pvt ∧ (s.continuousCheck).lde = s.lde ∧
      (s.continuousCheck).rsq = s.rsq ∧ (s.continuousCheck).plu = s.plu ∧ (s.continuousCheck).clp = s.clp ∧
      (s.continuousCheck).cfl = s.cfl ∧ (s.continuousCheck).acc.beyondCounts = s.acc.beyondCounts := by
  unfold State.continuousCheck
  repeat' split
  all_goals simp

@[simp] theorem State.startRecallGuard_frame :
    (s.startRecallGuard).held = s.held ∧ (s.startRecallGuard).clock = s.clock ∧
      (s.startRecallGuard).pending = s.pending ∧ (s.startRecallGuard).lif = s.lif ∧
      (s.startRecallGuard).pvt = s.pvt ∧ (s.startRecallGuard).lde = s.lde ∧ (s.startRecallGuard).rsq = s.rsq ∧
      (s.startRecallGuard).plu = s.plu ∧ (s.startRecallGuard).clp = s.clp ∧ (s.startRecallGuard).cfl = s.cfl ∧
      (s.startRecallGuard).acc = s.acc := by
  unfold State.startRecallGuard
  repeat' split
  all_goals simp

@[simp] theorem State.endCall_frame (cause : RemovalCause) :
    (s.endCall cause).held = s.held ∧ (s.endCall cause).clock = s.clock ∧ (s.endCall cause).pending = s.pending ∧
      (s.endCall cause).pvt = s.pvt ∧ (s.endCall cause).lde = s.lde ∧ (s.endCall cause).rsq = s.rsq ∧
      (s.endCall cause).plu = s.plu ∧ (s.endCall cause).clp = s.clp ∧ (s.endCall cause).cfl = s.cfl ∧
      (s.endCall cause).acc.beyondCounts = s.acc.beyondCounts := by
  unfold State.endCall
  simp only [doWhen]
  repeat' split
  all_goals simp

@[simp] theorem State.removePledge_frame (p : Pledge) (cause : RemovalCause) :
    (s.removePledge p cause).held = s.held ∧ (s.removePledge p cause).clock = s.clock ∧
      (s.removePledge p cause).pending = s.pending ∧ (s.removePledge p cause).pvt = s.pvt ∧
      (s.removePledge p cause).lde = s.lde ∧ (s.removePledge p cause).rsq = s.rsq ∧
      (s.removePledge p cause).plu = s.plu ∧ (s.removePledge p cause).clp = s.clp ∧
      (s.removePledge p cause).cfl = s.cfl ∧ (s.removePledge p cause).acc.beyondCounts = s.acc.beyondCounts := by
  unfold State.removePledge
  simp only [doWhen]
  repeat' split
  all_goals simp

@[simp] theorem State.replaceFor_frame (asker : Nat) :
    (s.replaceFor asker).held = s.held ∧ (s.replaceFor asker).clock = s.clock ∧
      (s.replaceFor asker).pending = s.pending ∧ (s.replaceFor asker).pvt = s.pvt ∧
      (s.replaceFor asker).lde = s.lde ∧ (s.replaceFor asker).rsq = s.rsq ∧ (s.replaceFor asker).plu = s.plu ∧
      (s.replaceFor asker).clp = s.clp ∧ (s.replaceFor asker).cfl = s.cfl ∧
      (s.replaceFor asker).acc.beyondCounts = s.acc.beyondCounts := by
  unfold State.replaceFor
  repeat' split
  all_goals simp

@[simp] theorem State.grantAsk_frame (asker : Nat) (tag : BitVec 8) (amount : Nat) :
    (s.grantAsk asker tag amount).held = s.held ∧ (s.grantAsk asker tag amount).clock = s.clock ∧
      (s.grantAsk asker tag amount).pending = s.pending ∧ (s.grantAsk asker tag amount).pvt = s.pvt ∧
      (s.grantAsk asker tag amount).lde = s.lde ∧ (s.grantAsk asker tag amount).rsq = s.rsq ∧
      (s.grantAsk asker tag amount).plu = s.plu ∧ (s.grantAsk asker tag amount).clp = s.clp ∧
      (s.grantAsk asker tag amount).cfl = s.cfl ∧
      (s.grantAsk asker tag amount).acc.beyondCounts = s.acc.beyondCounts := by
  unfold State.grantAsk
  simp

@[simp] theorem State.denyAsk_frame (asker : Nat) (tag : BitVec 8) (reason : DenyReason) :
    (s.denyAsk asker tag reason).held = s.held ∧ (s.denyAsk asker tag reason).clock = s.clock ∧
      (s.denyAsk asker tag reason).pending = s.pending ∧ (s.denyAsk asker tag reason).pvt = s.pvt ∧
      (s.denyAsk asker tag reason).lde = s.lde ∧ (s.denyAsk asker tag reason).cvu = s.cvu ∧
      (s.denyAsk asker tag reason).rsq = s.rsq ∧ (s.denyAsk asker tag reason).plu = s.plu ∧
      (s.denyAsk asker tag reason).clp = s.clp ∧ (s.denyAsk asker tag reason).cfl = s.cfl ∧
      (s.denyAsk asker tag reason).acc.beyondCounts = s.acc.beyondCounts := by
  unfold State.denyAsk
  simp

@[simp] theorem State.answerAsk_frame (asker : Nat) (sector : BitVec 3) (tag : BitVec 8) (amount : Nat) :
    (s.answerAsk asker sector tag amount).held = s.held ∧ (s.answerAsk asker sector tag amount).clock = s.clock ∧
      (s.answerAsk asker sector tag amount).pending = s.pending ∧ (s.answerAsk asker sector tag amount).pvt = s.pvt ∧
      (s.answerAsk asker sector tag amount).lde = s.lde ∧ (s.answerAsk asker sector tag amount).rsq = s.rsq ∧
      (s.answerAsk asker sector tag amount).plu = s.plu ∧ (s.answerAsk asker sector tag amount).clp = s.clp ∧
      (s.answerAsk asker sector tag amount).cfl = s.cfl ∧
      (s.answerAsk asker sector tag amount).acc.beyondCounts = s.acc.beyondCounts := by
  unfold State.answerAsk
  dsimp only
  repeat' split
  all_goals simp

@[simp] theorem State.leanerBeacon_frame (b : Heard) :
    (s.leanerBeacon b).held = s.held ∧ (s.leanerBeacon b).clock = s.clock ∧ (s.leanerBeacon b).pending = s.pending ∧
      (s.leanerBeacon b).pvt = s.pvt ∧ (s.leanerBeacon b).lde = s.lde ∧ (s.leanerBeacon b).rsq = s.rsq ∧
      (s.leanerBeacon b).plu = s.plu ∧ (s.leanerBeacon b).clp = s.clp ∧ (s.leanerBeacon b).cfl = s.cfl ∧
      (s.leanerBeacon b).acc.beyondCounts = s.acc.beyondCounts := by
  unfold State.leanerBeacon
  repeat' split
  all_goals simp

@[simp] theorem State.leanerLost_frame (leaner : Nat) :
    (s.leanerLost leaner).held = s.held ∧ (s.leanerLost leaner).clock = s.clock ∧
      (s.leanerLost leaner).pending = s.pending ∧ (s.leanerLost leaner).pvt = s.pvt ∧
      (s.leanerLost leaner).lde = s.lde ∧ (s.leanerLost leaner).rsq = s.rsq ∧ (s.leanerLost leaner).plu = s.plu ∧
      (s.leanerLost leaner).clp = s.clp ∧ (s.leanerLost leaner).cfl = s.cfl ∧
      (s.leanerLost leaner).acc.beyondCounts = s.acc.beyondCounts := by
  unfold State.leanerLost
  repeat' split
  all_goals simp

@[simp] theorem State.takeResume_frame (sender : Nat) (tag : BitVec 8) :
    (s.takeResume sender tag).held = s.held ∧ (s.takeResume sender tag).clock = s.clock ∧
      (s.takeResume sender tag).pending = s.pending ∧ (s.takeResume sender tag).pvt = s.pvt ∧
      (s.takeResume sender tag).lde = s.lde ∧ (s.takeResume sender tag).rsq = s.rsq ∧
      (s.takeResume sender tag).plu = s.plu ∧ (s.takeResume sender tag).clp = s.clp ∧
      (s.takeResume sender tag).cfl = s.cfl ∧ (s.takeResume sender tag).acc.beyondCounts = s.acc.beyondCounts := by
  unfold State.takeResume
  repeat' split
  all_goals simp

@[simp] theorem State.bumpFor_frame {α : Type} (c : Counter) (l : List α) :
    (State.bumpFor c l s).held = s.held ∧ (State.bumpFor c l s).clock = s.clock ∧
      (State.bumpFor c l s).pending = s.pending ∧ (State.bumpFor c l s).lif = s.lif ∧
      (State.bumpFor c l s).pvt = s.pvt ∧ (State.bumpFor c l s).lde = s.lde ∧ (State.bumpFor c l s).cvu = s.cvu ∧
      (State.bumpFor c l s).rsq = s.rsq ∧ (State.bumpFor c l s).plu = s.plu ∧ (State.bumpFor c l s).clp = s.clp ∧
      (State.bumpFor c l s).cfl = s.cfl ∧ (State.bumpFor c l s).acc.beyondCounts = s.acc.beyondCounts := by
  induction l generalizing s with
  | nil => simp [State.bumpFor]
  | cons a l ih => simp [State.bumpFor, ih]

@[simp] theorem State.lapsePledges_frame :
    (s.lapsePledges).held = s.held ∧ (s.lapsePledges).clock = s.clock ∧ (s.lapsePledges).pending = s.pending ∧
      (s.lapsePledges).lif = s.lif ∧ (s.lapsePledges).pvt = s.pvt ∧ (s.lapsePledges).lde = s.lde ∧
      (s.lapsePledges).rsq = s.rsq ∧ (s.lapsePledges).plu = s.plu ∧ (s.lapsePledges).clp = s.clp ∧
      (s.lapsePledges).cfl = s.cfl ∧ (s.lapsePledges).acc.beyondCounts = s.acc.beyondCounts := by
  unfold State.lapsePledges
  simp

@[simp] theorem State.overloadTest_frame :
    (s.overloadTest).held = s.held ∧ (s.overloadTest).clock = s.clock ∧ (s.overloadTest).pending = s.pending ∧
      (s.overloadTest).pvt = s.pvt ∧ (s.overloadTest).lde = s.lde ∧ (s.overloadTest).rsq = s.rsq ∧
      (s.overloadTest).plu = s.plu ∧ (s.overloadTest).clp = s.clp ∧ (s.overloadTest).cfl = s.cfl ∧
      (s.overloadTest).acc.beyondCounts = s.acc.beyondCounts := by
  unfold State.overloadTest
  repeat' split
  all_goals simp

@[simp] theorem State.coverStage_frame :
    (s.coverStage).held = s.held ∧ (s.coverStage).clock = s.clock ∧ (s.coverStage).pending = s.pending ∧
      (s.coverStage).pvt = s.pvt ∧ (s.coverStage).lde = s.lde ∧ (s.coverStage).rsq = s.rsq ∧
      (s.coverStage).plu = s.plu ∧ (s.coverStage).clp = s.clp ∧ (s.coverStage).cfl = s.cfl ∧
      (s.coverStage).acc.beyondCounts = s.acc.beyondCounts := by
  unfold State.coverStage
  dsimp only
  repeat' split
  all_goals simp

@[simp] theorem State.recallTimeout_frame :
    (s.recallTimeout).held = s.held ∧ (s.recallTimeout).clock = s.clock ∧ (s.recallTimeout).pending = s.pending ∧
      (s.recallTimeout).pvt = s.pvt ∧ (s.recallTimeout).lde = s.lde ∧ (s.recallTimeout).rsq = s.rsq ∧
      (s.recallTimeout).plu = s.plu ∧ (s.recallTimeout).clp = s.clp ∧ (s.recallTimeout).cfl = s.cfl ∧
      (s.recallTimeout).acc.beyondCounts = s.acc.beyondCounts := by
  unfold State.recallTimeout
  repeat' split
  all_goals simp

@[simp] theorem State.emptyBook_frame :
    (s.emptyBook).held = s.held ∧ (s.emptyBook).clock = s.clock ∧ (s.emptyBook).pending = s.pending ∧
      (s.emptyBook).lif = s.lif ∧ (s.emptyBook).pvt = s.pvt ∧ (s.emptyBook).lde = s.lde ∧ (s.emptyBook).rsq = s.rsq ∧
      (s.emptyBook).plu = s.plu ∧ (s.emptyBook).clp = s.clp ∧ (s.emptyBook).cfl = s.cfl ∧
      (s.emptyBook).acc.beyondCounts = s.acc.beyondCounts := by
  unfold State.emptyBook
  simp

@[simp] theorem State.formSettled_frame :
    (s.formSettled).held = s.held ∧ (s.formSettled).clock = s.clock ∧ (s.formSettled).pending = s.pending ∧
      (s.formSettled).pvt = s.pvt ∧ (s.formSettled).lde = s.lde ∧ (s.formSettled).cvu = s.cvu ∧
      (s.formSettled).clp = s.clp ∧ (s.formSettled).cfl = s.cfl ∧
      (s.formSettled).acc.beyondCounts = s.acc.beyondCounts := by
  unfold State.formSettled
  dsimp only
  repeat' split
  all_goals simp

@[simp] theorem State.enterStandby_frame :
    (s.enterStandby).held = s.held ∧ (s.enterStandby).clock = s.clock ∧ (s.enterStandby).pending = s.pending ∧
      (s.enterStandby).lde = s.lde ∧ (s.enterStandby).cvu = s.cvu ∧ (s.enterStandby).clp = s.clp ∧
      (s.enterStandby).cfl = s.cfl ∧ (s.enterStandby).acc.beyondCounts = s.acc.beyondCounts := by
  unfold State.enterStandby
  simp

@[simp] theorem State.enterDeep_frame :
    (s.enterDeep).held = s.held ∧ (s.enterDeep).clock = s.clock ∧ (s.enterDeep).pending = s.pending ∧
      (s.enterDeep).pvt = s.pvt ∧ (s.enterDeep).lde = s.lde ∧ (s.enterDeep).cvu = s.cvu ∧ (s.enterDeep).clp = s.clp ∧
      (s.enterDeep).cfl = s.cfl ∧ (s.enterDeep).acc.beyondCounts = s.acc.beyondCounts := by
  unfold State.enterDeep
  dsimp only
  repeat' split
  all_goals simp

@[simp] theorem State.startAttempt_frame (cover amount : Nat) :
    (s.startAttempt cover amount).held = s.held ∧ (s.startAttempt cover amount).clock = s.clock ∧
      (s.startAttempt cover amount).pending = s.pending ∧ (s.startAttempt cover amount).pvt = s.pvt ∧
      (s.startAttempt cover amount).cvu = s.cvu ∧ (s.startAttempt cover amount).plu = s.plu ∧
      (s.startAttempt cover amount).clp = s.clp ∧ (s.startAttempt cover amount).cfl = s.cfl ∧
      (s.startAttempt cover amount).acc.beyondCounts = s.acc.beyondCounts := by
  unfold State.startAttempt
  simp

@[simp] theorem State.evaluateEligibility_frame :
    (s.evaluateEligibility).held = s.held ∧ (s.evaluateEligibility).clock = s.clock ∧
      (s.evaluateEligibility).pending = s.pending ∧ (s.evaluateEligibility).pvt = s.pvt ∧
      (s.evaluateEligibility).cvu = s.cvu ∧ (s.evaluateEligibility).clp = s.clp ∧
      (s.evaluateEligibility).cfl = s.cfl ∧ (s.evaluateEligibility).acc.beyondCounts = s.acc.beyondCounts := by
  unfold State.evaluateEligibility
  dsimp only
  repeat' split
  all_goals simp

@[simp] theorem State.startBackoff_frame (length : Micros) :
    (s.startBackoff length).held = s.held ∧ (s.startBackoff length).clock = s.clock ∧
      (s.startBackoff length).pending = s.pending ∧ (s.startBackoff length).lif = s.lif ∧
      (s.startBackoff length).pvt = s.pvt ∧ (s.startBackoff length).lde = s.lde ∧
      (s.startBackoff length).cvu = s.cvu ∧ (s.startBackoff length).plu = s.plu ∧
      (s.startBackoff length).clp = s.clp ∧ (s.startBackoff length).cfl = s.cfl ∧
      (s.startBackoff length).acc = s.acc := by
  unfold State.startBackoff
  simp

@[simp] theorem State.takeMiss_frame :
    (s.takeMiss).held = s.held ∧ (s.takeMiss).clock = s.clock ∧ (s.takeMiss).pending = s.pending ∧
      (s.takeMiss).lif = s.lif ∧ (s.takeMiss).lde = s.lde ∧ (s.takeMiss).cvu = s.cvu ∧ (s.takeMiss).plu = s.plu ∧
      (s.takeMiss).clp = s.clp ∧ (s.takeMiss).cfl = s.cfl ∧ (s.takeMiss).acc.beyondCounts = s.acc.beyondCounts := by
  unfold State.takeMiss
  dsimp only
  repeat' split
  all_goals simp

@[simp] theorem State.abandonAsk_frame :
    (s.abandonAsk).held = s.held ∧ (s.abandonAsk).clock = s.clock ∧ (s.abandonAsk).pending = s.pending ∧
      (s.abandonAsk).lif = s.lif ∧ (s.abandonAsk).pvt = s.pvt ∧ (s.abandonAsk).lde = s.lde ∧
      (s.abandonAsk).cvu = s.cvu ∧ (s.abandonAsk).plu = s.plu ∧ (s.abandonAsk).clp = s.clp ∧
      (s.abandonAsk).cfl = s.cfl ∧ (s.abandonAsk).acc.beyondCounts = s.acc.beyondCounts := by
  unfold State.abandonAsk
  repeat' split
  all_goals simp

@[simp] theorem State.startDrain_frame :
    (s.startDrain).held = s.held ∧ (s.startDrain).clock = s.clock ∧ (s.startDrain).pending = s.pending ∧
      (s.startDrain).pvt = s.pvt ∧ (s.startDrain).lde = s.lde ∧ (s.startDrain).cvu = s.cvu ∧
      (s.startDrain).clp = s.clp ∧ (s.startDrain).cfl = s.cfl ∧
      (s.startDrain).acc.beyondCounts = s.acc.beyondCounts := by
  unfold State.startDrain
  dsimp only
  repeat' split
  all_goals simp

@[simp] theorem State.failDrain_frame :
    (s.failDrain).held = s.held ∧ (s.failDrain).clock = s.clock ∧ (s.failDrain).pending = s.pending ∧
      (s.failDrain).pvt = s.pvt ∧ (s.failDrain).lde = s.lde ∧ (s.failDrain).cvu = s.cvu ∧ (s.failDrain).plu = s.plu ∧
      (s.failDrain).clp = s.clp ∧ (s.failDrain).cfl = s.cfl ∧
      (s.failDrain).acc.beyondCounts = s.acc.beyondCounts := by
  unfold State.failDrain
  simp

@[simp] theorem State.completeWake_frame :
    (s.completeWake).held = s.held ∧ (s.completeWake).clock = s.clock ∧ (s.completeWake).pending = s.pending ∧
      (s.completeWake).pvt = s.pvt ∧ (s.completeWake).lde = s.lde ∧ (s.completeWake).cvu = s.cvu ∧
      (s.completeWake).clp = s.clp ∧ (s.completeWake).cfl = s.cfl ∧
      (s.completeWake).acc.beyondCounts = s.acc.beyondCounts := by
  unfold State.completeWake
  dsimp only
  repeat' split
  all_goals simp

@[simp] theorem State.carrierStep_frame (condition : CarrierCondition) :
    (s.carrierStep condition).held = s.held ∧ (s.carrierStep condition).clock = s.clock ∧
      (s.carrierStep condition).pending = s.pending ∧ (s.carrierStep condition).lde = s.lde ∧
      (s.carrierStep condition).cvu = s.cvu ∧ (s.carrierStep condition).clp = s.clp ∧
      (s.carrierStep condition).cfl = s.cfl ∧ (s.carrierStep condition).acc.beyondCounts = s.acc.beyondCounts := by
  unfold State.carrierStep
  repeat' split
  all_goals simp

@[simp] theorem State.coverBeacon_frame (b : Heard) :
    (s.coverBeacon b).held = s.held ∧ (s.coverBeacon b).clock = s.clock ∧ (s.coverBeacon b).pending = s.pending ∧
      (s.coverBeacon b).pvt = s.pvt ∧ (s.coverBeacon b).lde = s.lde ∧ (s.coverBeacon b).cvu = s.cvu ∧
      (s.coverBeacon b).clp = s.clp ∧ (s.coverBeacon b).cfl = s.cfl ∧
      (s.coverBeacon b).acc.beyondCounts = s.acc.beyondCounts := by
  unfold State.coverBeacon
  dsimp only
  repeat' split
  all_goals simp

@[simp] theorem State.settleWake_frame :
    (s.settleWake).held = s.held ∧ (s.settleWake).clock = s.clock ∧ (s.settleWake).pending = s.pending ∧
      (s.settleWake).pvt = s.pvt ∧ (s.settleWake).lde = s.lde ∧ (s.settleWake).cvu = s.cvu ∧
      (s.settleWake).clp = s.clp ∧ (s.settleWake).cfl = s.cfl ∧
      (s.settleWake).acc.beyondCounts = s.acc.beyondCounts := by
  unfold State.settleWake
  repeat' split
  all_goals simp

@[simp] theorem State.decideDeep_frame :
    (s.decideDeep).held = s.held ∧ (s.decideDeep).clock = s.clock ∧ (s.decideDeep).pending = s.pending ∧
      (s.decideDeep).lif = s.lif ∧ (s.decideDeep).pvt = s.pvt ∧ (s.decideDeep).lde = s.lde ∧
      (s.decideDeep).cvu = s.cvu ∧ (s.decideDeep).plu = s.plu ∧ (s.decideDeep).clp = s.clp ∧
      (s.decideDeep).cfl = s.cfl ∧ (s.decideDeep).acc.beyondCounts = s.acc.beyondCounts := by
  unfold State.decideDeep
  repeat' split
  all_goals simp

@[simp] theorem State.countSettle_frame :
    (s.countSettle).held = s.held ∧ (s.countSettle).clock = s.clock ∧ (s.countSettle).pending = s.pending ∧
      (s.countSettle).pvt = s.pvt ∧ (s.countSettle).lde = s.lde ∧ (s.countSettle).cvu = s.cvu ∧
      (s.countSettle).clp = s.clp ∧ (s.countSettle).cfl = s.cfl ∧
      (s.countSettle).acc.beyondCounts = s.acc.beyondCounts := by
  unfold State.countSettle
  repeat' split
  all_goals simp

@[simp] theorem State.standbyBeaconWork_frame :
    (s.standbyBeaconWork).held = s.held ∧ (s.standbyBeaconWork).clock = s.clock ∧
      (s.standbyBeaconWork).pending = s.pending ∧ (s.standbyBeaconWork).pvt = s.pvt ∧
      (s.standbyBeaconWork).lde = s.lde ∧ (s.standbyBeaconWork).cvu = s.cvu ∧ (s.standbyBeaconWork).clp = s.clp ∧
      (s.standbyBeaconWork).cfl = s.cfl ∧ (s.standbyBeaconWork).acc.beyondCounts = s.acc.beyondCounts := by
  unfold State.standbyBeaconWork
  simp

@[simp] theorem State.placeBeacon_frame :
    (s.placeBeacon).held = s.held ∧ (s.placeBeacon).clock = s.clock ∧ (s.placeBeacon).pending = s.pending ∧
      (s.placeBeacon).pvt = s.pvt ∧ (s.placeBeacon).lde = s.lde ∧ (s.placeBeacon).cvu = s.cvu ∧
      (s.placeBeacon).plu = s.plu ∧ (s.placeBeacon).clp = s.clp ∧ (s.placeBeacon).cfl = s.cfl ∧
      (s.placeBeacon).acc.beyondCounts = s.acc.beyondCounts := by
  unfold State.placeBeacon
  dsimp only
  repeat' split
  all_goals simp

@[simp] theorem State.reportRemoval_frame (station : Nat) :
    (s.reportRemoval station).held = s.held ∧ (s.reportRemoval station).clock = s.clock ∧
      (s.reportRemoval station).pending = s.pending ∧ (s.reportRemoval station).pvt = s.pvt ∧
      (s.reportRemoval station).lde = s.lde ∧ (s.reportRemoval station).clp = s.clp ∧
      (s.reportRemoval station).cfl = s.cfl ∧ (s.reportRemoval station).acc.beyondCounts = s.acc.beyondCounts := by
  unfold State.reportRemoval
  simp only [doWhen]
  repeat' split
  all_goals simp

@[simp] theorem State.reportRemovals_frame (l : List Nat) :
    (State.reportRemovals l s).held = s.held ∧ (State.reportRemovals l s).clock = s.clock ∧
      (State.reportRemovals l s).pending = s.pending ∧ (State.reportRemovals l s).pvt = s.pvt ∧
      (State.reportRemovals l s).lde = s.lde ∧ (State.reportRemovals l s).clp = s.clp ∧
      (State.reportRemovals l s).cfl = s.cfl ∧ (State.reportRemovals l s).acc.beyondCounts = s.acc.beyondCounts := by
  induction l generalizing s with
  | nil => simp [State.reportRemovals]
  | cons a l ih => simp [State.reportRemovals, ih]

@[simp] theorem State.ageView_frame :
    (s.ageView).held = s.held ∧ (s.ageView).clock = s.clock ∧ (s.ageView).pending = s.pending ∧
      (s.ageView).lde = s.lde ∧ (s.ageView).clp = s.clp ∧ (s.ageView).cfl = s.cfl ∧
      (s.ageView).acc.beyondCounts = s.acc.beyondCounts := by
  unfold State.ageView
  simp

@[simp] theorem State.handOn_frame (b : Heard) :
    (s.handOn b).held = s.held ∧ (s.handOn b).clock = s.clock ∧ (s.handOn b).pending = s.pending ∧
      (s.handOn b).pvt = s.pvt ∧ (s.handOn b).lde = s.lde ∧ (s.handOn b).clp = s.clp ∧ (s.handOn b).cfl = s.cfl ∧
      (s.handOn b).acc.beyondCounts = s.acc.beyondCounts := by
  unfold State.handOn
  simp

@[simp] theorem State.stored_frame (v : PeerView) (b : Heard) :
    (s.stored v b).held = s.held ∧ (s.stored v b).clock = s.clock ∧ (s.stored v b).pending = s.pending ∧
      (s.stored v b).lde = s.lde ∧ (s.stored v b).clp = s.clp ∧ (s.stored v b).cfl = s.cfl ∧
      (s.stored v b).acc.beyondCounts = s.acc.beyondCounts := by
  unfold State.stored
  simp

@[simp] theorem State.storeBeacon_frame (b : Heard) :
    (s.storeBeacon b).held = s.held ∧ (s.storeBeacon b).clock = s.clock ∧ (s.storeBeacon b).pending = s.pending ∧
      (s.storeBeacon b).lde = s.lde ∧ (s.storeBeacon b).clp = s.clp ∧ (s.storeBeacon b).cfl = s.cfl ∧
      (s.storeBeacon b).acc.beyondCounts = s.acc.beyondCounts := by
  unfold State.storeBeacon
  repeat' split
  all_goals simp

@[simp] theorem State.otherSector_frame (sender : Nat) :
    (s.otherSector sender).held = s.held ∧ (s.otherSector sender).clock = s.clock ∧
      (s.otherSector sender).pending = s.pending ∧ (s.otherSector sender).lde = s.lde ∧
      (s.otherSector sender).clp = s.clp ∧ (s.otherSector sender).cfl = s.cfl ∧
      (s.otherSector sender).acc.beyondCounts = s.acc.beyondCounts := by
  unfold State.otherSector
  repeat' split
  all_goals simp

@[simp] theorem State.hearBeacon_frame (sender : BitVec 6) (sector : BitVec 3) (b : BeaconFields) :
    (s.hearBeacon sender sector b).held = s.held ∧ (s.hearBeacon sender sector b).clock = s.clock ∧
      (s.hearBeacon sender sector b).pending = s.pending ∧ (s.hearBeacon sender sector b).lde = s.lde ∧
      (s.hearBeacon sender sector b).clp = s.clp ∧ (s.hearBeacon sender sector b).cfl = s.cfl ∧
      (s.hearBeacon sender sector b).acc.beyondCounts = s.acc.beyondCounts := by
  unfold State.hearBeacon
  repeat' split
  all_goals simp

@[simp] theorem State.raiseClash_frame :
    (s.raiseClash).held = s.held ∧ (s.raiseClash).clock = s.clock ∧ (s.raiseClash).pending = s.pending ∧
      (s.raiseClash).pvt = s.pvt ∧ (s.raiseClash).lde = s.lde ∧ (s.raiseClash).clp = s.clp ∧
      (s.raiseClash).cfl = s.cfl ∧ (s.raiseClash).acc.beyondCounts = s.acc.beyondCounts := by
  unfold State.raiseClash
  repeat' split
  all_goals simp

@[simp] theorem State.takeClash_frame :
    (s.takeClash).held = s.held ∧ (s.takeClash).clock = s.clock ∧ (s.takeClash).pending = s.pending ∧
      (s.takeClash).pvt = s.pvt ∧ (s.takeClash).lde = s.lde ∧ (s.takeClash).clp = s.clp ∧ (s.takeClash).cfl = s.cfl ∧
      (s.takeClash).acc.beyondCounts = s.acc.beyondCounts := by
  unfold State.takeClash
  simp

@[simp] theorem State.answerLateGrant_frame (sender : Nat) (tag : BitVec 8) :
    (s.answerLateGrant sender tag).held = s.held ∧ (s.answerLateGrant sender tag).clock = s.clock ∧
      (s.answerLateGrant sender tag).pending = s.pending ∧ (s.answerLateGrant sender tag).pvt = s.pvt ∧
      (s.answerLateGrant sender tag).lde = s.lde ∧ (s.answerLateGrant sender tag).cvu = s.cvu ∧
      (s.answerLateGrant sender tag).rsq = s.rsq ∧ (s.answerLateGrant sender tag).plu = s.plu ∧
      (s.answerLateGrant sender tag).clp = s.clp ∧ (s.answerLateGrant sender tag).cfl = s.cfl ∧
      (s.answerLateGrant sender tag).acc.beyondCounts = s.acc.beyondCounts := by
  unfold State.answerLateGrant
  simp

@[simp] theorem State.takeGrant_frame (sender : BitVec 6) (tag : BitVec 8) :
    (s.takeGrant sender tag).held = s.held ∧ (s.takeGrant sender tag).clock = s.clock ∧
      (s.takeGrant sender tag).pending = s.pending ∧ (s.takeGrant sender tag).pvt = s.pvt ∧
      (s.takeGrant sender tag).lde = s.lde ∧ (s.takeGrant sender tag).cvu = s.cvu ∧
      (s.takeGrant sender tag).clp = s.clp ∧ (s.takeGrant sender tag).cfl = s.cfl ∧
      (s.takeGrant sender tag).acc.beyondCounts = s.acc.beyondCounts := by
  unfold State.takeGrant
  repeat' split
  all_goals simp

@[simp] theorem State.countDeny_frame (reason : Byte) :
    (s.countDeny reason).held = s.held ∧ (s.countDeny reason).clock = s.clock ∧
      (s.countDeny reason).pending = s.pending ∧ (s.countDeny reason).lif = s.lif ∧
      (s.countDeny reason).pvt = s.pvt ∧ (s.countDeny reason).lde = s.lde ∧ (s.countDeny reason).cvu = s.cvu ∧
      (s.countDeny reason).rsq = s.rsq ∧ (s.countDeny reason).plu = s.plu ∧ (s.countDeny reason).clp = s.clp ∧
      (s.countDeny reason).cfl = s.cfl ∧ (s.countDeny reason).acc.beyondCounts = s.acc.beyondCounts := by
  unfold State.countDeny
  repeat' split
  all_goals simp

@[simp] theorem State.takeDeny_frame (sender : Nat) (tag : BitVec 8) (reason : Byte) :
    (s.takeDeny sender tag reason).held = s.held ∧ (s.takeDeny sender tag reason).clock = s.clock ∧
      (s.takeDeny sender tag reason).pending = s.pending ∧ (s.takeDeny sender tag reason).lif = s.lif ∧
      (s.takeDeny sender tag reason).lde = s.lde ∧ (s.takeDeny sender tag reason).cvu = s.cvu ∧
      (s.takeDeny sender tag reason).plu = s.plu ∧ (s.takeDeny sender tag reason).clp = s.clp ∧
      (s.takeDeny sender tag reason).cfl = s.cfl ∧
      (s.takeDeny sender tag reason).acc.beyondCounts = s.acc.beyondCounts := by
  unfold State.takeDeny
  repeat' split
  all_goals simp

@[simp] theorem State.answerRecall_frame (sender : Nat) (tag : BitVec 8) :
    (s.answerRecall sender tag).held = s.held ∧ (s.answerRecall sender tag).clock = s.clock ∧
      (s.answerRecall sender tag).pending = s.pending ∧ (s.answerRecall sender tag).pvt = s.pvt ∧
      (s.answerRecall sender tag).lde = s.lde ∧ (s.answerRecall sender tag).cvu = s.cvu ∧
      (s.answerRecall sender tag).rsq = s.rsq ∧ (s.answerRecall sender tag).plu = s.plu ∧
      (s.answerRecall sender tag).clp = s.clp ∧ (s.answerRecall sender tag).cfl = s.cfl ∧
      (s.answerRecall sender tag).acc.beyondCounts = s.acc.beyondCounts := by
  unfold State.answerRecall
  simp

@[simp] theorem State.takeRecall_frame (sender : BitVec 6) (tag : BitVec 8) :
    (s.takeRecall sender tag).held = s.held ∧ (s.takeRecall sender tag).clock = s.clock ∧
      (s.takeRecall sender tag).pending = s.pending ∧ (s.takeRecall sender tag).pvt = s.pvt ∧
      (s.takeRecall sender tag).lde = s.lde ∧ (s.takeRecall sender tag).cvu = s.cvu ∧
      (s.takeRecall sender tag).clp = s.clp ∧ (s.takeRecall sender tag).cfl = s.cfl ∧
      (s.takeRecall sender tag).acc.beyondCounts = s.acc.beyondCounts := by
  unfold State.takeRecall
  dsimp only
  repeat' split
  all_goals simp

@[simp] theorem State.takeAsk_frame (sender : BitVec 6) (sector : BitVec 3) (tag : BitVec 8) (amount : BitVec 16) :
    (s.takeAsk sender sector tag amount).held = s.held ∧ (s.takeAsk sender sector tag amount).clock = s.clock ∧
      (s.takeAsk sender sector tag amount).pending = s.pending ∧ (s.takeAsk sender sector tag amount).pvt = s.pvt ∧
      (s.takeAsk sender sector tag amount).lde = s.lde ∧ (s.takeAsk sender sector tag amount).rsq = s.rsq ∧
      (s.takeAsk sender sector tag amount).plu = s.plu ∧ (s.takeAsk sender sector tag amount).clp = s.clp ∧
      (s.takeAsk sender sector tag amount).cfl = s.cfl ∧
      (s.takeAsk sender sector tag amount).acc.beyondCounts = s.acc.beyondCounts := by
  unfold State.takeAsk
  repeat' split
  all_goals simp

@[simp] theorem State.openWindow_frame (minutes : Nat) :
    (s.openWindow minutes).held = s.held ∧ (s.openWindow minutes).clock = s.clock ∧
      (s.openWindow minutes).pending = s.pending ∧ (s.openWindow minutes).lif = s.lif ∧
      (s.openWindow minutes).lde = s.lde ∧ (s.openWindow minutes).cvu = s.cvu ∧ (s.openWindow minutes).rsq = s.rsq ∧
      (s.openWindow minutes).clp = s.clp ∧ (s.openWindow minutes).cfl = s.cfl ∧
      (s.openWindow minutes).acc.beyondCounts = s.acc.beyondCounts := by
  unfold State.openWindow
  dsimp only
  repeat' split
  all_goals simp

@[simp] theorem State.closeWindow_frame (counted : Counter) :
    (s.closeWindow counted).held = s.held ∧ (s.closeWindow counted).clock = s.clock ∧
      (s.closeWindow counted).pending = s.pending ∧ (s.closeWindow counted).pvt = s.pvt ∧
      (s.closeWindow counted).lde = s.lde ∧ (s.closeWindow counted).clp = s.clp ∧
      (s.closeWindow counted).cfl = s.cfl ∧ (s.closeWindow counted).acc.beyondCounts = s.acc.beyondCounts := by
  unfold State.closeWindow
  simp

@[simp] theorem State.takeClose_frame :
    (s.takeClose).held = s.held ∧ (s.takeClose).clock = s.clock ∧ (s.takeClose).pending = s.pending ∧
      (s.takeClose).pvt = s.pvt ∧ (s.takeClose).lde = s.lde ∧ (s.takeClose).clp = s.clp ∧ (s.takeClose).cfl = s.cfl ∧
      (s.takeClose).acc.beyondCounts = s.acc.beyondCounts := by
  unfold State.takeClose
  simp only [doWhen]
  repeat' split
  all_goals simp

@[simp] theorem State.changeProfile_frame (number : BitVec 2) :
    (s.changeProfile number).held = s.held ∧ (s.changeProfile number).clock = s.clock ∧
      (s.changeProfile number).pending = s.pending ∧ (s.changeProfile number).pvt = s.pvt ∧
      (s.changeProfile number).cvu = s.cvu ∧ (s.changeProfile number).clp = s.clp ∧
      (s.changeProfile number).cfl = s.cfl ∧ (s.changeProfile number).acc.beyondCounts = s.acc.beyondCounts := by
  unfold State.changeProfile
  simp

@[simp] theorem State.takeProfile_frame (number : Byte) :
    (s.takeProfile number).held = s.held ∧ (s.takeProfile number).clock = s.clock ∧
      (s.takeProfile number).pending = s.pending ∧ (s.takeProfile number).pvt = s.pvt ∧
      (s.takeProfile number).cvu = s.cvu ∧ (s.takeProfile number).clp = s.clp ∧ (s.takeProfile number).cfl = s.cfl ∧
      (s.takeProfile number).acc.beyondCounts = s.acc.beyondCounts := by
  unfold State.takeProfile
  dsimp only
  repeat' split
  all_goals simp

@[simp] theorem State.takeFlags_frame (actions : FlagActions) :
    (s.takeFlags actions).held = s.held ∧ (s.takeFlags actions).clock = s.clock ∧
      (s.takeFlags actions).pending = s.pending ∧ (s.takeFlags actions).pvt = s.pvt ∧
      (s.takeFlags actions).lde = s.lde ∧ (s.takeFlags actions).cvu = s.cvu ∧ (s.takeFlags actions).clp = s.clp ∧
      (s.takeFlags actions).cfl = s.cfl ∧ (s.takeFlags actions).acc.beyondCounts = s.acc.beyondCounts := by
  unfold State.takeFlags
  simp

@[simp] theorem State.queueReply_frame (r : Reply) :
    (s.queueReply r).held = s.held ∧ (s.queueReply r).clock = s.clock ∧ (s.queueReply r).pending = s.pending ∧
      (s.queueReply r).lif = s.lif ∧ (s.queueReply r).pvt = s.pvt ∧ (s.queueReply r).lde = s.lde ∧
      (s.queueReply r).cvu = s.cvu ∧ (s.queueReply r).rsq = s.rsq ∧ (s.queueReply r).plu = s.plu ∧
      (s.queueReply r).cfl = s.cfl ∧ (s.queueReply r).acc.beyondCounts = s.acc.beyondCounts := by
  unfold State.queueReply
  repeat' split
  all_goals simp

@[simp] theorem State.replyToSample_frame :
    (s.replyToSample).held = s.held ∧ (s.replyToSample).clock = s.clock ∧ (s.replyToSample).pending = s.pending ∧
      (s.replyToSample).lif = s.lif ∧ (s.replyToSample).pvt = s.pvt ∧ (s.replyToSample).lde = s.lde ∧
      (s.replyToSample).cvu = s.cvu ∧ (s.replyToSample).rsq = s.rsq ∧ (s.replyToSample).plu = s.plu ∧
      (s.replyToSample).cfl = s.cfl ∧ (s.replyToSample).acc.beyondCounts = s.acc.beyondCounts := by
  unfold State.replyToSample
  simp

@[simp] theorem State.portStage_frame (condition : CarrierCondition) :
    (s.portStage condition).held = s.held ∧ (s.portStage condition).clock = s.clock ∧
      (s.portStage condition).pending = s.pending ∧ (s.portStage condition).pvt = s.pvt ∧
      (s.portStage condition).cvu = s.cvu ∧ (s.portStage condition).cfl = s.cfl ∧
      (s.portStage condition).acc.beyondCounts = s.acc.beyondCounts := by
  unfold State.portStage
  dsimp only
  repeat' split
  all_goals simp

@[simp] theorem State.eligibilityStage_frame (arrivedAwake : Bool) :
    (s.eligibilityStage arrivedAwake).held = s.held ∧ (s.eligibilityStage arrivedAwake).clock = s.clock ∧
      (s.eligibilityStage arrivedAwake).pending = s.pending ∧ (s.eligibilityStage arrivedAwake).pvt = s.pvt ∧
      (s.eligibilityStage arrivedAwake).cvu = s.cvu ∧ (s.eligibilityStage arrivedAwake).clp = s.clp ∧
      (s.eligibilityStage arrivedAwake).cfl = s.cfl ∧
      (s.eligibilityStage arrivedAwake).acc.beyondCounts = s.acc.beyondCounts := by
  unfold State.eligibilityStage
  repeat' split
  all_goals simp

@[simp] theorem State.sampleStages_frame (u : BitVec 10) (n : BitVec 11) (condition : CarrierCondition) (arrivedAwake : Bool) :
    (s.sampleStages u n condition arrivedAwake).held = s.held ∧
      (s.sampleStages u n condition arrivedAwake).clock = s.clock ∧
      (s.sampleStages u n condition arrivedAwake).pending = s.pending ∧
      (s.sampleStages u n condition arrivedAwake).clp = s.clp ∧
      (s.sampleStages u n condition arrivedAwake).cfl = s.cfl ∧
      (s.sampleStages u n condition arrivedAwake).acc.beyondCounts = s.acc.beyondCounts := by
  unfold State.sampleStages
  repeat' split
  all_goals simp

@[simp] theorem State.loseLink_frame :
    (s.loseLink).held = s.held ∧ (s.loseLink).clock = s.clock ∧ (s.loseLink).pending = s.pending ∧
      (s.loseLink).pvt = s.pvt ∧ (s.loseLink).clp = s.clp ∧ (s.loseLink).cfl = s.cfl ∧
      (s.loseLink).acc.beyondCounts = s.acc.beyondCounts := by
  unfold State.loseLink
  dsimp only
  repeat' split
  all_goals simp

@[simp] theorem State.ignoreFrame_frame (f : Frame) :
    (s.ignoreFrame f).held = s.held ∧ (s.ignoreFrame f).clock = s.clock ∧ (s.ignoreFrame f).pending = s.pending ∧
      (s.ignoreFrame f).pvt = s.pvt ∧ (s.ignoreFrame f).lde = s.lde ∧ (s.ignoreFrame f).clp = s.clp ∧
      (s.ignoreFrame f).cfl = s.cfl ∧ (s.ignoreFrame f).acc.beyondCounts = s.acc.beyondCounts := by
  unfold State.ignoreFrame
  repeat' split
  all_goals simp

@[simp] theorem State.nextBeacon_frame :
    (s.nextBeacon).held = s.held ∧ (s.nextBeacon).clock = s.clock ∧ (s.nextBeacon).pending = s.pending ∧
      (s.nextBeacon).pvt = s.pvt ∧ (s.nextBeacon).lde = s.lde ∧ (s.nextBeacon).cvu = s.cvu ∧
      (s.nextBeacon).rsq = s.rsq ∧ (s.nextBeacon).plu = s.plu ∧ (s.nextBeacon).clp = s.clp ∧
      (s.nextBeacon).cfl = s.cfl ∧ (s.nextBeacon).acc = s.acc := by
  unfold State.nextBeacon
  simp

@[simp] theorem State.beaconTimeWork_frame :
    (s.beaconTimeWork).held = s.held ∧ (s.beaconTimeWork).clock = s.clock ∧ (s.beaconTimeWork).pending = s.pending ∧
      (s.beaconTimeWork).lde = s.lde ∧ (s.beaconTimeWork).clp = s.clp ∧ (s.beaconTimeWork).cfl = s.cfl ∧
      (s.beaconTimeWork).acc.beyondCounts = s.acc.beyondCounts := by
  unfold State.beaconTimeWork
  simp

end Sys2Proof.Machine
end

