-- ==== Sys2Proof/Laws/Fields.lean ====
section
/-! SUPPORT. Inside the blocks an operation changes: the fields it leaves alone, one theorem for each operation. -/

namespace Sys2Proof.Machine

variable (s : State)

/-- A changed hold term moves only whether the rest clock runs (R110). -/
@[simp] theorem RestClock.holdReport_measured (k : RestClock) (hold : Bool) :
    (k.holdReport hold).measured = k.measured := by
  unfold RestClock.holdReport
  split <;> rfl

@[simp] theorem PeerView.miss_others (v : PeerView) (station : Nat) :
    (v.miss station).pointer = v.pointer ∧ (v.miss station).viewFull = v.viewFull ∧
      (v.miss station).isolated = v.isolated := ⟨rfl, rfl, rfl⟩

@[simp] theorem PeerView.forgive_others (v : PeerView) :
    v.forgive.pointer = v.pointer ∧ v.forgive.viewFull = v.viewFull ∧ v.forgive.isolated = v.isolated := ⟨rfl, rfl, rfl⟩

@[simp] theorem PeerView.clearSeen_others (v : PeerView) :
    v.clearSeen.pointer = v.pointer ∧ v.clearSeen.viewFull = v.viewFull ∧ v.clearSeen.isolated = v.isolated :=
  ⟨rfl, rfl, rfl⟩

@[simp] theorem State.enqueue_fields (n : Notice) :
    (s.enqueue n).lif.receiver = s.lif.receiver ∧ (s.enqueue n).lif.beaconTimer = s.lif.beaconTimer ∧
      (s.enqueue n).lif.clash = s.lif.clash := by
  unfold State.enqueue
  repeat' split
  all_goals simp

@[simp] theorem State.offer_fields (n : Notice) :
    (s.offer n).lif.receiver = s.lif.receiver ∧ (s.offer n).lif.beaconTimer = s.lif.beaconTimer ∧
      (s.offer n).lif.clash = s.lif.clash := by
  unfold State.offer
  repeat' split
  all_goals simp

@[simp] theorem State.formValues_fields :
    (s.formValues).plu.windowOpen = s.plu.windowOpen ∧ (s.formValues).plu.windowTimer = s.plu.windowTimer ∧
      (s.formValues).plu.activeProfile = s.plu.activeProfile ∧ (s.formValues).plu.flags = s.plu.flags ∧
      (s.formValues).rsq.phase = s.rsq.phase ∧ (s.formValues).rsq.cover = s.rsq.cover ∧
      (s.formValues).rsq.tag = s.rsq.tag ∧ (s.formValues).rsq.askWait = s.rsq.askWait ∧
      (s.formValues).rsq.backoff = s.rsq.backoff ∧ (s.formValues).rsq.drainTimer = s.rsq.drainTimer ∧
      (s.formValues).rsq.drainStep = s.rsq.drainStep ∧ (s.formValues).rsq.darkGiven = s.rsq.darkGiven ∧
      (s.formValues).rsq.wakeCause = s.rsq.wakeCause ∧ (s.formValues).rsq.omissions = s.rsq.omissions ∧
      (s.formValues).rsq.restGuard = s.rsq.restGuard ∧ (s.formValues).rsq.recentRecall = s.rsq.recentRecall ∧
      (s.formValues).rsq.noCover = s.rsq.noCover ∧ (s.formValues).rsq.restClock.measured = s.rsq.restClock.measured ∧
      (s.formValues).rsq.settleCount = s.rsq.settleCount ∧ (s.formValues).rsq.settled = s.rsq.settled ∧
      (s.formValues).rsq.unsettled = s.rsq.unsettled ∧ (s.formValues).rsq.doze = s.rsq.doze := by
  unfold State.formValues
  dsimp only
  repeat' split
  all_goals simp

@[simp] theorem State.resumeToCover_fields :
    (s.resumeToCover).lif.receiver = s.lif.receiver ∧ (s.resumeToCover).lif.beaconTimer = s.lif.beaconTimer ∧
      (s.resumeToCover).lif.clash = s.lif.clash := by
  unfold State.resumeToCover
  repeat' split
  all_goals simp

@[simp] theorem State.startRestGuard_fields :
    (s.startRestGuard).plu.windowOpen = s.plu.windowOpen ∧ (s.startRestGuard).plu.windowTimer = s.plu.windowTimer ∧
      (s.startRestGuard).plu.activeProfile = s.plu.activeProfile ∧ (s.startRestGuard).plu.flags = s.plu.flags ∧
      (s.startRestGuard).rsq.phase = s.rsq.phase ∧ (s.startRestGuard).rsq.cover = s.rsq.cover ∧
      (s.startRestGuard).rsq.tag = s.rsq.tag ∧ (s.startRestGuard).rsq.askWait = s.rsq.askWait ∧
      (s.startRestGuard).rsq.backoff = s.rsq.backoff ∧ (s.startRestGuard).rsq.drainTimer = s.rsq.drainTimer ∧
      (s.startRestGuard).rsq.drainStep = s.rsq.drainStep ∧ (s.startRestGuard).rsq.darkGiven = s.rsq.darkGiven ∧
      (s.startRestGuard).rsq.wakeCause = s.rsq.wakeCause ∧ (s.startRestGuard).rsq.omissions = s.rsq.omissions ∧
      (s.startRestGuard).rsq.noCover = s.rsq.noCover ∧
      (s.startRestGuard).rsq.restClock.measured = s.rsq.restClock.measured ∧
      (s.startRestGuard).rsq.settleCount = s.rsq.settleCount ∧ (s.startRestGuard).rsq.settled = s.rsq.settled ∧
      (s.startRestGuard).rsq.unsettled = s.rsq.unsettled ∧ (s.startRestGuard).rsq.doze = s.rsq.doze := by
  unfold State.startRestGuard
  dsimp only
  repeat' split
  all_goals simp

@[simp] theorem State.abortDrain_fields (cause : WakeCause) :
    (s.abortDrain cause).lif.receiver = s.lif.receiver ∧ (s.abortDrain cause).lif.beaconTimer = s.lif.beaconTimer ∧
      (s.abortDrain cause).lif.clash = s.lif.clash ∧ (s.abortDrain cause).plu.windowOpen = s.plu.windowOpen ∧
      (s.abortDrain cause).plu.windowTimer = s.plu.windowTimer ∧
      (s.abortDrain cause).plu.activeProfile = s.plu.activeProfile ∧ (s.abortDrain cause).plu.flags = s.plu.flags ∧
      (s.abortDrain cause).rsq.tag = s.rsq.tag ∧ (s.abortDrain cause).rsq.askWait = s.rsq.askWait ∧
      (s.abortDrain cause).rsq.backoff = s.rsq.backoff ∧ (s.abortDrain cause).rsq.drainStep = s.rsq.drainStep ∧
      (s.abortDrain cause).rsq.darkGiven = s.rsq.darkGiven ∧ (s.abortDrain cause).rsq.omissions = s.rsq.omissions ∧
      (s.abortDrain cause).rsq.noCover = s.rsq.noCover ∧ (s.abortDrain cause).rsq.settleCount = s.rsq.settleCount ∧
      (s.abortDrain cause).rsq.doze = s.rsq.doze ∧
      (s.abortDrain cause).rsq.restClock.measured = s.rsq.restClock.measured ∧
      (s.abortDrain cause).rsq.settled = s.rsq.settled ∧ (s.abortDrain cause).rsq.unsettled = s.rsq.unsettled := by
  unfold State.abortDrain
  dsimp only
  repeat' split
  all_goals simp

@[simp] theorem State.leaveRest_fields (cause : WakeCause) :
    (s.leaveRest cause).plu.windowOpen = s.plu.windowOpen ∧ (s.leaveRest cause).plu.windowTimer = s.plu.windowTimer ∧
      (s.leaveRest cause).plu.activeProfile = s.plu.activeProfile ∧ (s.leaveRest cause).plu.flags = s.plu.flags ∧
      (s.leaveRest cause).rsq.tag = s.rsq.tag ∧ (s.leaveRest cause).rsq.askWait = s.rsq.askWait ∧
      (s.leaveRest cause).rsq.backoff = s.rsq.backoff ∧ (s.leaveRest cause).rsq.drainStep = s.rsq.drainStep ∧
      (s.leaveRest cause).rsq.darkGiven = s.rsq.darkGiven ∧ (s.leaveRest cause).rsq.omissions = s.rsq.omissions ∧
      (s.leaveRest cause).rsq.noCover = s.rsq.noCover ∧ (s.leaveRest cause).rsq.settleCount = s.rsq.settleCount ∧
      (s.leaveRest cause).rsq.doze = s.rsq.doze ∧
      (s.leaveRest cause).rsq.restClock.measured = s.rsq.restClock.measured ∧
      (s.leaveRest cause).rsq.restGuard = s.rsq.restGuard ∧
      (s.leaveRest cause).rsq.recentRecall = s.rsq.recentRecall ∧ (s.leaveRest cause).rsq.cover = s.rsq.cover ∧
      (s.leaveRest cause).rsq.drainTimer = s.rsq.drainTimer := by
  unfold State.leaveRest
  dsimp only
  repeat' split
  all_goals simp

@[simp] theorem State.wake_fields (cause : WakeCause) :
    (s.wake cause).lif.receiver = s.lif.receiver ∧ (s.wake cause).lif.beaconTimer = s.lif.beaconTimer ∧
      (s.wake cause).lif.clash = s.lif.clash ∧ (s.wake cause).plu.windowOpen = s.plu.windowOpen ∧
      (s.wake cause).plu.windowTimer = s.plu.windowTimer ∧ (s.wake cause).plu.activeProfile = s.plu.activeProfile ∧
      (s.wake cause).plu.flags = s.plu.flags ∧ (s.wake cause).rsq.tag = s.rsq.tag ∧
      (s.wake cause).rsq.askWait = s.rsq.askWait ∧ (s.wake cause).rsq.backoff = s.rsq.backoff ∧
      (s.wake cause).rsq.drainStep = s.rsq.drainStep ∧ (s.wake cause).rsq.darkGiven = s.rsq.darkGiven ∧
      (s.wake cause).rsq.omissions = s.rsq.omissions ∧ (s.wake cause).rsq.noCover = s.rsq.noCover ∧
      (s.wake cause).rsq.settleCount = s.rsq.settleCount ∧ (s.wake cause).rsq.doze = s.rsq.doze ∧
      (s.wake cause).rsq.restClock.measured = s.rsq.restClock.measured := by
  unfold State.wake
  repeat' split
  all_goals simp

/-- A wake of a cause other than RECALL leaves RECENT_RECALL and the rest guard (R98, R99). -/
@[simp] theorem State.wake_guard {cause : WakeCause} (h : cause ≠ .recall) :
    (s.wake cause).rsq.restGuard = s.rsq.restGuard ∧ (s.wake cause).rsq.recentRecall = s.rsq.recentRecall := by
  unfold State.wake
  split
  · simp [State.abortDrain, h]
  all_goals simp

@[simp] theorem State.formTerms_fields :
    (s.formTerms).lif.receiver = s.lif.receiver ∧ (s.formTerms).lif.beaconTimer = s.lif.beaconTimer ∧
      (s.formTerms).lif.clash = s.lif.clash ∧ (s.formTerms).plu.windowOpen = s.plu.windowOpen ∧
      (s.formTerms).plu.windowTimer = s.plu.windowTimer ∧ (s.formTerms).plu.activeProfile = s.plu.activeProfile ∧
      (s.formTerms).plu.flags = s.plu.flags ∧ (s.formTerms).rsq.tag = s.rsq.tag ∧
      (s.formTerms).rsq.askWait = s.rsq.askWait ∧ (s.formTerms).rsq.backoff = s.rsq.backoff ∧
      (s.formTerms).rsq.drainStep = s.rsq.drainStep ∧ (s.formTerms).rsq.darkGiven = s.rsq.darkGiven ∧
      (s.formTerms).rsq.omissions = s.rsq.omissions ∧ (s.formTerms).rsq.noCover = s.rsq.noCover ∧
      (s.formTerms).rsq.settleCount = s.rsq.settleCount ∧ (s.formTerms).rsq.doze = s.rsq.doze ∧
      (s.formTerms).rsq.restClock.measured = s.rsq.restClock.measured ∧
      (s.formTerms).rsq.restGuard = s.rsq.restGuard ∧ (s.formTerms).rsq.recentRecall = s.rsq.recentRecall := by
  unfold State.formTerms
  simp only [doWhen]
  repeat' split
  all_goals simp

@[simp] theorem State.rouseAtEntry_fields :
    (s.rouseAtEntry).lif.receiver = s.lif.receiver ∧ (s.rouseAtEntry).lif.beaconTimer = s.lif.beaconTimer ∧
      (s.rouseAtEntry).lif.clash = s.lif.clash ∧ (s.rouseAtEntry).plu.windowOpen = s.plu.windowOpen ∧
      (s.rouseAtEntry).plu.windowTimer = s.plu.windowTimer ∧
      (s.rouseAtEntry).plu.activeProfile = s.plu.activeProfile ∧ (s.rouseAtEntry).plu.flags = s.plu.flags ∧
      (s.rouseAtEntry).rsq.tag = s.rsq.tag ∧ (s.rouseAtEntry).rsq.askWait = s.rsq.askWait ∧
      (s.rouseAtEntry).rsq.backoff = s.rsq.backoff ∧ (s.rouseAtEntry).rsq.drainStep = s.rsq.drainStep ∧
      (s.rouseAtEntry).rsq.darkGiven = s.rsq.darkGiven ∧ (s.rouseAtEntry).rsq.omissions = s.rsq.omissions ∧
      (s.rouseAtEntry).rsq.noCover = s.rsq.noCover ∧ (s.rouseAtEntry).rsq.settleCount = s.rsq.settleCount ∧
      (s.rouseAtEntry).rsq.doze = s.rsq.doze ∧ (s.rouseAtEntry).rsq.restClock.measured = s.rsq.restClock.measured ∧
      (s.rouseAtEntry).rsq.restGuard = s.rsq.restGuard ∧ (s.rouseAtEntry).rsq.recentRecall = s.rsq.recentRecall := by
  unfold State.rouseAtEntry
  simp only [doWhen]
  repeat' split
  all_goals simp

@[simp] theorem State.setLinkLost_fields (b : Bool) :
    (s.setLinkLost b).lif.receiver = s.lif.receiver ∧ (s.setLinkLost b).lif.beaconTimer = s.lif.beaconTimer ∧
      (s.setLinkLost b).lif.clash = s.lif.clash ∧ (s.setLinkLost b).plu.windowOpen = s.plu.windowOpen ∧
      (s.setLinkLost b).plu.windowTimer = s.plu.windowTimer ∧
      (s.setLinkLost b).plu.activeProfile = s.plu.activeProfile ∧ (s.setLinkLost b).plu.flags = s.plu.flags ∧
      (s.setLinkLost b).rsq.tag = s.rsq.tag ∧ (s.setLinkLost b).rsq.askWait = s.rsq.askWait ∧
      (s.setLinkLost b).rsq.backoff = s.rsq.backoff ∧ (s.setLinkLost b).rsq.drainStep = s.rsq.drainStep ∧
      (s.setLinkLost b).rsq.darkGiven = s.rsq.darkGiven ∧ (s.setLinkLost b).rsq.omissions = s.rsq.omissions ∧
      (s.setLinkLost b).rsq.noCover = s.rsq.noCover ∧ (s.setLinkLost b).rsq.settleCount = s.rsq.settleCount ∧
      (s.setLinkLost b).rsq.doze = s.rsq.doze ∧ (s.setLinkLost b).rsq.restClock.measured = s.rsq.restClock.measured ∧
      (s.setLinkLost b).rsq.restGuard = s.rsq.restGuard ∧ (s.setLinkLost b).rsq.recentRecall = s.rsq.recentRecall ∧
      (s.setLinkLost b).lde.state = s.lde.state ∧ (s.setLinkLost b).lde.demand = s.lde.demand ∧
      (s.setLinkLost b).lde.level = s.lde.level ∧ (s.setLinkLost b).lde.lastUtilisation = s.lde.lastUtilisation ∧
      (s.setLinkLost b).lde.lastUsers = s.lde.lastUsers ∧ (s.setLinkLost b).lde.lastDemand = s.lde.lastDemand ∧
      (s.setLinkLost b).lde.quiet = s.lde.quiet ∧ (s.setLinkLost b).lde.lastUsed = s.lde.lastUsed := by
  unfold State.setLinkLost
  simp only [State.setCondition]
  repeat' split
  all_goals simp

@[simp] theorem State.setCarrierFault_fields (b : Bool) :
    (s.setCarrierFault b).lif.receiver = s.lif.receiver ∧ (s.setCarrierFault b).lif.beaconTimer = s.lif.beaconTimer ∧
      (s.setCarrierFault b).lif.clash = s.lif.clash ∧ (s.setCarrierFault b).plu.windowOpen = s.plu.windowOpen ∧
      (s.setCarrierFault b).plu.windowTimer = s.plu.windowTimer ∧
      (s.setCarrierFault b).plu.activeProfile = s.plu.activeProfile ∧ (s.setCarrierFault b).plu.flags = s.plu.flags ∧
      (s.setCarrierFault b).rsq.tag = s.rsq.tag ∧ (s.setCarrierFault b).rsq.askWait = s.rsq.askWait ∧
      (s.setCarrierFault b).rsq.backoff = s.rsq.backoff ∧ (s.setCarrierFault b).rsq.drainStep = s.rsq.drainStep ∧
      (s.setCarrierFault b).rsq.darkGiven = s.rsq.darkGiven ∧ (s.setCarrierFault b).rsq.omissions = s.rsq.omissions ∧
      (s.setCarrierFault b).rsq.noCover = s.rsq.noCover ∧ (s.setCarrierFault b).rsq.settleCount = s.rsq.settleCount ∧
      (s.setCarrierFault b).rsq.doze = s.rsq.doze ∧
      (s.setCarrierFault b).rsq.restClock.measured = s.rsq.restClock.measured ∧
      (s.setCarrierFault b).rsq.restGuard = s.rsq.restGuard ∧
      (s.setCarrierFault b).rsq.recentRecall = s.rsq.recentRecall ∧ (s.setCarrierFault b).clp.link = s.clp.link ∧
      (s.setCarrierFault b).clp.watch = s.clp.watch ∧ (s.setCarrierFault b).clp.lastCondition = s.clp.lastCondition ∧
      (s.setCarrierFault b).clp.currentOrder = s.clp.currentOrder ∧
      (s.setCarrierFault b).clp.backlog = s.clp.backlog := by
  unfold State.setCarrierFault
  simp only [doWhen, State.setCondition]
  repeat' split
  all_goals simp

@[simp] theorem State.setNoCover_fields (b : Bool) :
    (s.setNoCover b).lif.receiver = s.lif.receiver ∧ (s.setNoCover b).lif.beaconTimer = s.lif.beaconTimer ∧
      (s.setNoCover b).lif.clash = s.lif.clash ∧ (s.setNoCover b).plu.windowOpen = s.plu.windowOpen ∧
      (s.setNoCover b).plu.windowTimer = s.plu.windowTimer ∧
      (s.setNoCover b).plu.activeProfile = s.plu.activeProfile ∧ (s.setNoCover b).plu.flags = s.plu.flags ∧
      (s.setNoCover b).rsq.tag = s.rsq.tag ∧ (s.setNoCover b).rsq.askWait = s.rsq.askWait ∧
      (s.setNoCover b).rsq.backoff = s.rsq.backoff ∧ (s.setNoCover b).rsq.drainStep = s.rsq.drainStep ∧
      (s.setNoCover b).rsq.darkGiven = s.rsq.darkGiven ∧ (s.setNoCover b).rsq.omissions = s.rsq.omissions ∧
      (s.setNoCover b).rsq.settleCount = s.rsq.settleCount ∧ (s.setNoCover b).rsq.doze = s.rsq.doze ∧
      (s.setNoCover b).rsq.restClock.measured = s.rsq.restClock.measured ∧
      (s.setNoCover b).rsq.restGuard = s.rsq.restGuard ∧ (s.setNoCover b).rsq.recentRecall = s.rsq.recentRecall := by
  unfold State.setNoCover
  simp only [State.setCondition]
  repeat' split
  all_goals simp

@[simp] theorem State.setUnsettled_fields (b : Bool) :
    (s.setUnsettled b).lif.receiver = s.lif.receiver ∧ (s.setUnsettled b).lif.beaconTimer = s.lif.beaconTimer ∧
      (s.setUnsettled b).lif.clash = s.lif.clash ∧ (s.setUnsettled b).plu.windowOpen = s.plu.windowOpen ∧
      (s.setUnsettled b).plu.windowTimer = s.plu.windowTimer ∧
      (s.setUnsettled b).plu.activeProfile = s.plu.activeProfile ∧ (s.setUnsettled b).plu.flags = s.plu.flags ∧
      (s.setUnsettled b).rsq.tag = s.rsq.tag ∧ (s.setUnsettled b).rsq.askWait = s.rsq.askWait ∧
      (s.setUnsettled b).rsq.backoff = s.rsq.backoff ∧ (s.setUnsettled b).rsq.drainStep = s.rsq.drainStep ∧
      (s.setUnsettled b).rsq.darkGiven = s.rsq.darkGiven ∧ (s.setUnsettled b).rsq.omissions = s.rsq.omissions ∧
      (s.setUnsettled b).rsq.noCover = s.rsq.noCover ∧ (s.setUnsettled b).rsq.settleCount = s.rsq.settleCount ∧
      (s.setUnsettled b).rsq.doze = s.rsq.doze ∧
      (s.setUnsettled b).rsq.restClock.measured = s.rsq.restClock.measured ∧
      (s.setUnsettled b).rsq.restGuard = s.rsq.restGuard ∧
      (s.setUnsettled b).rsq.recentRecall = s.rsq.recentRecall := by
  unfold State.setUnsettled
  simp only [doWhen, State.setCondition]
  repeat' split
  all_goals simp

@[simp] theorem State.endRecentRecall_fields :
    (s.endRecentRecall).lif.receiver = s.lif.receiver ∧ (s.endRecentRecall).lif.beaconTimer = s.lif.beaconTimer ∧
      (s.endRecentRecall).lif.clash = s.lif.clash ∧ (s.endRecentRecall).plu.windowOpen = s.plu.windowOpen ∧
      (s.endRecentRecall).plu.windowTimer = s.plu.windowTimer ∧
      (s.endRecentRecall).plu.activeProfile = s.plu.activeProfile ∧ (s.endRecentRecall).plu.flags = s.plu.flags ∧
      (s.endRecentRecall).rsq.tag = s.rsq.tag ∧ (s.endRecentRecall).rsq.askWait = s.rsq.askWait ∧
      (s.endRecentRecall).rsq.backoff = s.rsq.backoff ∧ (s.endRecentRecall).rsq.drainStep = s.rsq.drainStep ∧
      (s.endRecentRecall).rsq.darkGiven = s.rsq.darkGiven ∧ (s.endRecentRecall).rsq.omissions = s.rsq.omissions ∧
      (s.endRecentRecall).rsq.noCover = s.rsq.noCover ∧ (s.endRecentRecall).rsq.settleCount = s.rsq.settleCount ∧
      (s.endRecentRecall).rsq.doze = s.rsq.doze ∧
      (s.endRecentRecall).rsq.restClock.measured = s.rsq.restClock.measured ∧
      (s.endRecentRecall).rsq.restGuard = s.rsq.restGuard := by
  unfold State.endRecentRecall
  simp only [State.setCondition]
  repeat' split
  all_goals simp

@[simp] theorem State.formIsolated_fields :
    (s.formIsolated).lif.receiver = s.lif.receiver ∧ (s.formIsolated).lif.beaconTimer = s.lif.beaconTimer ∧
      (s.formIsolated).lif.clash = s.lif.clash ∧ (s.formIsolated).plu.windowOpen = s.plu.windowOpen ∧
      (s.formIsolated).plu.windowTimer = s.plu.windowTimer ∧
      (s.formIsolated).plu.activeProfile = s.plu.activeProfile ∧ (s.formIsolated).plu.flags = s.plu.flags ∧
      (s.formIsolated).rsq.tag = s.rsq.tag ∧ (s.formIsolated).rsq.askWait = s.rsq.askWait ∧
      (s.formIsolated).rsq.backoff = s.rsq.backoff ∧ (s.formIsolated).rsq.drainStep = s.rsq.drainStep ∧
      (s.formIsolated).rsq.darkGiven = s.rsq.darkGiven ∧ (s.formIsolated).rsq.omissions = s.rsq.omissions ∧
      (s.formIsolated).rsq.noCover = s.rsq.noCover ∧ (s.formIsolated).rsq.settleCount = s.rsq.settleCount ∧
      (s.formIsolated).rsq.doze = s.rsq.doze ∧ (s.formIsolated).rsq.restClock.measured = s.rsq.restClock.measured ∧
      (s.formIsolated).rsq.restGuard = s.rsq.restGuard ∧ (s.formIsolated).rsq.recentRecall = s.rsq.recentRecall ∧
      (s.formIsolated).pvt.slots = s.pvt.slots ∧ (s.formIsolated).pvt.pointer = s.pvt.pointer ∧
      (s.formIsolated).pvt.viewFull = s.pvt.viewFull := by
  unfold State.formIsolated
  simp only [State.setCondition]
  repeat' split
  all_goals simp

@[simp] theorem State.useSample_fields (u : BitVec 10) (n : BitVec 11) (arrivedAwake : Bool) :
    (s.useSample u n arrivedAwake).lde.linkLost = s.lde.linkLost := by
  unfold State.useSample
  dsimp only
  repeat' split
  all_goals simp

@[simp] theorem State.zeroQuiet_fields :
    (s.zeroQuiet).lde.state = s.lde.state ∧ (s.zeroQuiet).lde.demand = s.lde.demand ∧
      (s.zeroQuiet).lde.level = s.lde.level ∧ (s.zeroQuiet).lde.lastUtilisation = s.lde.lastUtilisation ∧
      (s.zeroQuiet).lde.lastUsers = s.lde.lastUsers ∧ (s.zeroQuiet).lde.lastDemand = s.lde.lastDemand ∧
      (s.zeroQuiet).lde.lastUsed = s.lde.lastUsed ∧ (s.zeroQuiet).lde.linkLost = s.lde.linkLost := by
  unfold State.zeroQuiet
  simp

@[simp] theorem State.sendRecall_fields (p : Pledge) :
    (s.sendRecall p).lif.receiver = s.lif.receiver ∧ (s.sendRecall p).lif.beaconTimer = s.lif.beaconTimer ∧
      (s.sendRecall p).lif.clash = s.lif.clash ∧ (s.sendRecall p).cvu.book = s.cvu.book ∧
      (s.sendRecall p).cvu.recallGuard = s.cvu.recallGuard := by
  unfold State.sendRecall
  simp

@[simp] theorem State.startRecall_fields (counted : Counter) :
    (s.startRecall counted).lif.receiver = s.lif.receiver ∧
      (s.startRecall counted).lif.beaconTimer = s.lif.beaconTimer ∧ (s.startRecall counted).lif.clash = s.lif.clash ∧
      (s.startRecall counted).cvu.recallGuard = s.cvu.recallGuard := by
  unfold State.startRecall
  repeat' split
  all_goals simp

@[simp] theorem State.continuousCheck_fields :
    (s.continuousCheck).lif.receiver = s.lif.receiver ∧ (s.continuousCheck).lif.beaconTimer = s.lif.beaconTimer ∧
      (s.continuousCheck).lif.clash = s.lif.clash ∧ (s.continuousCheck).cvu.recallGuard = s.cvu.recallGuard := by
  unfold State.continuousCheck
  repeat' split
  all_goals simp

@[simp] theorem State.startRecallGuard_fields :
    (s.startRecallGuard).cvu.book = s.cvu.book ∧ (s.startRecallGuard).cvu.recallTimer = s.cvu.recallTimer := by
  unfold State.startRecallGuard
  repeat' split
  all_goals simp

@[simp] theorem State.endCall_fields (cause : RemovalCause) :
    (s.endCall cause).lif.receiver = s.lif.receiver ∧ (s.endCall cause).lif.beaconTimer = s.lif.beaconTimer ∧
      (s.endCall cause).lif.clash = s.lif.clash := by
  unfold State.endCall
  simp only [doWhen]
  repeat' split
  all_goals simp

/-- The end of a call by a cause that starts no guard leaves the recall guard (R69). -/
theorem State.endCall_guard {cause : RemovalCause} (h : guardsRecall cause = false) :
    (s.endCall cause).cvu.recallGuard = s.cvu.recallGuard := by
  simp [State.endCall, doWhen, h]

@[simp] theorem State.removePledge_fields (p : Pledge) (cause : RemovalCause) :
    (s.removePledge p cause).lif.receiver = s.lif.receiver ∧
      (s.removePledge p cause).lif.beaconTimer = s.lif.beaconTimer ∧
      (s.removePledge p cause).lif.clash = s.lif.clash := by
  unfold State.removePledge
  simp only [doWhen]
  repeat' split
  all_goals simp

/-- A removal by a cause that starts no guard leaves the recall guard (R69). -/
theorem State.removePledge_guard (p : Pledge) {cause : RemovalCause} (h : guardsRecall cause = false) :
    (s.removePledge p cause).cvu.recallGuard = s.cvu.recallGuard := by
  simp only [State.removePledge, doWhen]
  split
  · rw [State.endCall_guard _ h]; simp
  · simp

@[simp] theorem State.replaceFor_fields (asker : Nat) :
    (s.replaceFor asker).lif.receiver = s.lif.receiver ∧ (s.replaceFor asker).lif.beaconTimer = s.lif.beaconTimer ∧
      (s.replaceFor asker).lif.clash = s.lif.clash ∧ (s.replaceFor asker).cvu.recallGuard = s.cvu.recallGuard := by
  unfold State.replaceFor
  split
  · simp [State.removePledge_guard (cause := .replaced) _ _ rfl]
  · simp

@[simp] theorem State.grantAsk_fields (asker : Nat) (tag : BitVec 8) (amount : Nat) :
    (s.grantAsk asker tag amount).lif.receiver = s.lif.receiver ∧
      (s.grantAsk asker tag amount).lif.beaconTimer = s.lif.beaconTimer ∧
      (s.grantAsk asker tag amount).lif.clash = s.lif.clash ∧
      (s.grantAsk asker tag amount).cvu.recallGuard = s.cvu.recallGuard := by
  unfold State.grantAsk
  simp

@[simp] theorem State.denyAsk_fields (asker : Nat) (tag : BitVec 8) (reason : DenyReason) :
    (s.denyAsk asker tag reason).lif.receiver = s.lif.receiver ∧
      (s.denyAsk asker tag reason).lif.beaconTimer = s.lif.beaconTimer ∧
      (s.denyAsk asker tag reason).lif.clash = s.lif.clash := by
  unfold State.denyAsk
  simp

@[simp] theorem State.answerAsk_fields (asker : Nat) (sector : BitVec 3) (tag : BitVec 8) (amount : Nat) :
    (s.answerAsk asker sector tag amount).lif.receiver = s.lif.receiver ∧
      (s.answerAsk asker sector tag amount).lif.beaconTimer = s.lif.beaconTimer ∧
      (s.answerAsk asker sector tag amount).lif.clash = s.lif.clash ∧
      (s.answerAsk asker sector tag amount).cvu.recallGuard = s.cvu.recallGuard := by
  unfold State.answerAsk
  dsimp only
  repeat' split
  all_goals simp

@[simp] theorem State.leanerBeacon_fields (b : Heard) :
    (s.leanerBeacon b).lif.receiver = s.lif.receiver ∧ (s.leanerBeacon b).lif.beaconTimer = s.lif.beaconTimer ∧
      (s.leanerBeacon b).lif.clash = s.lif.clash := by
  unfold State.leanerBeacon
  repeat' split
  all_goals simp

@[simp] theorem State.leanerLost_fields (leaner : Nat) :
    (s.leanerLost leaner).lif.receiver = s.lif.receiver ∧ (s.leanerLost leaner).lif.beaconTimer = s.lif.beaconTimer ∧
      (s.leanerLost leaner).lif.clash = s.lif.clash ∧ (s.leanerLost leaner).cvu.recallGuard = s.cvu.recallGuard := by
  unfold State.leanerLost
  split
  · simp [State.removePledge_guard (cause := .leanerLost) _ _ rfl]
  · simp

@[simp] theorem State.takeResume_fields (sender : Nat) (tag : BitVec 8) :
    (s.takeResume sender tag).lif.receiver = s.lif.receiver ∧
      (s.takeResume sender tag).lif.beaconTimer = s.lif.beaconTimer ∧
      (s.takeResume sender tag).lif.clash = s.lif.clash := by
  unfold State.takeResume
  repeat' split
  all_goals simp

@[simp] theorem State.lapsePledges_fields :
    (s.lapsePledges).cvu.recallTimer = s.cvu.recallTimer ∧ (s.lapsePledges).cvu.recallGuard = s.cvu.recallGuard := by
  unfold State.lapsePledges
  simp

@[simp] theorem State.overloadTest_fields :
    (s.overloadTest).lif.receiver = s.lif.receiver ∧ (s.overloadTest).lif.beaconTimer = s.lif.beaconTimer ∧
      (s.overloadTest).lif.clash = s.lif.clash ∧ (s.overloadTest).cvu.recallGuard = s.cvu.recallGuard := by
  unfold State.overloadTest
  repeat' split
  all_goals simp

@[simp] theorem State.coverStage_fields :
    (s.coverStage).lif.receiver = s.lif.receiver ∧ (s.coverStage).lif.beaconTimer = s.lif.beaconTimer ∧
      (s.coverStage).lif.clash = s.lif.clash ∧ (s.coverStage).cvu.recallGuard = s.cvu.recallGuard := by
  unfold State.coverStage
  dsimp only
  repeat' split
  all_goals simp

@[simp] theorem State.recallTimeout_fields :
    (s.recallTimeout).lif.receiver = s.lif.receiver ∧ (s.recallTimeout).lif.beaconTimer = s.lif.beaconTimer ∧
      (s.recallTimeout).lif.clash = s.lif.clash := by
  unfold State.recallTimeout
  repeat' split
  all_goals simp

@[simp] theorem State.formSettled_fields :
    (s.formSettled).lif.receiver = s.lif.receiver ∧ (s.formSettled).lif.beaconTimer = s.lif.beaconTimer ∧
      (s.formSettled).lif.clash = s.lif.clash ∧ (s.formSettled).plu.windowOpen = s.plu.windowOpen ∧
      (s.formSettled).plu.windowTimer = s.plu.windowTimer ∧ (s.formSettled).plu.activeProfile = s.plu.activeProfile ∧
      (s.formSettled).plu.flags = s.plu.flags ∧ (s.formSettled).rsq.tag = s.rsq.tag ∧
      (s.formSettled).rsq.askWait = s.rsq.askWait ∧ (s.formSettled).rsq.backoff = s.rsq.backoff ∧
      (s.formSettled).rsq.drainStep = s.rsq.drainStep ∧ (s.formSettled).rsq.darkGiven = s.rsq.darkGiven ∧
      (s.formSettled).rsq.omissions = s.rsq.omissions ∧ (s.formSettled).rsq.noCover = s.rsq.noCover ∧
      (s.formSettled).rsq.settleCount = s.rsq.settleCount ∧ (s.formSettled).rsq.doze = s.rsq.doze ∧
      (s.formSettled).rsq.restClock.measured = s.rsq.restClock.measured ∧
      (s.formSettled).rsq.restGuard = s.rsq.restGuard ∧ (s.formSettled).rsq.recentRecall = s.rsq.recentRecall := by
  unfold State.formSettled
  dsimp only
  repeat' split
  all_goals simp

@[simp] theorem State.enterStandby_fields :
    (s.enterStandby).lif.receiver = s.lif.receiver ∧ (s.enterStandby).lif.beaconTimer = s.lif.beaconTimer ∧
      (s.enterStandby).lif.clash = s.lif.clash ∧ (s.enterStandby).plu.windowOpen = s.plu.windowOpen ∧
      (s.enterStandby).plu.windowTimer = s.plu.windowTimer ∧
      (s.enterStandby).plu.activeProfile = s.plu.activeProfile ∧ (s.enterStandby).plu.flags = s.plu.flags ∧
      (s.enterStandby).rsq.tag = s.rsq.tag ∧ (s.enterStandby).rsq.askWait = s.rsq.askWait ∧
      (s.enterStandby).rsq.backoff = s.rsq.backoff ∧ (s.enterStandby).rsq.drainStep = s.rsq.drainStep ∧
      (s.enterStandby).rsq.omissions = s.rsq.omissions ∧ (s.enterStandby).rsq.noCover = s.rsq.noCover ∧
      (s.enterStandby).rsq.doze = s.rsq.doze ∧ (s.enterStandby).rsq.restGuard = s.rsq.restGuard ∧
      (s.enterStandby).rsq.recentRecall = s.rsq.recentRecall ∧ (s.enterStandby).pvt.pointer = s.pvt.pointer ∧
      (s.enterStandby).pvt.viewFull = s.pvt.viewFull ∧ (s.enterStandby).pvt.isolated = s.pvt.isolated := by
  unfold State.enterStandby
  simp

@[simp] theorem State.enterDeep_fields :
    (s.enterDeep).lif.receiver = s.lif.receiver ∧ (s.enterDeep).lif.beaconTimer = s.lif.beaconTimer ∧
      (s.enterDeep).lif.clash = s.lif.clash ∧ (s.enterDeep).plu.windowOpen = s.plu.windowOpen ∧
      (s.enterDeep).plu.windowTimer = s.plu.windowTimer ∧ (s.enterDeep).plu.activeProfile = s.plu.activeProfile ∧
      (s.enterDeep).plu.flags = s.plu.flags ∧ (s.enterDeep).rsq.tag = s.rsq.tag ∧
      (s.enterDeep).rsq.askWait = s.rsq.askWait ∧ (s.enterDeep).rsq.backoff = s.rsq.backoff ∧
      (s.enterDeep).rsq.drainStep = s.rsq.drainStep ∧ (s.enterDeep).rsq.darkGiven = s.rsq.darkGiven ∧
      (s.enterDeep).rsq.omissions = s.rsq.omissions ∧ (s.enterDeep).rsq.noCover = s.rsq.noCover ∧
      (s.enterDeep).rsq.settleCount = s.rsq.settleCount ∧
      (s.enterDeep).rsq.restClock.measured = s.rsq.restClock.measured ∧
      (s.enterDeep).rsq.restGuard = s.rsq.restGuard ∧ (s.enterDeep).rsq.recentRecall = s.rsq.recentRecall := by
  unfold State.enterDeep
  dsimp only
  repeat' split
  all_goals simp

@[simp] theorem State.startAttempt_fields (cover amount : Nat) :
    (s.startAttempt cover amount).lif.receiver = s.lif.receiver ∧
      (s.startAttempt cover amount).lif.beaconTimer = s.lif.beaconTimer ∧
      (s.startAttempt cover amount).lif.clash = s.lif.clash ∧ (s.startAttempt cover amount).lde.state = s.lde.state ∧
      (s.startAttempt cover amount).lde.demand = s.lde.demand ∧
      (s.startAttempt cover amount).lde.level = s.lde.level ∧
      (s.startAttempt cover amount).lde.lastUtilisation = s.lde.lastUtilisation ∧
      (s.startAttempt cover amount).lde.lastUsers = s.lde.lastUsers ∧
      (s.startAttempt cover amount).lde.lastDemand = s.lde.lastDemand ∧
      (s.startAttempt cover amount).lde.lastUsed = s.lde.lastUsed ∧
      (s.startAttempt cover amount).lde.linkLost = s.lde.linkLost ∧
      (s.startAttempt cover amount).rsq.backoff = s.rsq.backoff ∧
      (s.startAttempt cover amount).rsq.drainTimer = s.rsq.drainTimer ∧
      (s.startAttempt cover amount).rsq.drainStep = s.rsq.drainStep ∧
      (s.startAttempt cover amount).rsq.darkGiven = s.rsq.darkGiven ∧
      (s.startAttempt cover amount).rsq.wakeCause = s.rsq.wakeCause ∧
      (s.startAttempt cover amount).rsq.omissions = s.rsq.omissions ∧
      (s.startAttempt cover amount).rsq.restGuard = s.rsq.restGuard ∧
      (s.startAttempt cover amount).rsq.recentRecall = s.rsq.recentRecall ∧
      (s.startAttempt cover amount).rsq.noCover = s.rsq.noCover ∧
      (s.startAttempt cover amount).rsq.restClock.mode = s.rsq.restClock.mode ∧
      (s.startAttempt cover amount).rsq.restClock.measured = s.rsq.restClock.measured ∧
      (s.startAttempt cover amount).rsq.settleCount = s.rsq.settleCount ∧
      (s.startAttempt cover amount).rsq.settled = s.rsq.settled ∧
      (s.startAttempt cover amount).rsq.unsettled = s.rsq.unsettled ∧
      (s.startAttempt cover amount).rsq.doze = s.rsq.doze := by
  unfold State.startAttempt
  simp

@[simp] theorem State.evaluateEligibility_fields :
    (s.evaluateEligibility).lif.receiver = s.lif.receiver ∧
      (s.evaluateEligibility).lif.beaconTimer = s.lif.beaconTimer ∧ (s.evaluateEligibility).lif.clash = s.lif.clash ∧
      (s.evaluateEligibility).plu.windowOpen = s.plu.windowOpen ∧
      (s.evaluateEligibility).plu.windowTimer = s.plu.windowTimer ∧
      (s.evaluateEligibility).plu.activeProfile = s.plu.activeProfile ∧
      (s.evaluateEligibility).plu.flags = s.plu.flags ∧ (s.evaluateEligibility).rsq.backoff = s.rsq.backoff ∧
      (s.evaluateEligibility).rsq.drainStep = s.rsq.drainStep ∧
      (s.evaluateEligibility).rsq.darkGiven = s.rsq.darkGiven ∧
      (s.evaluateEligibility).rsq.omissions = s.rsq.omissions ∧
      (s.evaluateEligibility).rsq.settleCount = s.rsq.settleCount ∧ (s.evaluateEligibility).rsq.doze = s.rsq.doze ∧
      (s.evaluateEligibility).rsq.restClock.measured = s.rsq.restClock.measured ∧
      (s.evaluateEligibility).rsq.restGuard = s.rsq.restGuard ∧
      (s.evaluateEligibility).rsq.recentRecall = s.rsq.recentRecall ∧
      (s.evaluateEligibility).lde.state = s.lde.state ∧ (s.evaluateEligibility).lde.demand = s.lde.demand ∧
      (s.evaluateEligibility).lde.level = s.lde.level ∧
      (s.evaluateEligibility).lde.lastUtilisation = s.lde.lastUtilisation ∧
      (s.evaluateEligibility).lde.lastUsers = s.lde.lastUsers ∧
      (s.evaluateEligibility).lde.lastDemand = s.lde.lastDemand ∧
      (s.evaluateEligibility).lde.lastUsed = s.lde.lastUsed ∧
      (s.evaluateEligibility).lde.linkLost = s.lde.linkLost := by
  unfold State.evaluateEligibility
  dsimp only
  repeat' split
  all_goals simp

@[simp] theorem State.startBackoff_fields (length : Micros) :
    (s.startBackoff length).rsq.phase = s.rsq.phase ∧ (s.startBackoff length).rsq.cover = s.rsq.cover ∧
      (s.startBackoff length).rsq.tag = s.rsq.tag ∧ (s.startBackoff length).rsq.askWait = s.rsq.askWait ∧
      (s.startBackoff length).rsq.drainTimer = s.rsq.drainTimer ∧
      (s.startBackoff length).rsq.drainStep = s.rsq.drainStep ∧
      (s.startBackoff length).rsq.darkGiven = s.rsq.darkGiven ∧
      (s.startBackoff length).rsq.wakeCause = s.rsq.wakeCause ∧
      (s.startBackoff length).rsq.omissions = s.rsq.omissions ∧
      (s.startBackoff length).rsq.restGuard = s.rsq.restGuard ∧
      (s.startBackoff length).rsq.recentRecall = s.rsq.recentRecall ∧
      (s.startBackoff length).rsq.noCover = s.rsq.noCover ∧
      (s.startBackoff length).rsq.restClock.mode = s.rsq.restClock.mode ∧
      (s.startBackoff length).rsq.restClock.measured = s.rsq.restClock.measured ∧
      (s.startBackoff length).rsq.settleCount = s.rsq.settleCount ∧
      (s.startBackoff length).rsq.settled = s.rsq.settled ∧ (s.startBackoff length).rsq.unsettled = s.rsq.unsettled ∧
      (s.startBackoff length).rsq.doze = s.rsq.doze := by
  unfold State.startBackoff
  simp

@[simp] theorem State.takeMiss_fields :
    (s.takeMiss).rsq.tag = s.rsq.tag ∧ (s.takeMiss).rsq.drainTimer = s.rsq.drainTimer ∧
      (s.takeMiss).rsq.drainStep = s.rsq.drainStep ∧ (s.takeMiss).rsq.darkGiven = s.rsq.darkGiven ∧
      (s.takeMiss).rsq.wakeCause = s.rsq.wakeCause ∧ (s.takeMiss).rsq.omissions = s.rsq.omissions ∧
      (s.takeMiss).rsq.restGuard = s.rsq.restGuard ∧ (s.takeMiss).rsq.recentRecall = s.rsq.recentRecall ∧
      (s.takeMiss).rsq.noCover = s.rsq.noCover ∧ (s.takeMiss).rsq.restClock.mode = s.rsq.restClock.mode ∧
      (s.takeMiss).rsq.restClock.measured = s.rsq.restClock.measured ∧
      (s.takeMiss).rsq.settleCount = s.rsq.settleCount ∧ (s.takeMiss).rsq.settled = s.rsq.settled ∧
      (s.takeMiss).rsq.unsettled = s.rsq.unsettled ∧ (s.takeMiss).rsq.doze = s.rsq.doze ∧
      (s.takeMiss).pvt.pointer = s.pvt.pointer ∧ (s.takeMiss).pvt.viewFull = s.pvt.viewFull ∧
      (s.takeMiss).pvt.isolated = s.pvt.isolated := by
  unfold State.takeMiss
  dsimp only
  repeat' split
  all_goals simp

@[simp] theorem State.abandonAsk_fields :
    (s.abandonAsk).rsq.tag = s.rsq.tag ∧ (s.abandonAsk).rsq.backoff = s.rsq.backoff ∧
      (s.abandonAsk).rsq.drainTimer = s.rsq.drainTimer ∧ (s.abandonAsk).rsq.drainStep = s.rsq.drainStep ∧
      (s.abandonAsk).rsq.darkGiven = s.rsq.darkGiven ∧ (s.abandonAsk).rsq.wakeCause = s.rsq.wakeCause ∧
      (s.abandonAsk).rsq.omissions = s.rsq.omissions ∧ (s.abandonAsk).rsq.restGuard = s.rsq.restGuard ∧
      (s.abandonAsk).rsq.recentRecall = s.rsq.recentRecall ∧ (s.abandonAsk).rsq.noCover = s.rsq.noCover ∧
      (s.abandonAsk).rsq.restClock.mode = s.rsq.restClock.mode ∧
      (s.abandonAsk).rsq.restClock.measured = s.rsq.restClock.measured ∧
      (s.abandonAsk).rsq.settleCount = s.rsq.settleCount ∧ (s.abandonAsk).rsq.settled = s.rsq.settled ∧
      (s.abandonAsk).rsq.unsettled = s.rsq.unsettled ∧ (s.abandonAsk).rsq.doze = s.rsq.doze := by
  unfold State.abandonAsk
  repeat' split
  all_goals simp

@[simp] theorem State.startDrain_fields :
    (s.startDrain).lif.receiver = s.lif.receiver ∧ (s.startDrain).lif.beaconTimer = s.lif.beaconTimer ∧
      (s.startDrain).lif.clash = s.lif.clash ∧ (s.startDrain).plu.windowOpen = s.plu.windowOpen ∧
      (s.startDrain).plu.windowTimer = s.plu.windowTimer ∧ (s.startDrain).plu.activeProfile = s.plu.activeProfile ∧
      (s.startDrain).plu.flags = s.plu.flags ∧ (s.startDrain).rsq.tag = s.rsq.tag ∧
      (s.startDrain).rsq.backoff = s.rsq.backoff ∧ (s.startDrain).rsq.darkGiven = s.rsq.darkGiven ∧
      (s.startDrain).rsq.noCover = s.rsq.noCover ∧ (s.startDrain).rsq.settleCount = s.rsq.settleCount ∧
      (s.startDrain).rsq.doze = s.rsq.doze ∧ (s.startDrain).rsq.restClock.measured = s.rsq.restClock.measured ∧
      (s.startDrain).rsq.restGuard = s.rsq.restGuard ∧ (s.startDrain).rsq.recentRecall = s.rsq.recentRecall := by
  unfold State.startDrain
  dsimp only
  repeat' split
  all_goals simp

@[simp] theorem State.failDrain_fields :
    (s.failDrain).lif.receiver = s.lif.receiver ∧ (s.failDrain).lif.beaconTimer = s.lif.beaconTimer ∧
      (s.failDrain).lif.clash = s.lif.clash ∧ (s.failDrain).rsq.tag = s.rsq.tag ∧
      (s.failDrain).rsq.askWait = s.rsq.askWait ∧ (s.failDrain).rsq.drainStep = s.rsq.drainStep ∧
      (s.failDrain).rsq.darkGiven = s.rsq.darkGiven ∧ (s.failDrain).rsq.wakeCause = s.rsq.wakeCause ∧
      (s.failDrain).rsq.omissions = s.rsq.omissions ∧ (s.failDrain).rsq.restGuard = s.rsq.restGuard ∧
      (s.failDrain).rsq.recentRecall = s.rsq.recentRecall ∧ (s.failDrain).rsq.noCover = s.rsq.noCover ∧
      (s.failDrain).rsq.restClock.mode = s.rsq.restClock.mode ∧
      (s.failDrain).rsq.restClock.measured = s.rsq.restClock.measured ∧
      (s.failDrain).rsq.settleCount = s.rsq.settleCount ∧ (s.failDrain).rsq.settled = s.rsq.settled ∧
      (s.failDrain).rsq.unsettled = s.rsq.unsettled ∧ (s.failDrain).rsq.doze = s.rsq.doze := by
  unfold State.failDrain
  simp

@[simp] theorem State.completeWake_fields :
    (s.completeWake).lif.receiver = s.lif.receiver ∧ (s.completeWake).lif.beaconTimer = s.lif.beaconTimer ∧
      (s.completeWake).lif.clash = s.lif.clash ∧ (s.completeWake).plu.windowOpen = s.plu.windowOpen ∧
      (s.completeWake).plu.windowTimer = s.plu.windowTimer ∧
      (s.completeWake).plu.activeProfile = s.plu.activeProfile ∧ (s.completeWake).plu.flags = s.plu.flags ∧
      (s.completeWake).rsq.tag = s.rsq.tag ∧ (s.completeWake).rsq.askWait = s.rsq.askWait ∧
      (s.completeWake).rsq.backoff = s.rsq.backoff ∧ (s.completeWake).rsq.drainTimer = s.rsq.drainTimer ∧
      (s.completeWake).rsq.drainStep = s.rsq.drainStep ∧ (s.completeWake).rsq.darkGiven = s.rsq.darkGiven ∧
      (s.completeWake).rsq.wakeCause = s.rsq.wakeCause ∧ (s.completeWake).rsq.omissions = s.rsq.omissions ∧
      (s.completeWake).rsq.noCover = s.rsq.noCover ∧
      (s.completeWake).rsq.restClock.measured = s.rsq.restClock.measured ∧
      (s.completeWake).rsq.settleCount = s.rsq.settleCount ∧ (s.completeWake).rsq.settled = s.rsq.settled ∧
      (s.completeWake).rsq.unsettled = s.rsq.unsettled ∧ (s.completeWake).rsq.doze = s.rsq.doze := by
  unfold State.completeWake
  dsimp only
  repeat' split
  all_goals simp

@[simp] theorem State.carrierStep_fields (condition : CarrierCondition) :
    (s.carrierStep condition).lif.receiver = s.lif.receiver ∧
      (s.carrierStep condition).lif.beaconTimer = s.lif.beaconTimer ∧
      (s.carrierStep condition).lif.clash = s.lif.clash ∧
      (s.carrierStep condition).plu.windowOpen = s.plu.windowOpen ∧
      (s.carrierStep condition).plu.windowTimer = s.plu.windowTimer ∧
      (s.carrierStep condition).plu.activeProfile = s.plu.activeProfile ∧
      (s.carrierStep condition).plu.flags = s.plu.flags ∧ (s.carrierStep condition).rsq.tag = s.rsq.tag ∧
      (s.carrierStep condition).rsq.askWait = s.rsq.askWait ∧ (s.carrierStep condition).rsq.noCover = s.rsq.noCover ∧
      (s.carrierStep condition).rsq.omissions = s.rsq.omissions ∧
      (s.carrierStep condition).pvt.pointer = s.pvt.pointer ∧
      (s.carrierStep condition).pvt.viewFull = s.pvt.viewFull ∧
      (s.carrierStep condition).pvt.isolated = s.pvt.isolated := by
  unfold State.carrierStep
  repeat' split
  all_goals simp

@[simp] theorem State.coverBeacon_fields (b : Heard) :
    (s.coverBeacon b).lif.receiver = s.lif.receiver ∧ (s.coverBeacon b).lif.beaconTimer = s.lif.beaconTimer ∧
      (s.coverBeacon b).lif.clash = s.lif.clash ∧ (s.coverBeacon b).plu.windowOpen = s.plu.windowOpen ∧
      (s.coverBeacon b).plu.windowTimer = s.plu.windowTimer ∧
      (s.coverBeacon b).plu.activeProfile = s.plu.activeProfile ∧ (s.coverBeacon b).plu.flags = s.plu.flags ∧
      (s.coverBeacon b).rsq.tag = s.rsq.tag ∧ (s.coverBeacon b).rsq.askWait = s.rsq.askWait ∧
      (s.coverBeacon b).rsq.backoff = s.rsq.backoff ∧ (s.coverBeacon b).rsq.drainStep = s.rsq.drainStep ∧
      (s.coverBeacon b).rsq.darkGiven = s.rsq.darkGiven ∧ (s.coverBeacon b).rsq.noCover = s.rsq.noCover ∧
      (s.coverBeacon b).rsq.settleCount = s.rsq.settleCount ∧ (s.coverBeacon b).rsq.doze = s.rsq.doze ∧
      (s.coverBeacon b).rsq.restClock.measured = s.rsq.restClock.measured ∧
      (s.coverBeacon b).rsq.restGuard = s.rsq.restGuard ∧
      (s.coverBeacon b).rsq.recentRecall = s.rsq.recentRecall := by
  unfold State.coverBeacon
  dsimp only
  repeat' split
  all_goals simp

@[simp] theorem State.settleWake_fields :
    (s.settleWake).lif.receiver = s.lif.receiver ∧ (s.settleWake).lif.beaconTimer = s.lif.beaconTimer ∧
      (s.settleWake).lif.clash = s.lif.clash ∧ (s.settleWake).plu.windowOpen = s.plu.windowOpen ∧
      (s.settleWake).plu.windowTimer = s.plu.windowTimer ∧ (s.settleWake).plu.activeProfile = s.plu.activeProfile ∧
      (s.settleWake).plu.flags = s.plu.flags ∧ (s.settleWake).rsq.tag = s.rsq.tag ∧
      (s.settleWake).rsq.askWait = s.rsq.askWait ∧ (s.settleWake).rsq.backoff = s.rsq.backoff ∧
      (s.settleWake).rsq.drainStep = s.rsq.drainStep ∧ (s.settleWake).rsq.darkGiven = s.rsq.darkGiven ∧
      (s.settleWake).rsq.omissions = s.rsq.omissions ∧ (s.settleWake).rsq.noCover = s.rsq.noCover ∧
      (s.settleWake).rsq.settleCount = s.rsq.settleCount ∧ (s.settleWake).rsq.doze = s.rsq.doze ∧
      (s.settleWake).rsq.restClock.measured = s.rsq.restClock.measured ∧
      (s.settleWake).rsq.restGuard = s.rsq.restGuard ∧ (s.settleWake).rsq.recentRecall = s.rsq.recentRecall := by
  unfold State.settleWake
  repeat' split
  all_goals simp

@[simp] theorem State.decideDeep_fields :
    (s.decideDeep).rsq.phase = s.rsq.phase ∧ (s.decideDeep).rsq.cover = s.rsq.cover ∧
      (s.decideDeep).rsq.tag = s.rsq.tag ∧ (s.decideDeep).rsq.askWait = s.rsq.askWait ∧
      (s.decideDeep).rsq.backoff = s.rsq.backoff ∧ (s.decideDeep).rsq.drainTimer = s.rsq.drainTimer ∧
      (s.decideDeep).rsq.drainStep = s.rsq.drainStep ∧ (s.decideDeep).rsq.wakeCause = s.rsq.wakeCause ∧
      (s.decideDeep).rsq.omissions = s.rsq.omissions ∧ (s.decideDeep).rsq.restGuard = s.rsq.restGuard ∧
      (s.decideDeep).rsq.recentRecall = s.rsq.recentRecall ∧ (s.decideDeep).rsq.noCover = s.rsq.noCover ∧
      (s.decideDeep).rsq.restClock.mode = s.rsq.restClock.mode ∧
      (s.decideDeep).rsq.restClock.measured = s.rsq.restClock.measured ∧
      (s.decideDeep).rsq.settleCount = s.rsq.settleCount ∧ (s.decideDeep).rsq.settled = s.rsq.settled ∧
      (s.decideDeep).rsq.unsettled = s.rsq.unsettled ∧ (s.decideDeep).rsq.doze = s.rsq.doze := by
  unfold State.decideDeep
  repeat' split
  all_goals simp

@[simp] theorem State.countSettle_fields :
    (s.countSettle).lif.receiver = s.lif.receiver ∧ (s.countSettle).lif.beaconTimer = s.lif.beaconTimer ∧
      (s.countSettle).lif.clash = s.lif.clash ∧ (s.countSettle).plu.windowOpen = s.plu.windowOpen ∧
      (s.countSettle).plu.windowTimer = s.plu.windowTimer ∧ (s.countSettle).plu.activeProfile = s.plu.activeProfile ∧
      (s.countSettle).plu.flags = s.plu.flags ∧ (s.countSettle).rsq.tag = s.rsq.tag ∧
      (s.countSettle).rsq.askWait = s.rsq.askWait ∧ (s.countSettle).rsq.backoff = s.rsq.backoff ∧
      (s.countSettle).rsq.drainStep = s.rsq.drainStep ∧ (s.countSettle).rsq.darkGiven = s.rsq.darkGiven ∧
      (s.countSettle).rsq.omissions = s.rsq.omissions ∧ (s.countSettle).rsq.noCover = s.rsq.noCover ∧
      (s.countSettle).rsq.doze = s.rsq.doze ∧ (s.countSettle).rsq.restClock.measured = s.rsq.restClock.measured ∧
      (s.countSettle).rsq.restGuard = s.rsq.restGuard ∧ (s.countSettle).rsq.recentRecall = s.rsq.recentRecall := by
  unfold State.countSettle
  repeat' split
  all_goals simp

@[simp] theorem State.standbyBeaconWork_fields :
    (s.standbyBeaconWork).lif.receiver = s.lif.receiver ∧ (s.standbyBeaconWork).lif.beaconTimer = s.lif.beaconTimer ∧
      (s.standbyBeaconWork).lif.clash = s.lif.clash ∧ (s.standbyBeaconWork).plu.windowOpen = s.plu.windowOpen ∧
      (s.standbyBeaconWork).plu.windowTimer = s.plu.windowTimer ∧
      (s.standbyBeaconWork).plu.activeProfile = s.plu.activeProfile ∧ (s.standbyBeaconWork).plu.flags = s.plu.flags ∧
      (s.standbyBeaconWork).rsq.tag = s.rsq.tag ∧ (s.standbyBeaconWork).rsq.askWait = s.rsq.askWait ∧
      (s.standbyBeaconWork).rsq.backoff = s.rsq.backoff ∧ (s.standbyBeaconWork).rsq.drainStep = s.rsq.drainStep ∧
      (s.standbyBeaconWork).rsq.omissions = s.rsq.omissions ∧ (s.standbyBeaconWork).rsq.noCover = s.rsq.noCover ∧
      (s.standbyBeaconWork).rsq.doze = s.rsq.doze ∧
      (s.standbyBeaconWork).rsq.restClock.measured = s.rsq.restClock.measured ∧
      (s.standbyBeaconWork).rsq.restGuard = s.rsq.restGuard ∧
      (s.standbyBeaconWork).rsq.recentRecall = s.rsq.recentRecall := by
  unfold State.standbyBeaconWork
  simp

@[simp] theorem State.placeBeacon_fields :
    (s.placeBeacon).lif.receiver = s.lif.receiver ∧ (s.placeBeacon).lif.beaconTimer = s.lif.beaconTimer ∧
      (s.placeBeacon).lif.clash = s.lif.clash ∧ (s.placeBeacon).rsq.phase = s.rsq.phase ∧
      (s.placeBeacon).rsq.cover = s.rsq.cover ∧ (s.placeBeacon).rsq.tag = s.rsq.tag ∧
      (s.placeBeacon).rsq.askWait = s.rsq.askWait ∧ (s.placeBeacon).rsq.backoff = s.rsq.backoff ∧
      (s.placeBeacon).rsq.drainTimer = s.rsq.drainTimer ∧ (s.placeBeacon).rsq.drainStep = s.rsq.drainStep ∧
      (s.placeBeacon).rsq.darkGiven = s.rsq.darkGiven ∧ (s.placeBeacon).rsq.wakeCause = s.rsq.wakeCause ∧
      (s.placeBeacon).rsq.omissions = s.rsq.omissions ∧ (s.placeBeacon).rsq.restGuard = s.rsq.restGuard ∧
      (s.placeBeacon).rsq.recentRecall = s.rsq.recentRecall ∧ (s.placeBeacon).rsq.noCover = s.rsq.noCover ∧
      (s.placeBeacon).rsq.restClock.mode = s.rsq.restClock.mode ∧
      (s.placeBeacon).rsq.restClock.measured = s.rsq.restClock.measured ∧
      (s.placeBeacon).rsq.settleCount = s.rsq.settleCount ∧ (s.placeBeacon).rsq.settled = s.rsq.settled ∧
      (s.placeBeacon).rsq.unsettled = s.rsq.unsettled := by
  unfold State.placeBeacon
  dsimp only
  repeat' split
  all_goals simp

@[simp] theorem State.reportRemoval_fields (station : Nat) :
    (s.reportRemoval station).lif.receiver = s.lif.receiver ∧
      (s.reportRemoval station).lif.beaconTimer = s.lif.beaconTimer ∧
      (s.reportRemoval station).lif.clash = s.lif.clash ∧
      (s.reportRemoval station).plu.windowOpen = s.plu.windowOpen ∧
      (s.reportRemoval station).plu.windowTimer = s.plu.windowTimer ∧
      (s.reportRemoval station).plu.activeProfile = s.plu.activeProfile ∧
      (s.reportRemoval station).plu.flags = s.plu.flags ∧ (s.reportRemoval station).rsq.tag = s.rsq.tag ∧
      (s.reportRemoval station).rsq.askWait = s.rsq.askWait ∧ (s.reportRemoval station).rsq.backoff = s.rsq.backoff ∧
      (s.reportRemoval station).rsq.drainStep = s.rsq.drainStep ∧
      (s.reportRemoval station).rsq.darkGiven = s.rsq.darkGiven ∧
      (s.reportRemoval station).rsq.omissions = s.rsq.omissions ∧
      (s.reportRemoval station).rsq.noCover = s.rsq.noCover ∧
      (s.reportRemoval station).rsq.settleCount = s.rsq.settleCount ∧
      (s.reportRemoval station).rsq.doze = s.rsq.doze ∧
      (s.reportRemoval station).rsq.restClock.measured = s.rsq.restClock.measured ∧
      (s.reportRemoval station).rsq.restGuard = s.rsq.restGuard ∧
      (s.reportRemoval station).rsq.recentRecall = s.rsq.recentRecall ∧
      (s.reportRemoval station).cvu.recallGuard = s.cvu.recallGuard := by
  unfold State.reportRemoval
  simp only [doWhen]
  repeat' split
  all_goals simp

@[simp] theorem State.reportRemovals_fields (l : List Nat) :
    (State.reportRemovals l s).lif.receiver = s.lif.receiver ∧
      (State.reportRemovals l s).lif.beaconTimer = s.lif.beaconTimer ∧
      (State.reportRemovals l s).lif.clash = s.lif.clash ∧
      (State.reportRemovals l s).plu.windowOpen = s.plu.windowOpen ∧
      (State.reportRemovals l s).plu.windowTimer = s.plu.windowTimer ∧
      (State.reportRemovals l s).plu.activeProfile = s.plu.activeProfile ∧
      (State.reportRemovals l s).plu.flags = s.plu.flags ∧ (State.reportRemovals l s).rsq.tag = s.rsq.tag ∧
      (State.reportRemovals l s).rsq.askWait = s.rsq.askWait ∧
      (State.reportRemovals l s).rsq.backoff = s.rsq.backoff ∧
      (State.reportRemovals l s).rsq.drainStep = s.rsq.drainStep ∧
      (State.reportRemovals l s).rsq.darkGiven = s.rsq.darkGiven ∧
      (State.reportRemovals l s).rsq.omissions = s.rsq.omissions ∧
      (State.reportRemovals l s).rsq.noCover = s.rsq.noCover ∧
      (State.reportRemovals l s).rsq.settleCount = s.rsq.settleCount ∧
      (State.reportRemovals l s).rsq.doze = s.rsq.doze ∧
      (State.reportRemovals l s).rsq.restClock.measured = s.rsq.restClock.measured ∧
      (State.reportRemovals l s).rsq.restGuard = s.rsq.restGuard ∧
      (State.reportRemovals l s).rsq.recentRecall = s.rsq.recentRecall ∧
      (State.reportRemovals l s).cvu.recallGuard = s.cvu.recallGuard := by
  induction l generalizing s with
  | nil => simp [State.reportRemovals]
  | cons a l ih => simp [State.reportRemovals, ih]

@[simp] theorem State.ageView_fields :
    (s.ageView).lif.receiver = s.lif.receiver ∧ (s.ageView).lif.beaconTimer = s.lif.beaconTimer ∧
      (s.ageView).lif.clash = s.lif.clash ∧ (s.ageView).plu.windowOpen = s.plu.windowOpen ∧
      (s.ageView).plu.windowTimer = s.plu.windowTimer ∧ (s.ageView).plu.activeProfile = s.plu.activeProfile ∧
      (s.ageView).plu.flags = s.plu.flags ∧ (s.ageView).rsq.tag = s.rsq.tag ∧
      (s.ageView).rsq.askWait = s.rsq.askWait ∧ (s.ageView).rsq.backoff = s.rsq.backoff ∧
      (s.ageView).rsq.drainStep = s.rsq.drainStep ∧ (s.ageView).rsq.darkGiven = s.rsq.darkGiven ∧
      (s.ageView).rsq.omissions = s.rsq.omissions ∧ (s.ageView).rsq.noCover = s.rsq.noCover ∧
      (s.ageView).rsq.settleCount = s.rsq.settleCount ∧ (s.ageView).rsq.doze = s.rsq.doze ∧
      (s.ageView).rsq.restClock.measured = s.rsq.restClock.measured ∧ (s.ageView).rsq.restGuard = s.rsq.restGuard ∧
      (s.ageView).rsq.recentRecall = s.rsq.recentRecall ∧ (s.ageView).cvu.recallGuard = s.cvu.recallGuard := by
  unfold State.ageView
  simp

@[simp] theorem State.handOn_fields (b : Heard) :
    (s.handOn b).lif.receiver = s.lif.receiver ∧ (s.handOn b).lif.beaconTimer = s.lif.beaconTimer ∧
      (s.handOn b).lif.clash = s.lif.clash ∧ (s.handOn b).plu.windowOpen = s.plu.windowOpen ∧
      (s.handOn b).plu.windowTimer = s.plu.windowTimer ∧ (s.handOn b).plu.activeProfile = s.plu.activeProfile ∧
      (s.handOn b).plu.flags = s.plu.flags ∧ (s.handOn b).rsq.tag = s.rsq.tag ∧
      (s.handOn b).rsq.askWait = s.rsq.askWait ∧ (s.handOn b).rsq.backoff = s.rsq.backoff ∧
      (s.handOn b).rsq.drainStep = s.rsq.drainStep ∧ (s.handOn b).rsq.darkGiven = s.rsq.darkGiven ∧
      (s.handOn b).rsq.noCover = s.rsq.noCover ∧ (s.handOn b).rsq.settleCount = s.rsq.settleCount ∧
      (s.handOn b).rsq.doze = s.rsq.doze ∧ (s.handOn b).rsq.restClock.measured = s.rsq.restClock.measured ∧
      (s.handOn b).rsq.restGuard = s.rsq.restGuard ∧ (s.handOn b).rsq.recentRecall = s.rsq.recentRecall := by
  unfold State.handOn
  simp

@[simp] theorem State.stored_fields (v : PeerView) (b : Heard) :
    (s.stored v b).lif.receiver = s.lif.receiver ∧ (s.stored v b).lif.beaconTimer = s.lif.beaconTimer ∧
      (s.stored v b).lif.clash = s.lif.clash ∧ (s.stored v b).plu.windowOpen = s.plu.windowOpen ∧
      (s.stored v b).plu.windowTimer = s.plu.windowTimer ∧ (s.stored v b).plu.activeProfile = s.plu.activeProfile ∧
      (s.stored v b).plu.flags = s.plu.flags ∧ (s.stored v b).rsq.tag = s.rsq.tag ∧
      (s.stored v b).rsq.askWait = s.rsq.askWait ∧ (s.stored v b).rsq.backoff = s.rsq.backoff ∧
      (s.stored v b).rsq.drainStep = s.rsq.drainStep ∧ (s.stored v b).rsq.darkGiven = s.rsq.darkGiven ∧
      (s.stored v b).rsq.noCover = s.rsq.noCover ∧ (s.stored v b).rsq.settleCount = s.rsq.settleCount ∧
      (s.stored v b).rsq.doze = s.rsq.doze ∧ (s.stored v b).rsq.restClock.measured = s.rsq.restClock.measured ∧
      (s.stored v b).rsq.restGuard = s.rsq.restGuard ∧ (s.stored v b).rsq.recentRecall = s.rsq.recentRecall := by
  unfold State.stored
  simp

@[simp] theorem State.storeBeacon_fields (b : Heard) :
    (s.storeBeacon b).lif.receiver = s.lif.receiver ∧ (s.storeBeacon b).lif.beaconTimer = s.lif.beaconTimer ∧
      (s.storeBeacon b).lif.clash = s.lif.clash ∧ (s.storeBeacon b).plu.windowOpen = s.plu.windowOpen ∧
      (s.storeBeacon b).plu.windowTimer = s.plu.windowTimer ∧
      (s.storeBeacon b).plu.activeProfile = s.plu.activeProfile ∧ (s.storeBeacon b).plu.flags = s.plu.flags ∧
      (s.storeBeacon b).rsq.tag = s.rsq.tag ∧ (s.storeBeacon b).rsq.askWait = s.rsq.askWait ∧
      (s.storeBeacon b).rsq.backoff = s.rsq.backoff ∧ (s.storeBeacon b).rsq.drainStep = s.rsq.drainStep ∧
      (s.storeBeacon b).rsq.darkGiven = s.rsq.darkGiven ∧ (s.storeBeacon b).rsq.noCover = s.rsq.noCover ∧
      (s.storeBeacon b).rsq.settleCount = s.rsq.settleCount ∧ (s.storeBeacon b).rsq.doze = s.rsq.doze ∧
      (s.storeBeacon b).rsq.restClock.measured = s.rsq.restClock.measured ∧
      (s.storeBeacon b).rsq.restGuard = s.rsq.restGuard ∧
      (s.storeBeacon b).rsq.recentRecall = s.rsq.recentRecall := by
  unfold State.storeBeacon
  repeat' split
  all_goals simp

@[simp] theorem State.otherSector_fields (sender : Nat) :
    (s.otherSector sender).lif.receiver = s.lif.receiver ∧
      (s.otherSector sender).lif.beaconTimer = s.lif.beaconTimer ∧ (s.otherSector sender).lif.clash = s.lif.clash ∧
      (s.otherSector sender).plu.windowOpen = s.plu.windowOpen ∧
      (s.otherSector sender).plu.windowTimer = s.plu.windowTimer ∧
      (s.otherSector sender).plu.activeProfile = s.plu.activeProfile ∧
      (s.otherSector sender).plu.flags = s.plu.flags ∧ (s.otherSector sender).rsq.tag = s.rsq.tag ∧
      (s.otherSector sender).rsq.askWait = s.rsq.askWait ∧ (s.otherSector sender).rsq.backoff = s.rsq.backoff ∧
      (s.otherSector sender).rsq.drainStep = s.rsq.drainStep ∧
      (s.otherSector sender).rsq.darkGiven = s.rsq.darkGiven ∧
      (s.otherSector sender).rsq.omissions = s.rsq.omissions ∧ (s.otherSector sender).rsq.noCover = s.rsq.noCover ∧
      (s.otherSector sender).rsq.settleCount = s.rsq.settleCount ∧ (s.otherSector sender).rsq.doze = s.rsq.doze ∧
      (s.otherSector sender).rsq.restClock.measured = s.rsq.restClock.measured ∧
      (s.otherSector sender).rsq.restGuard = s.rsq.restGuard ∧
      (s.otherSector sender).rsq.recentRecall = s.rsq.recentRecall ∧
      (s.otherSector sender).cvu.recallGuard = s.cvu.recallGuard := by
  unfold State.otherSector
  repeat' split
  all_goals simp

@[simp] theorem State.hearBeacon_fields (sender : BitVec 6) (sector : BitVec 3) (b : BeaconFields) :
    (s.hearBeacon sender sector b).lif.receiver = s.lif.receiver ∧
      (s.hearBeacon sender sector b).lif.beaconTimer = s.lif.beaconTimer ∧
      (s.hearBeacon sender sector b).lif.clash = s.lif.clash ∧
      (s.hearBeacon sender sector b).plu.windowOpen = s.plu.windowOpen ∧
      (s.hearBeacon sender sector b).plu.windowTimer = s.plu.windowTimer ∧
      (s.hearBeacon sender sector b).plu.activeProfile = s.plu.activeProfile ∧
      (s.hearBeacon sender sector b).plu.flags = s.plu.flags ∧ (s.hearBeacon sender sector b).rsq.tag = s.rsq.tag ∧
      (s.hearBeacon sender sector b).rsq.askWait = s.rsq.askWait ∧
      (s.hearBeacon sender sector b).rsq.backoff = s.rsq.backoff ∧
      (s.hearBeacon sender sector b).rsq.drainStep = s.rsq.drainStep ∧
      (s.hearBeacon sender sector b).rsq.darkGiven = s.rsq.darkGiven ∧
      (s.hearBeacon sender sector b).rsq.noCover = s.rsq.noCover ∧
      (s.hearBeacon sender sector b).rsq.settleCount = s.rsq.settleCount ∧
      (s.hearBeacon sender sector b).rsq.doze = s.rsq.doze ∧
      (s.hearBeacon sender sector b).rsq.restClock.measured = s.rsq.restClock.measured ∧
      (s.hearBeacon sender sector b).rsq.restGuard = s.rsq.restGuard ∧
      (s.hearBeacon sender sector b).rsq.recentRecall = s.rsq.recentRecall := by
  unfold State.hearBeacon
  repeat' split
  all_goals simp

@[simp] theorem State.raiseClash_fields :
    (s.raiseClash).lif.receiver = s.lif.receiver ∧ (s.raiseClash).lif.beaconTimer = s.lif.beaconTimer ∧
      (s.raiseClash).plu.windowOpen = s.plu.windowOpen ∧ (s.raiseClash).plu.windowTimer = s.plu.windowTimer ∧
      (s.raiseClash).plu.activeProfile = s.plu.activeProfile ∧ (s.raiseClash).plu.flags = s.plu.flags ∧
      (s.raiseClash).rsq.tag = s.rsq.tag ∧ (s.raiseClash).rsq.backoff = s.rsq.backoff ∧
      (s.raiseClash).rsq.drainStep = s.rsq.drainStep ∧ (s.raiseClash).rsq.darkGiven = s.rsq.darkGiven ∧
      (s.raiseClash).rsq.omissions = s.rsq.omissions ∧ (s.raiseClash).rsq.noCover = s.rsq.noCover ∧
      (s.raiseClash).rsq.settleCount = s.rsq.settleCount ∧ (s.raiseClash).rsq.doze = s.rsq.doze ∧
      (s.raiseClash).rsq.restClock.measured = s.rsq.restClock.measured ∧
      (s.raiseClash).rsq.restGuard = s.rsq.restGuard ∧ (s.raiseClash).rsq.recentRecall = s.rsq.recentRecall ∧
      (s.raiseClash).cvu.recallGuard = s.cvu.recallGuard := by
  unfold State.raiseClash
  repeat' split
  all_goals simp

@[simp] theorem State.takeClash_fields :
    (s.takeClash).lif.receiver = s.lif.receiver ∧ (s.takeClash).lif.beaconTimer = s.lif.beaconTimer ∧
      (s.takeClash).plu.windowOpen = s.plu.windowOpen ∧ (s.takeClash).plu.windowTimer = s.plu.windowTimer ∧
      (s.takeClash).plu.activeProfile = s.plu.activeProfile ∧ (s.takeClash).plu.flags = s.plu.flags ∧
      (s.takeClash).rsq.tag = s.rsq.tag ∧ (s.takeClash).rsq.backoff = s.rsq.backoff ∧
      (s.takeClash).rsq.drainStep = s.rsq.drainStep ∧ (s.takeClash).rsq.darkGiven = s.rsq.darkGiven ∧
      (s.takeClash).rsq.omissions = s.rsq.omissions ∧ (s.takeClash).rsq.noCover = s.rsq.noCover ∧
      (s.takeClash).rsq.settleCount = s.rsq.settleCount ∧ (s.takeClash).rsq.doze = s.rsq.doze ∧
      (s.takeClash).rsq.restClock.measured = s.rsq.restClock.measured ∧
      (s.takeClash).rsq.restGuard = s.rsq.restGuard ∧ (s.takeClash).rsq.recentRecall = s.rsq.recentRecall ∧
      (s.takeClash).cvu.recallGuard = s.cvu.recallGuard := by
  unfold State.takeClash
  simp

@[simp] theorem State.answerLateGrant_fields (sender : Nat) (tag : BitVec 8) :
    (s.answerLateGrant sender tag).lif.receiver = s.lif.receiver ∧
      (s.answerLateGrant sender tag).lif.beaconTimer = s.lif.beaconTimer ∧
      (s.answerLateGrant sender tag).lif.clash = s.lif.clash := by
  unfold State.answerLateGrant
  simp

@[simp] theorem State.takeGrant_fields (sender : BitVec 6) (tag : BitVec 8) :
    (s.takeGrant sender tag).lif.receiver = s.lif.receiver ∧
      (s.takeGrant sender tag).lif.beaconTimer = s.lif.beaconTimer ∧
      (s.takeGrant sender tag).lif.clash = s.lif.clash ∧ (s.takeGrant sender tag).plu.windowOpen = s.plu.windowOpen ∧
      (s.takeGrant sender tag).plu.windowTimer = s.plu.windowTimer ∧
      (s.takeGrant sender tag).plu.activeProfile = s.plu.activeProfile ∧
      (s.takeGrant sender tag).plu.flags = s.plu.flags ∧ (s.takeGrant sender tag).rsq.tag = s.rsq.tag ∧
      (s.takeGrant sender tag).rsq.backoff = s.rsq.backoff ∧
      (s.takeGrant sender tag).rsq.darkGiven = s.rsq.darkGiven ∧
      (s.takeGrant sender tag).rsq.noCover = s.rsq.noCover ∧
      (s.takeGrant sender tag).rsq.settleCount = s.rsq.settleCount ∧ (s.takeGrant sender tag).rsq.doze = s.rsq.doze ∧
      (s.takeGrant sender tag).rsq.restClock.measured = s.rsq.restClock.measured ∧
      (s.takeGrant sender tag).rsq.restGuard = s.rsq.restGuard ∧
      (s.takeGrant sender tag).rsq.recentRecall = s.rsq.recentRecall := by
  unfold State.takeGrant
  repeat' split
  all_goals simp

@[simp] theorem State.takeDeny_fields (sender : Nat) (tag : BitVec 8) (reason : Byte) :
    (s.takeDeny sender tag reason).rsq.tag = s.rsq.tag ∧
      (s.takeDeny sender tag reason).rsq.drainTimer = s.rsq.drainTimer ∧
      (s.takeDeny sender tag reason).rsq.drainStep = s.rsq.drainStep ∧
      (s.takeDeny sender tag reason).rsq.darkGiven = s.rsq.darkGiven ∧
      (s.takeDeny sender tag reason).rsq.wakeCause = s.rsq.wakeCause ∧
      (s.takeDeny sender tag reason).rsq.omissions = s.rsq.omissions ∧
      (s.takeDeny sender tag reason).rsq.restGuard = s.rsq.restGuard ∧
      (s.takeDeny sender tag reason).rsq.recentRecall = s.rsq.recentRecall ∧
      (s.takeDeny sender tag reason).rsq.noCover = s.rsq.noCover ∧
      (s.takeDeny sender tag reason).rsq.restClock.mode = s.rsq.restClock.mode ∧
      (s.takeDeny sender tag reason).rsq.restClock.measured = s.rsq.restClock.measured ∧
      (s.takeDeny sender tag reason).rsq.settleCount = s.rsq.settleCount ∧
      (s.takeDeny sender tag reason).rsq.settled = s.rsq.settled ∧
      (s.takeDeny sender tag reason).rsq.unsettled = s.rsq.unsettled ∧
      (s.takeDeny sender tag reason).rsq.doze = s.rsq.doze ∧
      (s.takeDeny sender tag reason).pvt.pointer = s.pvt.pointer ∧
      (s.takeDeny sender tag reason).pvt.viewFull = s.pvt.viewFull ∧
      (s.takeDeny sender tag reason).pvt.isolated = s.pvt.isolated := by
  unfold State.takeDeny
  repeat' split
  all_goals simp

@[simp] theorem State.answerRecall_fields (sender : Nat) (tag : BitVec 8) :
    (s.answerRecall sender tag).lif.receiver = s.lif.receiver ∧
      (s.answerRecall sender tag).lif.beaconTimer = s.lif.beaconTimer ∧
      (s.answerRecall sender tag).lif.clash = s.lif.clash := by
  unfold State.answerRecall
  simp

@[simp] theorem State.takeRecall_fields (sender : BitVec 6) (tag : BitVec 8) :
    (s.takeRecall sender tag).lif.receiver = s.lif.receiver ∧
      (s.takeRecall sender tag).lif.beaconTimer = s.lif.beaconTimer ∧
      (s.takeRecall sender tag).lif.clash = s.lif.clash ∧
      (s.takeRecall sender tag).plu.windowOpen = s.plu.windowOpen ∧
      (s.takeRecall sender tag).plu.windowTimer = s.plu.windowTimer ∧
      (s.takeRecall sender tag).plu.activeProfile = s.plu.activeProfile ∧
      (s.takeRecall sender tag).plu.flags = s.plu.flags ∧ (s.takeRecall sender tag).rsq.tag = s.rsq.tag ∧
      (s.takeRecall sender tag).rsq.askWait = s.rsq.askWait ∧ (s.takeRecall sender tag).rsq.backoff = s.rsq.backoff ∧
      (s.takeRecall sender tag).rsq.drainStep = s.rsq.drainStep ∧
      (s.takeRecall sender tag).rsq.darkGiven = s.rsq.darkGiven ∧
      (s.takeRecall sender tag).rsq.omissions = s.rsq.omissions ∧
      (s.takeRecall sender tag).rsq.noCover = s.rsq.noCover ∧
      (s.takeRecall sender tag).rsq.settleCount = s.rsq.settleCount ∧
      (s.takeRecall sender tag).rsq.doze = s.rsq.doze ∧
      (s.takeRecall sender tag).rsq.restClock.measured = s.rsq.restClock.measured := by
  unfold State.takeRecall
  dsimp only
  repeat' split
  all_goals simp

@[simp] theorem State.takeAsk_fields (sender : BitVec 6) (sector : BitVec 3) (tag : BitVec 8) (amount : BitVec 16) :
    (s.takeAsk sender sector tag amount).lif.receiver = s.lif.receiver ∧
      (s.takeAsk sender sector tag amount).lif.beaconTimer = s.lif.beaconTimer ∧
      (s.takeAsk sender sector tag amount).lif.clash = s.lif.clash ∧
      (s.takeAsk sender sector tag amount).cvu.recallGuard = s.cvu.recallGuard := by
  unfold State.takeAsk
  repeat' split
  all_goals simp

@[simp] theorem State.openWindow_fields (minutes : Nat) :
    (s.openWindow minutes).plu.activeProfile = s.plu.activeProfile ∧ (s.openWindow minutes).plu.flags = s.plu.flags ∧
      (s.openWindow minutes).plu.hold = s.plu.hold ∧ (s.openWindow minutes).plu.rouse = s.plu.rouse ∧
      (s.openWindow minutes).pvt.pointer = s.pvt.pointer ∧ (s.openWindow minutes).pvt.viewFull = s.pvt.viewFull ∧
      (s.openWindow minutes).pvt.isolated = s.pvt.isolated := by
  unfold State.openWindow
  dsimp only
  repeat' split
  all_goals simp

@[simp] theorem State.closeWindow_fields (counted : Counter) :
    (s.closeWindow counted).lif.receiver = s.lif.receiver ∧
      (s.closeWindow counted).lif.beaconTimer = s.lif.beaconTimer ∧ (s.closeWindow counted).lif.clash = s.lif.clash ∧
      (s.closeWindow counted).plu.activeProfile = s.plu.activeProfile ∧
      (s.closeWindow counted).plu.flags = s.plu.flags ∧ (s.closeWindow counted).rsq.tag = s.rsq.tag ∧
      (s.closeWindow counted).rsq.backoff = s.rsq.backoff ∧ (s.closeWindow counted).rsq.drainStep = s.rsq.drainStep ∧
      (s.closeWindow counted).rsq.darkGiven = s.rsq.darkGiven ∧
      (s.closeWindow counted).rsq.omissions = s.rsq.omissions ∧ (s.closeWindow counted).rsq.noCover = s.rsq.noCover ∧
      (s.closeWindow counted).rsq.settleCount = s.rsq.settleCount ∧ (s.closeWindow counted).rsq.doze = s.rsq.doze ∧
      (s.closeWindow counted).rsq.restClock.measured = s.rsq.restClock.measured ∧
      (s.closeWindow counted).rsq.restGuard = s.rsq.restGuard ∧
      (s.closeWindow counted).rsq.recentRecall = s.rsq.recentRecall ∧
      (s.closeWindow counted).cvu.recallGuard = s.cvu.recallGuard := by
  unfold State.closeWindow
  simp

@[simp] theorem State.takeClose_fields :
    (s.takeClose).lif.receiver = s.lif.receiver ∧ (s.takeClose).lif.beaconTimer = s.lif.beaconTimer ∧
      (s.takeClose).lif.clash = s.lif.clash ∧ (s.takeClose).plu.activeProfile = s.plu.activeProfile ∧
      (s.takeClose).plu.flags = s.plu.flags ∧ (s.takeClose).rsq.tag = s.rsq.tag ∧
      (s.takeClose).rsq.backoff = s.rsq.backoff ∧ (s.takeClose).rsq.drainStep = s.rsq.drainStep ∧
      (s.takeClose).rsq.darkGiven = s.rsq.darkGiven ∧ (s.takeClose).rsq.omissions = s.rsq.omissions ∧
      (s.takeClose).rsq.noCover = s.rsq.noCover ∧ (s.takeClose).rsq.settleCount = s.rsq.settleCount ∧
      (s.takeClose).rsq.doze = s.rsq.doze ∧ (s.takeClose).rsq.restClock.measured = s.rsq.restClock.measured ∧
      (s.takeClose).rsq.restGuard = s.rsq.restGuard ∧ (s.takeClose).rsq.recentRecall = s.rsq.recentRecall ∧
      (s.takeClose).cvu.recallGuard = s.cvu.recallGuard := by
  unfold State.takeClose
  simp only [doWhen]
  repeat' split
  all_goals simp

@[simp] theorem State.changeProfile_fields (number : BitVec 2) :
    (s.changeProfile number).lif.receiver = s.lif.receiver ∧
      (s.changeProfile number).lif.beaconTimer = s.lif.beaconTimer ∧
      (s.changeProfile number).lif.clash = s.lif.clash ∧ (s.changeProfile number).plu.windowOpen = s.plu.windowOpen ∧
      (s.changeProfile number).plu.windowTimer = s.plu.windowTimer ∧
      (s.changeProfile number).plu.flags = s.plu.flags ∧ (s.changeProfile number).rsq.tag = s.rsq.tag ∧
      (s.changeProfile number).rsq.askWait = s.rsq.askWait ∧ (s.changeProfile number).rsq.backoff = s.rsq.backoff ∧
      (s.changeProfile number).rsq.drainStep = s.rsq.drainStep ∧
      (s.changeProfile number).rsq.darkGiven = s.rsq.darkGiven ∧
      (s.changeProfile number).rsq.omissions = s.rsq.omissions ∧
      (s.changeProfile number).rsq.noCover = s.rsq.noCover ∧
      (s.changeProfile number).rsq.settleCount = s.rsq.settleCount ∧ (s.changeProfile number).rsq.doze = s.rsq.doze ∧
      (s.changeProfile number).rsq.restClock.measured = s.rsq.restClock.measured ∧
      (s.changeProfile number).rsq.restGuard = s.rsq.restGuard ∧
      (s.changeProfile number).rsq.recentRecall = s.rsq.recentRecall ∧
      (s.changeProfile number).lde.state = s.lde.state ∧ (s.changeProfile number).lde.demand = s.lde.demand ∧
      (s.changeProfile number).lde.level = s.lde.level ∧
      (s.changeProfile number).lde.lastUtilisation = s.lde.lastUtilisation ∧
      (s.changeProfile number).lde.lastUsers = s.lde.lastUsers ∧
      (s.changeProfile number).lde.lastDemand = s.lde.lastDemand ∧
      (s.changeProfile number).lde.lastUsed = s.lde.lastUsed ∧
      (s.changeProfile number).lde.linkLost = s.lde.linkLost := by
  unfold State.changeProfile
  simp

@[simp] theorem State.takeProfile_fields (number : Byte) :
    (s.takeProfile number).lif.receiver = s.lif.receiver ∧
      (s.takeProfile number).lif.beaconTimer = s.lif.beaconTimer ∧ (s.takeProfile number).lif.clash = s.lif.clash ∧
      (s.takeProfile number).plu.windowOpen = s.plu.windowOpen ∧
      (s.takeProfile number).plu.windowTimer = s.plu.windowTimer ∧ (s.takeProfile number).plu.flags = s.plu.flags ∧
      (s.takeProfile number).rsq.tag = s.rsq.tag ∧ (s.takeProfile number).rsq.askWait = s.rsq.askWait ∧
      (s.takeProfile number).rsq.backoff = s.rsq.backoff ∧ (s.takeProfile number).rsq.drainStep = s.rsq.drainStep ∧
      (s.takeProfile number).rsq.darkGiven = s.rsq.darkGiven ∧
      (s.takeProfile number).rsq.omissions = s.rsq.omissions ∧ (s.takeProfile number).rsq.noCover = s.rsq.noCover ∧
      (s.takeProfile number).rsq.settleCount = s.rsq.settleCount ∧ (s.takeProfile number).rsq.doze = s.rsq.doze ∧
      (s.takeProfile number).rsq.restClock.measured = s.rsq.restClock.measured ∧
      (s.takeProfile number).rsq.restGuard = s.rsq.restGuard ∧
      (s.takeProfile number).rsq.recentRecall = s.rsq.recentRecall ∧ (s.takeProfile number).lde.state = s.lde.state ∧
      (s.takeProfile number).lde.demand = s.lde.demand ∧ (s.takeProfile number).lde.level = s.lde.level ∧
      (s.takeProfile number).lde.lastUtilisation = s.lde.lastUtilisation ∧
      (s.takeProfile number).lde.lastUsers = s.lde.lastUsers ∧
      (s.takeProfile number).lde.lastDemand = s.lde.lastDemand ∧
      (s.takeProfile number).lde.lastUsed = s.lde.lastUsed ∧
      (s.takeProfile number).lde.linkLost = s.lde.linkLost := by
  unfold State.takeProfile
  dsimp only
  repeat' split
  all_goals simp

@[simp] theorem State.takeFlags_fields (actions : FlagActions) :
    (s.takeFlags actions).lif.receiver = s.lif.receiver ∧ (s.takeFlags actions).lif.beaconTimer = s.lif.beaconTimer ∧
      (s.takeFlags actions).lif.clash = s.lif.clash ∧ (s.takeFlags actions).plu.windowOpen = s.plu.windowOpen ∧
      (s.takeFlags actions).plu.windowTimer = s.plu.windowTimer ∧
      (s.takeFlags actions).plu.activeProfile = s.plu.activeProfile ∧ (s.takeFlags actions).rsq.tag = s.rsq.tag ∧
      (s.takeFlags actions).rsq.askWait = s.rsq.askWait ∧ (s.takeFlags actions).rsq.backoff = s.rsq.backoff ∧
      (s.takeFlags actions).rsq.drainStep = s.rsq.drainStep ∧ (s.takeFlags actions).rsq.darkGiven = s.rsq.darkGiven ∧
      (s.takeFlags actions).rsq.omissions = s.rsq.omissions ∧ (s.takeFlags actions).rsq.noCover = s.rsq.noCover ∧
      (s.takeFlags actions).rsq.settleCount = s.rsq.settleCount ∧ (s.takeFlags actions).rsq.doze = s.rsq.doze ∧
      (s.takeFlags actions).rsq.restClock.measured = s.rsq.restClock.measured ∧
      (s.takeFlags actions).rsq.restGuard = s.rsq.restGuard ∧
      (s.takeFlags actions).rsq.recentRecall = s.rsq.recentRecall := by
  unfold State.takeFlags
  simp

@[simp] theorem State.queueReply_fields (r : Reply) :
    (s.queueReply r).clp.link = s.clp.link ∧ (s.queueReply r).clp.watch = s.clp.watch ∧
      (s.queueReply r).clp.lastCondition = s.clp.lastCondition ∧
      (s.queueReply r).clp.carrierFault = s.clp.carrierFault ∧
      (s.queueReply r).clp.currentOrder = s.clp.currentOrder := by
  unfold State.queueReply
  repeat' split
  all_goals simp

@[simp] theorem State.replyToSample_fields :
    (s.replyToSample).clp.link = s.clp.link ∧ (s.replyToSample).clp.watch = s.clp.watch ∧
      (s.replyToSample).clp.lastCondition = s.clp.lastCondition ∧
      (s.replyToSample).clp.carrierFault = s.clp.carrierFault := by
  unfold State.replyToSample
  simp

@[simp] theorem State.portStage_fields (condition : CarrierCondition) :
    (s.portStage condition).lif.receiver = s.lif.receiver ∧
      (s.portStage condition).lif.beaconTimer = s.lif.beaconTimer ∧ (s.portStage condition).lif.clash = s.lif.clash ∧
      (s.portStage condition).plu.windowOpen = s.plu.windowOpen ∧
      (s.portStage condition).plu.windowTimer = s.plu.windowTimer ∧
      (s.portStage condition).plu.activeProfile = s.plu.activeProfile ∧
      (s.portStage condition).plu.flags = s.plu.flags ∧ (s.portStage condition).rsq.tag = s.rsq.tag ∧
      (s.portStage condition).rsq.askWait = s.rsq.askWait ∧ (s.portStage condition).rsq.backoff = s.rsq.backoff ∧
      (s.portStage condition).rsq.drainStep = s.rsq.drainStep ∧
      (s.portStage condition).rsq.darkGiven = s.rsq.darkGiven ∧
      (s.portStage condition).rsq.omissions = s.rsq.omissions ∧ (s.portStage condition).rsq.noCover = s.rsq.noCover ∧
      (s.portStage condition).rsq.settleCount = s.rsq.settleCount ∧ (s.portStage condition).rsq.doze = s.rsq.doze ∧
      (s.portStage condition).rsq.restClock.measured = s.rsq.restClock.measured ∧
      (s.portStage condition).rsq.restGuard = s.rsq.restGuard ∧
      (s.portStage condition).rsq.recentRecall = s.rsq.recentRecall ∧
      (s.portStage condition).lde.state = s.lde.state ∧ (s.portStage condition).lde.demand = s.lde.demand ∧
      (s.portStage condition).lde.level = s.lde.level ∧
      (s.portStage condition).lde.lastUtilisation = s.lde.lastUtilisation ∧
      (s.portStage condition).lde.lastUsers = s.lde.lastUsers ∧
      (s.portStage condition).lde.lastDemand = s.lde.lastDemand ∧ (s.portStage condition).lde.quiet = s.lde.quiet ∧
      (s.portStage condition).lde.lastUsed = s.lde.lastUsed ∧
      (s.portStage condition).clp.currentOrder = s.clp.currentOrder ∧
      (s.portStage condition).clp.backlog = s.clp.backlog := by
  unfold State.portStage
  dsimp only
  repeat' split
  all_goals simp

@[simp] theorem State.eligibilityStage_fields (arrivedAwake : Bool) :
    (s.eligibilityStage arrivedAwake).lif.receiver = s.lif.receiver ∧
      (s.eligibilityStage arrivedAwake).lif.beaconTimer = s.lif.beaconTimer ∧
      (s.eligibilityStage arrivedAwake).lif.clash = s.lif.clash ∧
      (s.eligibilityStage arrivedAwake).plu.windowOpen = s.plu.windowOpen ∧
      (s.eligibilityStage arrivedAwake).plu.windowTimer = s.plu.windowTimer ∧
      (s.eligibilityStage arrivedAwake).plu.activeProfile = s.plu.activeProfile ∧
      (s.eligibilityStage arrivedAwake).plu.flags = s.plu.flags ∧
      (s.eligibilityStage arrivedAwake).rsq.backoff = s.rsq.backoff ∧
      (s.eligibilityStage arrivedAwake).rsq.drainStep = s.rsq.drainStep ∧
      (s.eligibilityStage arrivedAwake).rsq.darkGiven = s.rsq.darkGiven ∧
      (s.eligibilityStage arrivedAwake).rsq.omissions = s.rsq.omissions ∧
      (s.eligibilityStage arrivedAwake).rsq.settleCount = s.rsq.settleCount ∧
      (s.eligibilityStage arrivedAwake).rsq.doze = s.rsq.doze ∧
      (s.eligibilityStage arrivedAwake).rsq.restClock.measured = s.rsq.restClock.measured ∧
      (s.eligibilityStage arrivedAwake).rsq.restGuard = s.rsq.restGuard ∧
      (s.eligibilityStage arrivedAwake).rsq.recentRecall = s.rsq.recentRecall ∧
      (s.eligibilityStage arrivedAwake).lde.state = s.lde.state ∧
      (s.eligibilityStage arrivedAwake).lde.demand = s.lde.demand ∧
      (s.eligibilityStage arrivedAwake).lde.level = s.lde.level ∧
      (s.eligibilityStage arrivedAwake).lde.lastUtilisation = s.lde.lastUtilisation ∧
      (s.eligibilityStage arrivedAwake).lde.lastUsers = s.lde.lastUsers ∧
      (s.eligibilityStage arrivedAwake).lde.lastDemand = s.lde.lastDemand ∧
      (s.eligibilityStage arrivedAwake).lde.lastUsed = s.lde.lastUsed ∧
      (s.eligibilityStage arrivedAwake).lde.linkLost = s.lde.linkLost := by
  unfold State.eligibilityStage
  repeat' split
  all_goals simp

@[simp] theorem State.sampleStages_fields (u : BitVec 10) (n : BitVec 11) (condition : CarrierCondition) (arrivedAwake : Bool) :
    (s.sampleStages u n condition arrivedAwake).lif.receiver = s.lif.receiver ∧
      (s.sampleStages u n condition arrivedAwake).lif.beaconTimer = s.lif.beaconTimer ∧
      (s.sampleStages u n condition arrivedAwake).lif.clash = s.lif.clash ∧
      (s.sampleStages u n condition arrivedAwake).plu.windowOpen = s.plu.windowOpen ∧
      (s.sampleStages u n condition arrivedAwake).plu.windowTimer = s.plu.windowTimer ∧
      (s.sampleStages u n condition arrivedAwake).plu.activeProfile = s.plu.activeProfile ∧
      (s.sampleStages u n condition arrivedAwake).plu.flags = s.plu.flags ∧
      (s.sampleStages u n condition arrivedAwake).cvu.recallGuard = s.cvu.recallGuard ∧
      (s.sampleStages u n condition arrivedAwake).lde.linkLost = s.lde.linkLost ∧
      (s.sampleStages u n condition arrivedAwake).pvt.pointer = s.pvt.pointer ∧
      (s.sampleStages u n condition arrivedAwake).pvt.viewFull = s.pvt.viewFull ∧
      (s.sampleStages u n condition arrivedAwake).pvt.isolated = s.pvt.isolated := by
  unfold State.sampleStages
  repeat' split
  all_goals simp

@[simp] theorem State.loseLink_fields :
    (s.loseLink).lif.receiver = s.lif.receiver ∧ (s.loseLink).lif.beaconTimer = s.lif.beaconTimer ∧
      (s.loseLink).lif.clash = s.lif.clash ∧ (s.loseLink).plu.windowOpen = s.plu.windowOpen ∧
      (s.loseLink).plu.windowTimer = s.plu.windowTimer ∧ (s.loseLink).plu.activeProfile = s.plu.activeProfile ∧
      (s.loseLink).plu.flags = s.plu.flags ∧ (s.loseLink).rsq.tag = s.rsq.tag ∧
      (s.loseLink).rsq.backoff = s.rsq.backoff ∧ (s.loseLink).rsq.drainStep = s.rsq.drainStep ∧
      (s.loseLink).rsq.darkGiven = s.rsq.darkGiven ∧ (s.loseLink).rsq.omissions = s.rsq.omissions ∧
      (s.loseLink).rsq.noCover = s.rsq.noCover ∧ (s.loseLink).rsq.settleCount = s.rsq.settleCount ∧
      (s.loseLink).rsq.doze = s.rsq.doze ∧ (s.loseLink).rsq.restClock.measured = s.rsq.restClock.measured ∧
      (s.loseLink).rsq.restGuard = s.rsq.restGuard ∧ (s.loseLink).rsq.recentRecall = s.rsq.recentRecall ∧
      (s.loseLink).cvu.recallGuard = s.cvu.recallGuard ∧ (s.loseLink).lde.demand = s.lde.demand ∧
      (s.loseLink).lde.level = s.lde.level ∧ (s.loseLink).lde.lastUtilisation = s.lde.lastUtilisation ∧
      (s.loseLink).lde.lastUsers = s.lde.lastUsers ∧ (s.loseLink).lde.lastDemand = s.lde.lastDemand ∧
      (s.loseLink).lde.lastUsed = s.lde.lastUsed := by
  unfold State.loseLink
  dsimp only
  repeat' split
  all_goals simp

@[simp] theorem State.ignoreFrame_fields (f : Frame) :
    (s.ignoreFrame f).lif.receiver = s.lif.receiver ∧ (s.ignoreFrame f).lif.beaconTimer = s.lif.beaconTimer ∧
      (s.ignoreFrame f).plu.windowOpen = s.plu.windowOpen ∧ (s.ignoreFrame f).plu.windowTimer = s.plu.windowTimer ∧
      (s.ignoreFrame f).plu.activeProfile = s.plu.activeProfile ∧ (s.ignoreFrame f).plu.flags = s.plu.flags ∧
      (s.ignoreFrame f).rsq.tag = s.rsq.tag ∧ (s.ignoreFrame f).rsq.backoff = s.rsq.backoff ∧
      (s.ignoreFrame f).rsq.drainStep = s.rsq.drainStep ∧ (s.ignoreFrame f).rsq.darkGiven = s.rsq.darkGiven ∧
      (s.ignoreFrame f).rsq.omissions = s.rsq.omissions ∧ (s.ignoreFrame f).rsq.noCover = s.rsq.noCover ∧
      (s.ignoreFrame f).rsq.settleCount = s.rsq.settleCount ∧ (s.ignoreFrame f).rsq.doze = s.rsq.doze ∧
      (s.ignoreFrame f).rsq.restClock.measured = s.rsq.restClock.measured ∧
      (s.ignoreFrame f).rsq.restGuard = s.rsq.restGuard ∧ (s.ignoreFrame f).rsq.recentRecall = s.rsq.recentRecall ∧
      (s.ignoreFrame f).cvu.recallGuard = s.cvu.recallGuard := by
  unfold State.ignoreFrame
  repeat' split
  all_goals simp

@[simp] theorem State.nextBeacon_fields :
    (s.nextBeacon).lif.receiver = s.lif.receiver ∧ (s.nextBeacon).lif.clash = s.lif.clash ∧
      (s.nextBeacon).lif.queue = s.lif.queue := by
  unfold State.nextBeacon
  simp

@[simp] theorem State.beaconTimeWork_fields :
    (s.beaconTimeWork).lif.receiver = s.lif.receiver ∧ (s.beaconTimeWork).lif.clash = s.lif.clash ∧
      (s.beaconTimeWork).plu.windowOpen = s.plu.windowOpen ∧ (s.beaconTimeWork).plu.windowTimer = s.plu.windowTimer ∧
      (s.beaconTimeWork).plu.activeProfile = s.plu.activeProfile ∧ (s.beaconTimeWork).plu.flags = s.plu.flags ∧
      (s.beaconTimeWork).rsq.tag = s.rsq.tag ∧ (s.beaconTimeWork).rsq.askWait = s.rsq.askWait ∧
      (s.beaconTimeWork).rsq.backoff = s.rsq.backoff ∧ (s.beaconTimeWork).rsq.drainStep = s.rsq.drainStep ∧
      (s.beaconTimeWork).rsq.omissions = s.rsq.omissions ∧ (s.beaconTimeWork).rsq.noCover = s.rsq.noCover ∧
      (s.beaconTimeWork).rsq.restClock.measured = s.rsq.restClock.measured ∧
      (s.beaconTimeWork).rsq.restGuard = s.rsq.restGuard ∧ (s.beaconTimeWork).rsq.recentRecall = s.rsq.recentRecall ∧
      (s.beaconTimeWork).cvu.recallGuard = s.cvu.recallGuard := by
  unfold State.beaconTimeWork
  simp

end Sys2Proof.Machine
end

