-- ==== Sys2Proof/Laws/Book.lean ====
section
/-! SUPPORT. The book of pledges: what each operation does to it, and that each keeps it as R24, R55 and R72 say. -/

namespace Sys2Proof.Machine

/-! ## Keeping the book -/

theorem BookKept.empty : BookKept [] where
  atMostSix := by decide
  oneEach := by simp
  oneCalled := by decide

/-- Removals keep the book (R75). -/
theorem BookKept.sublist {p q : List Pledge} (h : BookKept q) (sub : p.Sublist q) : BookKept p where
  atMostSix := sub.length_le.trans h.atMostSix
  oneEach := h.oneEach.sublist (sub.map _)
  oneCalled := (sub.filter _).length_le.trans h.oneCalled

/-- A change of pledges that leaves their leaners and calls none keeps the book. -/
theorem BookKept.map {f : Pledge → Pledge} {q : List Pledge} (h : BookKept q) (leaner : ∀ p, (f p).leaner = p.leaner)
    (called : ∀ p, (f p).state = .called → p.state = .called) : BookKept (q.map f) where
  atMostSix := by simpa using h.atMostSix
  oneEach := by
    have : ((·.leaner) : Pledge → Nat) ∘ f = (·.leaner) := funext leaner
    rw [List.map_map, this]
    exact h.oneEach
  oneCalled := by
    rw [List.filter_map, List.length_map]
    refine le_trans ?_ h.oneCalled
    rw [← List.countP_eq_length_filter, ← List.countP_eq_length_filter]
    exact List.countP_mono_left fun p _ is => by simpa using called p (by simpa using is)

/-- A change of one leaner's pledge that leaves its leaner and does not call it keeps the book. -/
theorem BookKept.change {f : Pledge → Pledge} {q : List Pledge} (h : BookKept q) (station : Nat)
    (leaner : ∀ p, (f p).leaner = p.leaner) (called : ∀ p, (f p).state = .called → p.state = .called) :
    BookKept (changePledge station f q) :=
  h.map (fun p => by split <;> simp [leaner]) fun p => by
    split
    · exact called p
    · exact id

/-- A new pledge for an asker that holds none keeps the book, below 6 pledges (R55, R60). -/
theorem BookKept.grant {q : List Pledge} (h : BookKept q) {asker : Nat} (tag : BitVec 8) (amount : Nat)
    (room : q.length < 6) (new : ∀ p ∈ q, p.leaner ≠ asker) : BookKept (q ++ [newPledge asker tag amount]) where
  atMostSix := by simp; omega
  oneEach := by
    rw [List.map_append, List.pairwise_append]
    refine ⟨h.oneEach, by simp, fun n hn m hm => ?_⟩
    obtain ⟨p, hp, rfl⟩ := List.mem_map.mp hn
    simp only [List.map_cons, List.map_nil, List.mem_singleton] at hm
    subst hm
    exact new p hp
  oneCalled := by simpa [newPledge, List.filter_cons] using h.oneCalled

/-- Calling one leaner's pledge keeps the book while none is CALLED (R72). -/
theorem BookKept.call {f : Pledge → Pledge} {q : List Pledge} (h : BookKept q) (station : Nat)
    (leaner : ∀ p, (f p).leaner = p.leaner) (none : q.any (·.state == .called) = false) :
    BookKept (changePledge station f q) where
  atMostSix := by simpa [changePledge] using h.atMostSix
  oneEach := by
    have : ((·.leaner) : Pledge → Nat) ∘ (fun p => if p.leaner = station then f p else p) = (·.leaner) := by
      funext p
      dsimp only [Function.comp_apply]
      split <;> simp [leaner]
    rw [changePledge, List.map_map, this]
    exact h.oneEach
  oneCalled := by
    rw [changePledge, List.filter_map, List.length_map]
    have once : (q.filter fun p => p.leaner == station).length ≤ 1 := by
      have := h.oneEach
      clear h none
      induction q with
      | nil => simp
      | cons p rest ih =>
        rw [List.map_cons, List.pairwise_cons] at this
        rw [List.filter_cons]
        split
        next is =>
          have later : rest.filter (fun p => p.leaner == station) = [] := by
            refine List.filter_eq_nil_iff.mpr fun g hg same => ?_
            refine this.1 g.leaner (List.mem_map_of_mem hg) ?_
            rw [beq_iff_eq.mp is, beq_iff_eq.mp same]
          simp [later]
        next => exact ih this.2
    refine le_trans ?_ once
    rw [← List.countP_eq_length_filter, ← List.countP_eq_length_filter]
    refine List.countP_mono_left fun p hp is => ?_
    rw [Function.comp_apply] at is
    split at is
    next same => simpa using same
    next => exact absurd is (List.any_eq_false.mp none p hp)

/-! ## The decay and what follows a leaner -/

/-- Decay touches the reserve alone (R24). -/
@[simp] theorem decayPledge_fields (shift : Nat) (p : Pledge) :
    (decayPledge shift p).leaner = p.leaner ∧ (decayPledge shift p).tag = p.tag ∧
      (decayPledge shift p).amount = p.amount ∧ (decayPledge shift p).state = p.state ∧
      (decayPledge shift p).depth = p.depth ∧ (decayPledge shift p).named = p.named ∧
      (decayPledge shift p).grantAge = p.grantAge ∧ (decayPledge shift p).attempts = p.attempts := by
  unfold decayPledge
  split <;> simp_all

/-- A decayed reserve is no larger (R24). -/
theorem decayPledge_reserve (shift : Nat) (p : Pledge) : (decayPledge shift p).reserve ≤ p.reserve := by
  unfold decayPledge
  split
  · exact le_rfl
  · exact Nat.sub_le _ _
  · exact Nat.sub_le _ _

/-- A leaner's beacon leaves the amount, the reserve and the call of its pledge (R63, R64). -/
@[simp] theorem followLeaner_fields (phase : Phase) (p : Pledge) :
    (followLeaner phase p).leaner = p.leaner ∧ (followLeaner phase p).tag = p.tag ∧
      (followLeaner phase p).amount = p.amount ∧ (followLeaner phase p).reserve = p.reserve ∧
      (followLeaner phase p).grantAge = p.grantAge ∧ (followLeaner phase p).attempts = p.attempts ∧
      ((followLeaner phase p).state = .called ↔ p.state = .called) := by
  unfold followLeaner
  split <;> simp_all

/-- Age touches the grant age alone (R65). -/
@[simp] theorem agePledge_fields (p : Pledge) :
    (agePledge p).leaner = p.leaner ∧ (agePledge p).tag = p.tag ∧ (agePledge p).amount = p.amount ∧
      (agePledge p).reserve = p.reserve ∧ (agePledge p).state = p.state ∧ (agePledge p).depth = p.depth ∧
      (agePledge p).named = p.named ∧ (agePledge p).attempts = p.attempts := by simp [agePledge]

theorem PledgeInRange.decay {p : Pledge} (h : PledgeInRange p) (shift : Nat) : PledgeInRange (decayPledge shift p) := by
  have := decayPledge_reserve shift p
  obtain ⟨low, high, reserve, carrier⟩ := h
  refine ⟨?_, ?_, ?_, ?_⟩ <;> simp <;> omega

theorem PledgeInRange.follow {p : Pledge} (h : PledgeInRange p) (phase : Phase) :
    PledgeInRange (followLeaner phase p) := by simpa [PledgeInRange] using h

theorem PledgeInRange.age {p : Pledge} (h : PledgeInRange p) : PledgeInRange (agePledge p) := by
  simpa [PledgeInRange] using h

theorem PledgeInRange.new {asker amount : Nat} (tag : BitVec 8) (h : 1 ≤ amount ∧ amount ≤ 4095) (carrier : asker ≤ 59) :
    PledgeInRange (newPledge asker tag amount) := ⟨h.1, h.2, le_rfl, carrier⟩

/-- The amount a cover takes is that of a pledge (R20). -/
theorem takenAmount_range (amount : BitVec 16) : 1 ≤ takenAmount amount ∧ takenAmount amount ≤ 4095 := by
  unfold takenAmount
  omega

/-! ## Choosing -/

/-- The pledge a recall takes is of the book, and not CALLED (R71). -/
theorem chooseRecall_mem {book : List Pledge} {p : Pledge} (h : chooseRecall book = some p) :
    p ∈ book ∧ p.state ≠ .called := by
  unfold chooseRecall at h
  cases first : book.reverse.find? (·.state == .granted) with
  | some q =>
    have test := List.find?_some first
    simp only [first, Option.orElse_some, Option.some.injEq] at h
    subst h
    exact ⟨List.mem_reverse.mp (List.mem_of_find?_eq_some first), fun is => by simp [is] at test⟩
  | none =>
    cases second : book.reverse.find? (fun p => p.state == .resting && p.depth == some .standby) with
    | some q =>
      have test := List.find?_some second
      simp only [first, second, Option.orElse_some, Option.orElse_none, Option.some.injEq] at h
      subst h
      exact ⟨List.mem_reverse.mp (List.mem_of_find?_eq_some second), fun is => by simp [is] at test⟩
    | none =>
      simp only [first, second, Option.orElse_none] at h
      have test := List.find?_some h
      exact ⟨List.mem_reverse.mp (List.mem_of_find?_eq_some h), fun is => by simp [is] at test⟩

/-- A pledge found for a leaner is of the book, and that leaner's. -/
theorem CoverUnit.pledgeOf_some {c : CoverUnit} {leaner : Nat} {p : Pledge} (h : c.pledgeOf leaner = some p) :
    p ∈ c.book ∧ p.leaner = leaner :=
  ⟨List.mem_of_find?_eq_some h, by simpa using List.find?_some h⟩

theorem CoverUnit.pledgeOf_none {c : CoverUnit} {leaner : Nat} (h : c.pledgeOf leaner = none) :
    ∀ p ∈ c.book, p.leaner ≠ leaner := fun p hp is => by simpa [is] using List.find?_eq_none.mp h p hp

theorem CoverUnit.called_none {c : CoverUnit} : c.called = none ↔ c.calling = false := by
  rw [CoverUnit.called, CoverUnit.calling, List.find?_eq_none, List.any_eq_false]

theorem CoverUnit.called_some {c : CoverUnit} {p : Pledge} (h : c.called = some p) :
    p ∈ c.book ∧ p.state = .called :=
  ⟨List.mem_of_find?_eq_some h, by simpa using List.find?_some h⟩

/-! ## Recalls and removals -/

/-- A RECALL leaves the book and runs the recall timer (R72). -/
@[simp] theorem State.sendRecall_cvu (p : Pledge) (s : State) :
    (s.sendRecall p).cvu = { s.cvu with recallTimer := some (s.clock + s.recallLength p.depth) } := by
  simp [State.sendRecall]

/-- A started recall calls the chosen pledge and runs the recall timer for its depth (R70 to R72). -/
theorem State.startRecall_cvu {s : State} {p : Pledge} (counted : Counter) (h : chooseRecall s.cvu.book = some p) :
    (s.startRecall counted).cvu =
      { s.cvu with
        book := changePledge p.leaner (fun p => { p with state := .called, attempts := 1 }) s.cvu.book
        recallTimer := some (s.clock + s.recallLength p.depth) } := by
  simp [State.startRecall, h, State.recallLength, State.beaconPeriod, State.image]

/-- With no pledge to choose, no recall starts. -/
theorem State.startRecall_none {s : State} (counted : Counter) (h : chooseRecall s.cvu.book = none) :
    s.startRecall counted = s := by
  rw [State.startRecall, h]

/-- A recall that starts while none is on keeps the book. -/
theorem BookKept.startRecall {s : State} (counted : Counter) (h : BookKept s.cvu.book) (none : s.cvu.calling = false) :
    BookKept (s.startRecall counted).cvu.book := by
  cases chosen : chooseRecall s.cvu.book with
  | none => rwa [State.startRecall_none counted chosen]
  | some p =>
    rw [State.startRecall_cvu counted chosen]
    exact h.call p.leaner (fun _ => rfl) none

/-- The continuous-recall check keeps the book (R70). -/
theorem BookKept.continuousCheck {s : State} (h : BookKept s.cvu.book) : BookKept s.continuousCheck.cvu.book := by
  unfold State.continuousCheck
  split
  next starts => exact h.startRecall _ starts.2.2
  next => exact h

/-- The overload test keeps the book (R68). -/
theorem BookKept.overloadTest {s : State} (h : BookKept s.cvu.book) : BookKept s.overloadTest.cvu.book := by
  unfold State.overloadTest
  split
  next starts => exact h.startRecall _ starts.2.2.1
  next => exact h

/-- The recall guard's start leaves the book. -/
@[simp] theorem State.startRecallGuard_book (s : State) : s.startRecallGuard.cvu.book = s.cvu.book := by
  unfold State.startRecallGuard
  split <;> rfl

/-- The end of a call keeps the book (R74). -/
theorem BookKept.endCall {s : State} (cause : RemovalCause) (h : BookKept s.cvu.book) :
    BookKept (s.endCall cause).cvu.book := by
  refine BookKept.continuousCheck ?_
  unfold doWhen
  split
  · simpa using h
  · simpa using h

/-- A removal keeps the book (R74, R75). -/
theorem BookKept.removePledge {s : State} (p : Pledge) (cause : RemovalCause) (h : BookKept s.cvu.book) :
    BookKept (s.removePledge p cause).cvu.book := by
  have left : BookKept (s.cvu.book.filter (·.leaner != p.leaner)) := h.sublist List.filter_sublist
  unfold State.removePledge doWhen
  split
  · refine BookKept.endCall cause ?_
    simpa using left
  · simpa using left

/-- The removal of a pledge that is not CALLED is the filter alone. -/
theorem State.removePledge_quiet {s : State} {p : Pledge} (cause : RemovalCause) (h : p.state ≠ .called) :
    (s.removePledge p cause).cvu = { s.cvu with book := s.cvu.book.filter (·.leaner != p.leaner) } := by
  have : (p.state == PledgeState.called) = false := by simpa using h
  simp [State.removePledge, doWhen, this]

/-- Stage 2 of a used sample keeps the book (R12, R24). -/
theorem BookKept.coverStage {s : State} (h : BookKept s.cvu.book) : BookKept s.coverStage.cvu.book := by
  have decayed : BookKept (s.cvu.book.map (decayPledge s.profile.shift)) :=
    h.map (fun p => by simp) fun p => by simp
  unfold State.coverStage
  dsimp only
  split
  · exact BookKept.continuousCheck decayed
  · exact BookKept.overloadTest decayed

end Sys2Proof.Machine
end

