-- ==== Sys2Proof/Laws/Commands.lean ====
section
/-! SUPPORT. A command as its time and its work: what passes with the time, when the work is done, and where the work of a
received frame and of an arrival begins (R110, R144 to R146, R166, R169; log 1, 2, 8). -/

namespace Sys2Proof.Machine

variable (s : State) (after : Micros)

/-! ## The time of a command -/

/-- Time passes: all but the clock, the rest clock and the seconds counters stays. -/
@[simp] theorem State.elapse_frame :
    (s.elapse after).held = s.held ∧ (s.elapse after).clock = s.clock + after ∧ (s.elapse after).pending = s.pending ∧
      (s.elapse after).lif = s.lif ∧ (s.elapse after).pvt = s.pvt ∧ (s.elapse after).lde = s.lde ∧
      (s.elapse after).cvu = s.cvu ∧ (s.elapse after).plu = s.plu ∧ (s.elapse after).clp = s.clp ∧
      (s.elapse after).cfl = s.cfl ∧
      (s.elapse after).rsq = { s.rsq with restClock := s.rsq.restClock.over after } ∧
      (s.elapse after).acc.counts = s.acc.counts := ⟨rfl, rfl, rfl, rfl, rfl, rfl, rfl, rfl, rfl, rfl, rfl, rfl⟩

@[simp] theorem State.count_elapse (c : Counter) : (s.elapse after).count c = s.count c := rfl

/-- Time moves what the rest clock measured, not whether it runs. -/
@[simp] theorem RestClock.over_mode (k : RestClock) (t : Micros) : (k.over t).mode = k.mode := by
  unfold RestClock.over
  split <;> rfl

/-- The readings that need only the blocks time leaves alone. -/
@[simp] theorem State.elapse_readings :
    (s.elapse after).own = s.own ∧ (s.elapse after).image = s.image ∧ (s.elapse after).profile = s.profile ∧
      (s.elapse after).beaconPeriod = s.beaconPeriod ∧ (s.elapse after).ceilingN = s.ceilingN ∧
      (s.elapse after).wakeLimitW = s.wakeLimitW ∧ (s.elapse after).committed = s.committed ∧
      (s.elapse after).room = s.room ∧ (s.elapse after).continuousRecall = s.continuousRecall ∧
      (s.elapse after).workingLevel = s.workingLevel ∧ (s.elapse after).composeBeacon = s.composeBeacon :=
  ⟨rfl, rfl, rfl, rfl, rfl, rfl, rfl, rfl, rfl, rfl, rfl⟩

/-- No condition is changed by time. -/
@[simp] theorem State.condition_elapse (code : BitVec 4) : (s.elapse after).condition code = s.condition code := rfl

/-! ## A command as time and work -/

variable (work : State → State)

/-- A command of a device out of reset: its work in the state its time leads to. -/
theorem State.event_live (h : s.held = false) : s.event after work = .next (work (s.elapse after)) := by
  simp [State.event, h]

/-- A command of a device held in reset: its time alone (log 8). -/
theorem State.event_held (h : s.held = true) : s.event after work = .next (s.elapse after) := by
  simp [State.event, h]

/-- Whatever a command's work keeps of a state, the command keeps of the state its time leads to. -/
theorem State.event_keeps {P : State → Prop} (time : P (s.elapse after)) (kept : P (work (s.elapse after))) {t : State}
    (h : s.event after work = .next t) : P t := by
  simp only [State.event, Host.Outcome.next.injEq] at h
  subst h
  split
  · exact time
  · exact kept

variable {s after work}

/-- The expiry of a timer that has run out does its work. -/
theorem State.expiring_due {timer : State → Timer} {expiry : Micros} (running : timer s = some expiry)
    (reached : expiry ≤ s.clock) : State.expiring timer work s = work s := by
  simp [State.expiring, running, Timer.due, reached]

/-- An expiry command while its timer is stopped, or before its expiry, does nothing (log 2). -/
theorem State.expiring_not (h : ∀ expiry, timer s = some expiry → s.clock < expiry) :
    State.expiring timer work s = s := by
  unfold State.expiring Timer.due
  cases ht : timer s with
  | none => simp
  | some expiry => simp [Nat.not_le.mpr (h expiry ht)]

/-- The expiry of a timer of the state before, once the command's time has passed. -/
theorem State.expiring_elapse {timer : State → Timer} (same : timer (s.elapse after) = timer s)
    (h : Expired (timer s) s after) : State.expiring timer work (s.elapse after) = work (s.elapse after) := by
  obtain ⟨expiry, running, reached⟩ := h
  exact State.expiring_due (same.trans running) reached

/-- A station that hears the line does the work of a received frame, its receiver then waiting (R144). -/
theorem State.receive_hears (h : Hears s) : State.receive work (s.elapse after) = work (s.heard after) := by
  have hears : (s.elapse after).canReceive = true := by
    simp [State.canReceive, h.phase, h.receiver, h.quiet]
  rw [State.receive, if_pos hears]
  rfl

/-- A station that cannot receive does nothing at a frame's end. -/
theorem State.receive_deaf (h : s.canReceive = false) : State.receive work s = s := by
  simp [State.receive, h]

/-- An arrival from another station, of a kind its sender may send, is counted and handed on (R146). -/
theorem State.arrive_other {sender : BitVec 6} {kind : Kind} (h : Hears s) (other : sender ≠ s.cfl.station)
    (allowed : maintenanceKind kind = true → fromMaintenance sender = true) :
    State.arrive sender kind work (s.elapse after) = work (s.arrived after kind) := by
  rw [State.arrive, State.receive_hears h]
  have : (maintenanceKind kind && !fromMaintenance sender) = false := by
    cases hk : maintenanceKind kind
    · rfl
    · simp [allowed hk]
  simp [this, State.arrived, State.heard, other]

/-- A notice that bears the own number is a clash frame (R145). -/
theorem State.arrive_own {kind : Kind} (h : Hears s) :
    State.arrive s.cfl.station kind work (s.elapse after) = (s.heard after).takeClash := by
  rw [State.arrive, State.receive_hears h]
  simp [State.heard]

/-- A command of an arrival, whole. -/
theorem State.event_arrive {sender : BitVec 6} {kind : Kind} (h : Hears s) (other : sender ≠ s.cfl.station)
    (allowed : maintenanceKind kind = true → fromMaintenance sender = true) :
    s.event after (State.arrive sender kind work) = .next (work (s.arrived after kind)) := by
  rw [State.event_live _ _ _ h.out, State.arrive_other h other allowed]

/-- What an arrival keeps: the work's own frame is over this state. -/
@[simp] theorem State.arrived_frame (k : Kind) :
    (s.arrived after k).held = s.held ∧ (s.arrived after k).clock = s.clock + after ∧
      (s.arrived after k).pending = s.pending ∧ (s.arrived after k).pvt = s.pvt ∧ (s.arrived after k).lde = s.lde ∧
      (s.arrived after k).cvu = s.cvu ∧ (s.arrived after k).plu = s.plu ∧ (s.arrived after k).clp = s.clp ∧
      (s.arrived after k).cfl = s.cfl ∧ (s.arrived after k).lif = { s.lif with receiver := .waiting } ∧
      (s.arrived after k).rsq = { s.rsq with restClock := s.rsq.restClock.over after } :=
  ⟨rfl, rfl, rfl, rfl, rfl, rfl, rfl, rfl, rfl, rfl, rfl⟩

/-- The counters at an arrival: the kind's own is raised (R146). -/
@[simp] theorem State.count_arrived (k : Kind) (c : Counter) :
    (s.arrived after k).count c =
      if c = .arrivals k then saturatingSucc Config.counterLimit (s.count c) else s.count c := by
  rw [State.arrived, State.count_bump]
  rfl

/-- An idle line ends the receiver's frame and raises the framing errors at most (R144): everything else is kept. -/
@[simp] theorem State.lineIdles_frame :
    s.lineIdles.held = s.held ∧ s.lineIdles.clock = s.clock ∧ s.lineIdles.pending = s.pending ∧
      s.lineIdles.pvt = s.pvt ∧ s.lineIdles.lde = s.lde ∧ s.lineIdles.cvu = s.cvu ∧ s.lineIdles.rsq = s.rsq ∧
      s.lineIdles.plu = s.plu ∧ s.lineIdles.clp = s.clp ∧ s.lineIdles.cfl = s.cfl ∧
      s.lineIdles.lif = { s.lif with receiver := .idle } := by
  unfold State.lineIdles doWhen
  split <;> exact ⟨rfl, rfl, rfl, rfl, rfl, rfl, rfl, rfl, rfl, rfl, rfl⟩

/-- The counters at an idle line: a frame cut short is one framing error (R144). -/
theorem State.count_lineIdles (c : Counter) :
    s.lineIdles.count c =
      if s.lif.receiver = .inFrame ∧ c = .framingErrors then saturatingSucc Config.counterLimit (s.count c)
      else s.count c := by
  unfold State.lineIdles doWhen
  by_cases cut : s.lif.receiver = .inFrame
  · rw [if_pos (by simp [cut]), State.count_bump]
    simp only [cut, true_and]
    rfl
  · rw [if_neg (by simp [cut]), if_neg (fun h => cut h.1)]
    rfl

/-- A notice whose mask includes the own sector is taken (R121). -/
theorem State.masked_in {mask : BitVec 8} (h : s.inMask mask = true) : State.masked mask work s = work s := by
  simp [State.masked, h]

/-- A notice masked out is counted and ignored (R121). -/
theorem State.masked_out {mask : BitVec 8} (h : s.inMask mask = false) :
    State.masked mask work s = s.bump .maskedOut := by
  simp [State.masked, h]

end Sys2Proof.Machine
end

