-- ==== Sys2Proof/Laws/Queue.lean ====
section
/-! SUPPORT. The outbound queue: joining, leaving and attempts, and that each keeps the queue as R141 says. -/

namespace Sys2Proof.Machine

/-! ## Joining -/

/-- Joining adds the entry and nothing else. -/
theorem joinQueue_perm (e : Entry) (q : List Entry) : (joinQueue e q).Perm (e :: q) := by
  induction q with
  | nil => exact .refl _
  | cons f rest ih =>
    unfold joinQueue
    split
    · exact (ih.cons f).trans (.swap e f rest)
    · exact .refl _

@[simp] theorem joinQueue_length (e : Entry) (q : List Entry) : (joinQueue e q).length = q.length + 1 := by
  simpa using (joinQueue_perm e q).length_eq

@[simp] theorem mem_joinQueue {e f : Entry} {q : List Entry} : f ∈ joinQueue e q ↔ f = e ∨ f ∈ q := by
  simpa using (joinQueue_perm e q).mem_iff (a := f)

/-- A test passes on as many entries after the join as on the joined entry and the queue. -/
theorem filter_joinQueue_length (test : Entry → Bool) (e : Entry) (q : List Entry) :
    ((joinQueue e q).filter test).length = ((e :: q).filter test).length :=
  ((joinQueue_perm e q).filter test).length_eq

/-- Joining keeps the sending order. -/
theorem joinQueue_order {e : Entry} {q : List Entry} (h : q.Pairwise fun e f => e.priority ≤ f.priority) :
    (joinQueue e q).Pairwise fun e f => e.priority ≤ f.priority := by
  induction q with
  | nil => simp [joinQueue]
  | cons f rest ih =>
    obtain ⟨first, later⟩ := List.pairwise_cons.mp h
    unfold joinQueue
    split
    next le =>
      refine List.pairwise_cons.mpr ⟨fun g hg => ?_, ih later⟩
      rcases mem_joinQueue.mp hg with rfl | hg
      · exact le
      · exact first g hg
    next gt =>
      refine List.pairwise_cons.mpr ⟨fun g hg => ?_, h⟩
      rcases List.mem_cons.mp hg with rfl | hg
      · omega
      · have := first g hg
        omega

@[simp] theorem Entry.fresh_notice (n : Notice) : (Entry.fresh n).notice = n := rfl

@[simp] theorem Entry.fresh_driven (n : Notice) : (Entry.fresh n).driven = false := rfl

/-! ## Keeping the queue -/

/-- A notice that joins below the limit, a second BEACON apart, leaves a queue as R141 says. -/
theorem QueueKept.join {n : Notice} {q : List Entry} (h : QueueKept q) (room : q.length < 8)
    (beacon : n.kind = .beacon → q.filter (·.notice.kind == .beacon) = []) :
    QueueKept (joinQueue (.fresh n) q) where
  atMostEight := by simp; omega
  oneBeacon := by
    rw [filter_joinQueue_length, List.filter_cons]
    split
    next is => simp [beacon (by simpa using is)]
    next => exact h.oneBeacon
  sendingOrder := joinQueue_order h.sendingOrder
  oneAttempt := by
    rw [filter_joinQueue_length, List.filter_cons]
    simpa using h.oneAttempt

/-- Entries leave and the queue stays as R141 says. -/
theorem QueueKept.sublist {p q : List Entry} (h : QueueKept q) (sub : p.Sublist q) : QueueKept p where
  atMostEight := sub.length_le.trans h.atMostEight
  oneBeacon := (sub.filter _).length_le.trans h.oneBeacon
  sendingOrder := h.sendingOrder.sublist sub
  oneAttempt := (sub.filter _).length_le.trans h.oneAttempt

theorem dropLastWhere_sublist (test : Entry → Bool) (q : List Entry) : (dropLastWhere test q).Sublist q := by
  have := (List.eraseP_sublist (p := test) (l := q.reverse)).reverse
  rwa [List.reverse_reverse] at this

/-- The entry that a full queue gives up leaves one place free. -/
theorem dropLastWhere_length {test : Entry → Bool} {q : List Entry} {e : Entry} (h : q.reverse.find? test = some e) :
    (dropLastWhere test q).length = q.length - 1 := by
  have passes := List.find?_some h
  have isIn := List.mem_of_find?_eq_some h
  simp [dropLastWhere, List.length_eraseP_of_mem isIn passes]

/-- A change of entries that leaves their notices and raises no attempt keeps the queue as R141 says. -/
theorem QueueKept.map {f : Entry → Entry} {q : List Entry} (h : QueueKept q) (same : ∀ e, (f e).notice = e.notice)
    (driven : ∀ e, (f e).driven = true → e.driven = true) : QueueKept (q.map f) where
  atMostEight := by simpa using h.atMostEight
  oneBeacon := by
    have : (fun e : Entry => e.notice.kind == .beacon) ∘ f = fun e => e.notice.kind == .beacon := by
      funext e
      simp [same]
    rw [List.filter_map, this, List.length_map]
    exact h.oneBeacon
  sendingOrder := by
    rw [List.pairwise_map]
    exact h.sendingOrder.imp fun {e g} le => by simpa [Entry.priority, same] using le
  oneAttempt := by
    rw [List.filter_map, List.length_map]
    refine le_trans ?_ h.oneAttempt
    rw [← List.countP_eq_length_filter, ← List.countP_eq_length_filter]
    exact List.countP_mono_left fun e _ he => driven e he

/-- Giving an attempt up keeps the queue (R138). -/
theorem QueueKept.endAttempt {q : List Entry} (h : QueueKept q) : QueueKept (endAttempt q) :=
  h.map (fun _ => rfl) fun _ he => by simp [Entry.driven] at he

/-- Abandoning an attempt keeps the queue (R139). -/
theorem QueueKept.abandonAttempt {q : List Entry} (h : QueueKept q) : QueueKept (abandonAttempt q) := by
  refine h.map (fun e => ?_) fun e he => ?_
  · split <;> rfl
  · split at he
    · simp [Entry.driven] at he
    · exact he

/-- The driven entry's leaving keeps the queue (R139, R140). -/
theorem QueueKept.removeDriven {q : List Entry} (h : QueueKept q) : QueueKept (removeDriven q) :=
  h.sublist List.eraseP_sublist

/-- Taking the head for an attempt keeps the queue, when none is in progress (R137). -/
theorem QueueKept.startAttempt {beacon : BeaconFields} {q : List Entry} (h : QueueKept q)
    (none : q.any Entry.driven = false) : QueueKept (startAttempt beacon q) := by
  cases q with
  | nil => exact h
  | cons e rest =>
    have later : rest.filter Entry.driven = [] := by
      rw [List.filter_eq_nil_iff]
      intro f hf
      have := List.any_eq_false.mp none f (List.mem_cons_of_mem _ hf)
      exact this
    exact
      { atMostEight := h.atMostEight
        oneBeacon := by
          have := h.oneBeacon
          rw [← List.countP_eq_length_filter, List.countP_cons] at this
          rw [Machine.startAttempt, ← List.countP_eq_length_filter, List.countP_cons]
          exact this
        sendingOrder := by simpa [Machine.startAttempt, Entry.priority] using h.sendingOrder
        oneAttempt := by
          rw [Machine.startAttempt, ← List.countP_eq_length_filter, List.countP_cons, List.countP_eq_length_filter,
            later]
          simp [Entry.driven] }

/-! ## Offering -/

/-- A notice that joins, or is taken by the full-queue rule, keeps the queue. A BEACON comes here only when none is queued
(R142, R143). -/
theorem QueueKept.enqueue {s : State} {n : Notice} (h : QueueKept s.lif.queue)
    (beacon : n.kind = .beacon → s.lif.queue.filter (·.notice.kind == .beacon) = []) :
    QueueKept (s.enqueue n).lif.queue := by
  unfold State.enqueue
  split
  next room => exact h.join room beacon
  next full =>
    split
    next e found =>
      have sub := dropLastWhere_sublist (displaceable n) s.lif.queue
      refine (h.sublist sub).join ?_ fun is => ?_
      · rw [dropLastWhere_length found]
        have := h.atMostEight
        have := List.length_pos_of_mem (List.mem_reverse.mp (List.mem_of_find?_eq_some found))
        omega
      · have := (sub.filter (·.notice.kind == .beacon)).length_le
        rw [beacon is] at this
        exact List.length_eq_zero_iff.mp (Nat.le_zero.mp this)
    next => exact h

/-- Offering a notice keeps the queue (R142, R143, R149). -/
theorem QueueKept.offer {s : State} (n : Notice) (h : QueueKept s.lif.queue) : QueueKept (s.offer n).lif.queue := by
  unfold State.offer
  split
  · exact h
  split
  next =>
    split
    · exact h
    next none =>
      refine h.enqueue fun _ => List.filter_eq_nil_iff.mpr fun e he is => ?_
      exact none (List.any_eq_true.mpr ⟨e, he, is⟩)
  next is =>
    split
    next some =>
      obtain ⟨e, he, passes⟩ := List.any_eq_true.mp some
      refine (h.sublist List.eraseP_sublist).join ?_ fun b => by simp [is] at b
      rw [List.length_eraseP_of_mem he passes]
      have := h.atMostEight
      have := List.length_pos_of_mem he
      omega
    next => exact h.enqueue fun b => by simp [is] at b
  next notBeacon _ => exact h.enqueue fun b => absurd b notBeacon

/-- In LOADING and MUTE nothing is offered (R149). -/
theorem State.offer_silent {s : State} (n : Notice) (h : s.rsq.phase = .mute ∨ s.rsq.phase = .loading) :
    s.offer n = s := by
  rw [State.offer, if_pos h]

end Sys2Proof.Machine
end

