-- ==== Sys2Proof/Laws/View.lean ====
section
/-! SUPPORT. The Peer View Table: what each of its operations does to the entries, and that each keeps the view as R37
says. -/

namespace Sys2Proof.Machine

/-- The entries of a list of slots, in slot order. -/
theorem PeerView.entries_eq (v : PeerView) : v.entries = v.slots.filterMap id := rfl

/-- An entry is one of the view's exactly when a slot holds it. -/
theorem PeerView.mem_entries {v : PeerView} {e : ViewEntry} : e ∈ v.entries ↔ some e ∈ v.slots := by
  simp [PeerView.entries_eq]

/-! ## Operations on the slots, as operations on the entries -/

theorem entries_map (f : ViewEntry → ViewEntry) (slots : List (Option ViewEntry)) :
    (slots.map (Option.map f)).filterMap id = (slots.filterMap id).map f := by
  rw [List.filterMap_map, List.map_filterMap]
  rfl

theorem entries_filter (keep : ViewEntry → Bool) (slots : List (Option ViewEntry)) :
    (slots.map fun slot => slot.filter keep).filterMap id = (slots.filterMap id).filter keep := by
  rw [List.filterMap_map, List.filter_filterMap]
  rfl

/-- A change of one station's entry is a change of the entries. -/
theorem entries_changeEntry (station : Nat) (f : ViewEntry → ViewEntry) (slots : List (Option ViewEntry)) :
    (changeEntry station f slots).filterMap id =
      (slots.filterMap id).map fun e => if e.station = station then f e else e :=
  entries_map _ slots

theorem entries_freeEntry (station : Nat) (slots : List (Option ViewEntry)) :
    (freeEntry station slots).filterMap id = (slots.filterMap id).filter (·.station != station) :=
  entries_filter _ slots

theorem entries_ageSlots (slots : List (Option ViewEntry)) :
    (ageSlots slots).filterMap id = (slots.filterMap id).map ageEntry := entries_map _ slots

theorem entries_dropOutlived (slots : List (Option ViewEntry)) :
    (dropOutlived slots).filterMap id = (slots.filterMap id).filter fun e => !outlived e := entries_filter _ slots

/-- A new entry in a slot: the other slots' entries, and this one where it stands. -/
theorem entries_set {slots : List (Option ViewEntry)} {i : Nat} (h : i < slots.length) (e : ViewEntry) :
    (slots.set i (some e)).filterMap id = (slots.take i).filterMap id ++ e :: (slots.drop (i + 1)).filterMap id := by
  rw [List.set_eq_take_append_cons_drop, if_pos h]
  simp

/-- What stands around a slot is among the entries, in their order. -/
theorem entries_around (slots : List (Option ViewEntry)) (i : Nat) :
    ((slots.take i).filterMap id ++ (slots.drop (i + 1)).filterMap id).Sublist (slots.filterMap id) := by
  rw [← List.filterMap_append]
  refine List.Sublist.filterMap _ ?_
  have step : (slots.drop (i + 1)).Sublist (slots.drop i) := by
    rw [← List.drop_drop]
    exact List.drop_sublist _ _
  simpa using (List.Sublist.refl (slots.take i)).append step

@[simp] theorem changeEntry_length (station : Nat) (f : ViewEntry → ViewEntry) (slots : List (Option ViewEntry)) :
    (changeEntry station f slots).length = slots.length := by simp [changeEntry]

@[simp] theorem freeEntry_length (station : Nat) (slots : List (Option ViewEntry)) :
    (freeEntry station slots).length = slots.length := by simp [freeEntry]

@[simp] theorem ageSlots_length (slots : List (Option ViewEntry)) : (ageSlots slots).length = slots.length := by
  simp [ageSlots]

@[simp] theorem dropOutlived_length (slots : List (Option ViewEntry)) :
    (dropOutlived slots).length = slots.length := by simp [dropOutlived]

/-! ## The order of the scan and the free slot -/

/-- Every slot number of the scan is a slot (R43). -/
theorem scanOrder_lt {pointer i : Nat} (h : i ∈ scanOrder pointer) : i < 16 := by
  obtain ⟨j, -, rfl⟩ := List.mem_map.mp h
  exact Nat.mod_lt _ (by decide)

theorem PeerView.firstFree_lt {v : PeerView} {i : Nat} (h : v.firstFree = some i) : i < 16 :=
  List.mem_range.mp (List.mem_of_find?_eq_some h)

theorem PeerView.victim_lt {v : PeerView} {pinned : Nat → Bool} {i : Nat} (h : v.victim pinned = some i) : i < 16 :=
  scanOrder_lt (List.mem_of_find?_eq_some h)

/-- The lookup finds nothing exactly when no entry is the station's. -/
theorem PeerView.find_none {v : PeerView} {station : Nat} (h : (v.find station).isSome = false) :
    ∀ e ∈ v.entries, e.station ≠ station := by
  intro e he is
  have : v.find station = none := by simpa using h
  have := List.find?_eq_none.mp this e he
  simp [is] at this

/-! ## Keeping the view -/

theorem PeerView.clearFull_slots (v : PeerView) : v.clearFull.slots = v.slots := by
  unfold PeerView.clearFull
  split <;> rfl

theorem PeerView.clearFull_pointer (v : PeerView) : v.clearFull.pointer = v.pointer := by
  unfold PeerView.clearFull
  split <;> rfl

/-- The promise reads the slots and the pointer alone. -/
theorem ViewKept.of_slots {own : Nat} {v w : PeerView} (h : ViewKept own v) (slots : w.slots = v.slots)
    (pointer : w.pointer = v.pointer) : ViewKept own w where
  sixteen := slots ▸ h.sixteen
  oneEach := by
    rw [PeerView.entries_eq, slots]
    exact h.oneEach
  carriers := by
    rw [PeerView.entries_eq, slots]
    exact h.carriers
  pointer := pointer ▸ h.pointer

theorem ViewKept.clearFull {own : Nat} {v : PeerView} (h : ViewKept own v) : ViewKept own v.clearFull :=
  h.of_slots v.clearFull_slots v.clearFull_pointer

/-- A change of entries that leaves their station numbers keeps the view. -/
theorem ViewKept.map {own : Nat} {v : PeerView} {slots : List (Option ViewEntry)} {f : ViewEntry → ViewEntry}
    (h : ViewKept own v) (length : slots.length = v.slots.length) (entries : slots.filterMap id = v.entries.map f)
    (same : ∀ e ∈ v.entries, (f e).station = e.station) : ViewKept own { v with slots := slots } where
  sixteen := length.trans h.sixteen
  oneEach := by
    rw [PeerView.entries_eq]
    change ((slots.filterMap id).map _).Pairwise _
    rw [entries, List.map_map]
    have : v.entries.map ((·.station) ∘ f) = v.entries.map (·.station) :=
      List.map_congr_left fun e he => same e he
    rw [this]
    exact h.oneEach
  carriers := by
    intro e he
    rw [PeerView.entries_eq] at he
    change e ∈ slots.filterMap id at he
    rw [entries] at he
    obtain ⟨g, hg, rfl⟩ := List.mem_map.mp he
    rw [same g hg]
    exact h.carriers g hg
  pointer := h.pointer

/-- Removing entries keeps the view. -/
theorem ViewKept.sublist {own : Nat} {v : PeerView} {slots : List (Option ViewEntry)} (h : ViewKept own v)
    (length : slots.length = v.slots.length) (entries : (slots.filterMap id).Sublist v.entries) :
    ViewKept own { v with slots := slots } where
  sixteen := length.trans h.sixteen
  oneEach := h.oneEach.sublist (entries.map _)
  carriers := fun e he => h.carriers e (entries.subset he)
  pointer := h.pointer

/-- A removal keeps the view (R41). -/
theorem ViewKept.remove {own : Nat} {v : PeerView} (h : ViewKept own v) (station : Nat) :
    ViewKept own (v.remove station) :=
  (h.sublist (freeEntry_length _ _) (by rw [entries_freeEntry]; exact List.filter_sublist)).clearFull

/-- A new entry for a station the view does not hold, in any slot, keeps the view (R42, R43). -/
theorem ViewKept.set {own : Nat} {v : PeerView} {e : ViewEntry} {i pointer : Nat} (h : ViewKept own v) (slot : i < 16)
    (new : ∀ g ∈ v.entries, g.station ≠ e.station) (carrier : e.station ≤ 59 ∧ e.station ≠ own)
    (inTable : pointer < 16) : ViewKept own { v with slots := v.slots.set i (some e), pointer := pointer } := by
  have inside : i < v.slots.length := by rw [h.sixteen]; exact slot
  have around := entries_around v.slots i
  have entries : ({ v with slots := v.slots.set i (some e), pointer := pointer } : PeerView).entries =
      (v.slots.take i).filterMap id ++ e :: (v.slots.drop (i + 1)).filterMap id := entries_set inside e
  refine { sixteen := by simpa using h.sixteen, oneEach := ?_, carriers := ?_, pointer := inTable }
  · rw [entries]
    have perm := (List.perm_middle (a := e) (l₁ := (v.slots.take i).filterMap id)
      (l₂ := (v.slots.drop (i + 1)).filterMap id)).map (·.station)
    refine (perm.pairwise_iff fun ne => Ne.symm ne).mpr ?_
    rw [List.map_cons, List.pairwise_cons]
    refine ⟨fun n hn => ?_, h.oneEach.sublist (around.map _)⟩
    obtain ⟨g, hg, rfl⟩ := List.mem_map.mp hn
    exact (new g (around.subset hg)).symm
  · rw [entries]
    intro g hg
    rcases List.mem_cons.mp (List.perm_middle.mem_iff.mp hg) with rfl | hg
    · exact carrier
    · exact h.carriers g (around.subset hg)

/-- The view a storing leaves, where it stores. -/
def Storing.view : Storing → Option PeerView
  | .updated v | .inserted v | .evicted v => some v
  | .dropped => none

/-- Storing a beacon of another carrier station keeps the view (R40, R42, R43). -/
theorem ViewKept.store {own : Nat} {v w : PeerView} {pinned : Nat → Bool} {b : Heard} (h : ViewKept own v)
    (carrier : b.station ≤ 59 ∧ b.station ≠ own) (result : (v.store own pinned b).view = some w) : ViewKept own w := by
  unfold PeerView.store at result
  split at result
  next =>
    cases result
    refine h.map (changeEntry_length _ _ _) (entries_changeEntry _ _ _) fun e _ => ?_
    split
    next is => exact is.symm
    next => rfl
  next absent =>
    have new := PeerView.find_none (by simpa using absent)
    split at result
    next i free =>
      cases result
      exact h.set (PeerView.firstFree_lt free) new carrier h.pointer
    next =>
      split at result
      next i found =>
        cases result
        exact h.set (PeerView.victim_lt found) new carrier (Nat.mod_lt _ (by decide))
      next => cases result

/-- Ageing keeps the view (R45, R46). -/
theorem ViewKept.ageAll {own : Nat} {v : PeerView} (h : ViewKept own v) : ViewKept own v.ageAll := by
  have aged : ViewKept own { v with slots := ageSlots v.slots } :=
    h.map (ageSlots_length _) (entries_ageSlots _) fun _ _ => rfl
  have kept : ViewKept own { v with slots := dropOutlived (ageSlots v.slots) } :=
    aged.sublist (dropOutlived_length _) (by rw [entries_dropOutlived]; exact List.filter_sublist)
  unfold PeerView.ageAll
  dsimp only
  split
  · exact kept
  · exact kept.clearFull

/-- The local marks' changes keep the view (R49 to R51). -/
theorem ViewKept.miss {own : Nat} {v : PeerView} (h : ViewKept own v) (station : Nat) : ViewKept own (v.miss station) :=
  h.map (changeEntry_length _ _ _) (entries_changeEntry _ _ _) fun e _ => by split <;> rfl

theorem ViewKept.forgive {own : Nat} {v : PeerView} (h : ViewKept own v) : ViewKept own v.forgive :=
  h.map (by simp) (entries_map _ _) fun _ _ => rfl

theorem ViewKept.clearSeen {own : Nat} {v : PeerView} (h : ViewKept own v) : ViewKept own v.clearSeen :=
  h.map (by simp) (entries_map _ _) fun _ _ => rfl

/-- The empty view is kept, whatever the own number (R53). -/
theorem ViewKept.empty (own : Nat) : ViewKept own emptyView where
  sixteen := rfl
  oneEach := by rw [show emptyView.entries = [] from rfl]; simp
  carriers := by rw [show emptyView.entries = [] from rfl]; simp
  pointer := by decide

end Sys2Proof.Machine
end

