-- ==== Sys2Proof/Laws/Wakes.lean ====
section
/-! SUPPORT. Where a wake, a forming of the terms and a change of a condition lead: the phase, the cover and the queue (R96 to
R99, R132, R134). -/

namespace Sys2Proof.Machine

variable (s : State)

/-! ## Forming the values -/

/-- In LOADING no term is formed (R131). -/
theorem State.formValues_loading {s : State} (h : s.rsq.phase = .loading) : s.formValues = s := by
  rw [State.formValues, if_pos h]

/-- Outside LOADING both values are those of the active profile's terms (R132). -/
theorem State.formValues_values {s : State} (h : s.rsq.phase ≠ .loading) :
    s.formValues.plu.hold = s.testTerm s.profile.hold ∧ s.formValues.plu.rouse = s.testTerm s.profile.rouse := by
  unfold State.formValues
  rw [if_neg h]
  dsimp only
  split <;> exact ⟨rfl, rfl⟩

/-! ## A wake -/

/-- A wake is ignored outside DRAINING, STANDBY and DEEP (R96). -/
theorem State.wake_ignored {s : State} (cause : WakeCause) (draining : s.rsq.phase ≠ .draining)
    (standby : s.rsq.phase ≠ .standby) (deep : s.rsq.phase ≠ .deep) : s.wake cause = s := by
  unfold State.wake
  split <;> simp_all

/-- A wake in DRAINING aborts the drain: AWAKE, with no cover (R98). -/
theorem State.wake_draining {s : State} (cause : WakeCause) (h : s.rsq.phase = .draining) :
    (s.wake cause).rsq.phase = .awake ∧ (s.wake cause).rsq.cover = none ∧ (s.wake cause).rsq.drainTimer = none ∧
      (s.wake cause).rsq.wakeCause = some cause := by
  unfold State.wake
  rw [h]
  simp only [State.abortDrain, State.startRestGuard]
  repeat' split
  all_goals simp

/-- A wake in STANDBY or DEEP leads to WAKING or WARMING, and leaves the cover (R97). -/
theorem State.wake_resting {s : State} (cause : WakeCause) (h : s.rsq.phase = .standby ∨ s.rsq.phase = .deep) :
    (s.wake cause).rsq.phase = (if s.rsq.phase = .standby ∧ s.rsq.darkGiven = false then .waking else .warming) ∧
      (s.wake cause).rsq.cover = s.rsq.cover ∧ (s.wake cause).rsq.drainTimer = s.rsq.drainTimer ∧
      (s.wake cause).rsq.wakeCause = some cause ∧ (s.wake cause).rsq.settled = false ∧
      (s.wake cause).rsq.unsettled = false := by
  have left : s.wake cause = (s.countWake cause).leaveRest cause := by
    unfold State.wake
    rcases h with h | h <;> rw [h]
  rw [left]
  unfold State.leaveRest
  dsimp only
  split <;> simp

/-- A wake leaves the phase or leads to one of AWAKE, WAKING and WARMING. -/
theorem State.wake_phase (cause : WakeCause) :
    (s.wake cause).rsq.phase = s.rsq.phase ∨ (s.wake cause).rsq.phase = .awake ∨ (s.wake cause).rsq.phase = .waking ∨
      (s.wake cause).rsq.phase = .warming := by
  by_cases draining : s.rsq.phase = .draining
  · exact .inr (.inl (State.wake_draining cause draining).1)
  by_cases rest : s.rsq.phase = .standby ∨ s.rsq.phase = .deep
  · rw [(State.wake_resting cause rest).1]
    split <;> simp
  · rw [not_or] at rest
    exact .inl (by rw [State.wake_ignored cause draining rest.1 rest.2])

/-- A wake moves no station that is awake, and none into or out of LOADING and MUTE. -/
theorem State.wake_phase_iff (cause : WakeCause) :
    (s.rsq.phase = .awake → (s.wake cause).rsq.phase = .awake) ∧
      ((s.wake cause).rsq.phase = .loading ↔ s.rsq.phase = .loading) ∧
      ((s.wake cause).rsq.phase = .mute ↔ s.rsq.phase = .mute) ∧
      ((s.wake cause).rsq.phase = .seeking ↔ s.rsq.phase = .seeking) := by
  by_cases draining : s.rsq.phase = .draining
  · simp [(State.wake_draining cause draining).1, draining]
  by_cases rest : s.rsq.phase = .standby ∨ s.rsq.phase = .deep
  · rw [(State.wake_resting cause rest).1]
    rcases rest with rest | rest <;> rw [rest] <;> split <;> simp
  · rw [not_or] at rest
    rw [State.wake_ignored cause draining rest.1 rest.2]
    simp

/-- A wake leaves the cover, or drops it with the drain it aborts. -/
theorem State.wake_cover (cause : WakeCause) :
    (s.wake cause).rsq.cover = s.rsq.cover ∨ ((s.wake cause).rsq.cover = none ∧ (s.wake cause).rsq.phase = .awake) := by
  by_cases draining : s.rsq.phase = .draining
  · exact .inr ⟨(State.wake_draining cause draining).2.1, (State.wake_draining cause draining).1⟩
  by_cases rest : s.rsq.phase = .standby ∨ s.rsq.phase = .deep
  · exact .inl (State.wake_resting cause rest).2.1
  · rw [not_or] at rest
    exact .inl (by rw [State.wake_ignored cause draining rest.1 rest.2])

/-! ## Promises a wake keeps -/

theorem CoverRecorded.wake {s : State} (h : CoverRecorded s) (cause : WakeCause) : CoverRecorded (s.wake cause) := by
  have own : (s.wake cause).own = s.own := by simp [State.own]
  refine ⟨fun resting => ?_, fun ended => ?_, fun c hc => ?_⟩
  · by_cases draining : s.rsq.phase = .draining
    · simp [(State.wake_draining cause draining).1] at resting
    by_cases rest : s.rsq.phase = .standby ∨ s.rsq.phase = .deep
    · rw [(State.wake_resting cause rest).1] at resting
      split at resting <;> simp at resting
    · rw [not_or] at rest
      rw [State.wake_ignored cause draining rest.1 rest.2] at resting ⊢
      exact h.held resting
  · by_cases draining : s.rsq.phase = .draining
    · exact (State.wake_draining cause draining).2.1
    by_cases rest : s.rsq.phase = .standby ∨ s.rsq.phase = .deep
    · rw [(State.wake_resting cause rest).1] at ended
      split at ended <;> simp at ended
    · rw [not_or] at rest
      rw [State.wake_ignored cause draining rest.1 rest.2] at ended ⊢
      exact h.cleared ended
  · rw [own]
    rcases s.wake_cover cause with same | ⟨none, -⟩
    · exact h.other c (same ▸ hc)
    · rw [none] at hc
      cases hc

/-- Time keeps the rest clock's bound, and a start at 0 has it (R110). What else leaves `measured` is in Laws/Fields.lean. -/
theorem RestClockKept.over {k : RestClock} (h : RestClockKept k) (t : Micros) : RestClockKept (k.over t) := by
  unfold RestClock.over
  split
  · exact Nat.min_le_left _ _
  all_goals exact h

theorem RestClockKept.started (hold : Bool) : RestClockKept (startedClock hold) := Nat.zero_le _

theorem BookOnlyAwake.wake {s : State} (h : BookOnlyAwake s) (cause : WakeCause) : BookOnlyAwake (s.wake cause) := by
  intro book
  rw [(s.wake_frame cause).2.2.2.2.2.1] at book
  exact (s.wake_phase_iff cause).1 (h book)

theorem ClosedMeansUp.wake {s : State} (h : ClosedMeansUp s) (cause : WakeCause) : ClosedMeansUp (s.wake cause) := by
  intro closed
  have was : s.plu.windowOpen = false := by simpa using closed
  rcases s.wake_phase cause with same | awake | waking | warming
  · rw [same]
    exact h was
  all_goals simp [*]

theorem QueueKept.wake {s : State} (h : QueueKept s.lif.queue) (cause : WakeCause) :
    QueueKept (s.wake cause).lif.queue := by
  unfold State.wake
  split
  next =>
    have resumed : QueueKept ((s.countWake cause).abortDrain cause).lif.queue := by
      unfold State.abortDrain State.resumeToCover State.startRestGuard
      dsimp only
      repeat' split
      all_goals first
        | simpa using h
        | simpa using QueueKept.offer _ (by simpa using h)
    exact resumed
  next => simpa using h
  next => simpa using h
  all_goals exact h

/-! ## The forming of the terms and a change of a condition -/

/-- A forming is the values alone, or the values and a wake with cause ROUSE (R134). -/
theorem State.formTerms_cases : s.formTerms = s.formValues ∨ s.formTerms = s.formValues.wake .rouse := by
  unfold State.formTerms doWhen
  split
  · exact .inr rfl
  · exact .inl rfl

/-- A condition that does not change changes nothing. -/
theorem State.setCondition_same (b : Bool) (write : State → State) : s.setCondition b b write = s := by
  simp [State.setCondition]

/-- A condition that changes is written and the terms formed (R130, R132). -/
theorem State.setCondition_changes {old new : Bool} (write : State → State) (h : old ≠ new) :
    s.setCondition old new write = (write s).formTerms := by
  simp [State.setCondition, h]

theorem QueueKept.formTerms {s : State} (h : QueueKept s.lif.queue) : QueueKept s.formTerms.lif.queue := by
  have values : QueueKept s.formValues.lif.queue := by simpa using h
  rcases s.formTerms_cases with same | woken
  · rwa [same]
  · rw [woken]
    exact values.wake .rouse

theorem CoverRecorded.formTerms {s : State} (h : CoverRecorded s) : CoverRecorded s.formTerms := by
  have values : CoverRecorded s.formValues := by
    refine ⟨?_, ?_, ?_⟩
    · simpa using h.held
    · simpa using h.cleared
    · simpa [State.own] using h.other
  rcases s.formTerms_cases with same | woken
  · rwa [same]
  · rw [woken]
    exact values.wake .rouse

theorem BookOnlyAwake.formTerms {s : State} (h : BookOnlyAwake s) : BookOnlyAwake s.formTerms := by
  have values : BookOnlyAwake s.formValues := by simpa [BookOnlyAwake] using h
  rcases s.formTerms_cases with same | woken
  · rwa [same]
  · rw [woken]
    exact values.wake .rouse

theorem ClosedMeansUp.formTerms {s : State} (h : ClosedMeansUp s) : ClosedMeansUp s.formTerms := by
  have values : ClosedMeansUp s.formValues := by simpa [ClosedMeansUp] using h
  rcases s.formTerms_cases with same | woken
  · rwa [same]
  · rw [woken]
    exact values.wake .rouse

end Sys2Proof.Machine
end

