-- ==== Sys2Proof/Tests/Slice0.lean ====
section
/-! SUPPORT. The model's own tests: the form check, the check of R177, one small effect for each command, and for each
statement with hypotheses a state and operands that meet them. -/

namespace Sys2Proof.Tests

open Sys2Proof Sys2Proof.Machine

/-! ## Small states -/

/-- The configuration of the tests: CAPACITY in sector 2, 600 CU, T_b 2 s, the factory profile. -/
def image : Image := { Config.fallbackImage 2 with role := .capacity, capacity := 600 }

/-- Station 8 at 10 s: AWAKE, ON_AIR, past LOADING, the line idle, nothing heard, no window open, no sample used. -/
def awake : State :=
  let s := State.powerOn 10000000 8
  { s with
    lif := { s.lif with receiver := .idle, beaconTimer := some 12000000 }
    pvt := { s.pvt with isolated := true }
    rsq := { s.rsq with phase := .awake }
    clp := { s.clp with link := .up, lastCondition := some .onAir }
    cfl := { s.cfl with image := image, load := .done, readTimer := none } }

/-- The same with the window open and the estimator TRACKING at S = 160, L = 10. -/
def open_ : State :=
  { awake with
    plu := { awake.plu with windowOpen := true, windowTimer := some 610000000 }
    lde :=
      { awake.lde with state := .tracking, demand := some 160, level := some 10, lastUsed := some 9000, quiet := 899 } }

/-- An ANCHOR heard AWAKE. -/
def anchor : ViewEntry where
  station := 12
  role := .anchor
  phase := .awake
  capacity := 900
  level := 100
  room := 500
  cover := none
  covering := [8]
  resting := []
  profile := 0
  clash := false
  age := 1
  misses := 0
  shunned := false
  seenUs := false

/-- A station that hears the anchor in its first slot. -/
def hearing (s : State) : State :=
  { s with pvt := { s.pvt with slots := some anchor :: List.replicate 15 none, isolated := false } }

/-- A station with an attempt toward the anchor under tag 5, in a phase. -/
def attempting (phase : Phase) : State :=
  let s := hearing open_
  { s with rsq := { s.rsq with phase := phase, cover := some 12, tag := 5 }, lde := { s.lde with quiet := 0 } }

def seeking : State :=
  let s := attempting .seeking
  { s with rsq := { s.rsq with askWait := some 11000000 } }

def draining : State :=
  let s := attempting .draining
  { s with rsq := { s.rsq with drainTimer := some 130000000 } }

def standby : State :=
  let s := attempting .standby
  { s with rsq := { s.rsq with drainStep := .restOrdered, restClock := { mode := .running, measured := 0 } } }

def deep : State :=
  let s := attempting .deep
  { s with rsq := { s.rsq with drainStep := .restOrdered, darkGiven := true, restClock := { mode := .running, measured := 0 } } }

/-- A pledge of 20 CU for leaner 9 under tag 3. -/
def pledge (state : PledgeState) (depth : Option Depth) : Pledge where
  leaner := 9
  tag := 3
  amount := 20
  reserve := 320
  state := state
  depth := depth
  named := true
  grantAge := 1
  attempts := if state = .called then 1 else 0

/-- A cover with one pledge, its recall timer running when the pledge is CALLED. -/
def covered (p : Pledge) : State :=
  { open_ with
    cvu := { book := [p], recallTimer := if p.state = .called then some 20000000 else none, recallGuard := none }
    acc := open_.acc.setCount .granted 1 }

/-- The state a command leads to. -/
def after (c : Instr) (s : State) : State :=
  match exec c s with
  | .next t => t
  | _ => s

/-- A beacon of 600 CU in a phase, with its lists. -/
def beacon (phase : BitVec 3) (cover : Byte) (covering resting : List Byte) : BeaconFields where
  phase := phase
  role := 0
  profile := 0
  clash := false
  capacity := 600
  level := 10
  room := 400
  cover := cover
  covering := covering
  resting := resting

/-- The fields a term record carries, one profile of the record of 13.5: the factory profile. -/
def factoryBytes : List Byte := [10, 4, 0x03, 0x84, 25, 80, 90, 4, 30, 0, 120, 30, 1, 0x0C, 0x8F]

/-- A record of sector, role, and capacity with the period code above it, with its check (13.5). -/
def record (sector role : Byte) (capacity : BitVec 16) : List Byte :=
  withCheck
    ([sector, role] ++ twoBytes capacity ++ [10, 0x00, 0xF0, 0x00, 0x78] ++ factoryBytes ++ factoryBytes ++ factoryBytes ++
      factoryBytes)

/-- The queue of a station, replaced. -/
def queued (q : List Entry) (s : State) : State := { s with lif := { s.lif with queue := q } }

/-- The view of a station, replaced. -/
def viewing (slots : List (Option ViewEntry)) (s : State) : State := { s with pvt := { s.pvt with slots := slots } }

/-- The rouse term of every profile replaced. -/
def termed (rouse : Term) (s : State) : State :=
  let p := { Config.factoryProfile with rouse := rouse }
  { s with cfl := { s.cfl with image := { image with profiles := { p0 := p, p1 := p, p2 := p, p3 := p } } } }

/-- The last report was FAULT. -/
def faulted (s : State) : State :=
  { s with clp := { s.clp with carrierFault := true, lastCondition := some .fault } }

theorem termsFormed (s : State)
    (h : s.rsq.phase ≠ .loading ∧ s.plu.hold = s.testTerm s.profile.hold ∧ s.plu.rouse = s.testTerm s.profile.rouse) :
    TermsFormed s := by
  unfold TermsFormed
  rw [if_neg h.1]
  exact h.2

/-! ## The form of a command -/

theorem test_form_record : (Instr.readComplete 0 [0x01]).wellFormed = false := by decide
theorem test_form_beacon_covering :
    (Instr.beacon 0 9 2 (beacon 0 0xFF (List.replicate 16 1) [])).wellFormed = false := by decide
theorem test_form_beacon_resting :
    (Instr.beacon 0 9 2 (beacon 0 0xFF [] (List.replicate 16 1))).wellFormed = false := by decide
theorem test_form_frame :
    (Instr.frameIgnored 0
      { priority := 0, sender := 9, kind := 6, sector := 2, addressee := 0xFF, payload := List.replicate 49 0 }).wellFormed =
      false := by decide
theorem test_form_windowOpen : (Instr.windowOpen 0 59 10 0xFF).wellFormed = false := by decide
theorem test_form_windowClose : (Instr.windowClose 0 59 0xFF).wellFormed = false := by decide
theorem test_form_flags :
    (Instr.flags 0 59 ⟨.keep, .keep, .keep, .keep, .keep, .keep, .keep, .keep⟩ 0xFF).wellFormed = false := by decide
theorem test_form_profile : (Instr.profile 0 59 1 0xFF).wellFormed = false := by decide
theorem test_form_askStatus : (Instr.askStatus 0 59 0 false).wellFormed = false := by decide
theorem test_form_restart : (Instr.restart 0 59 8).wellFormed = false := by decide
theorem test_form_good :
    (Instr.readComplete 0 (record 2 1 600)).wellFormed = true ∧
      (Instr.beacon 0 9 2 (beacon 0 0xFF (List.replicate 15 1) (List.replicate 15 1))).wellFormed = true ∧
      (Instr.windowOpen 0 60 10 0xFF).wellFormed = true := by decide

/-! ## One effect for each command -/

theorem test_powerOn : (after (.powerOn 5 9) deep).own = 9 ∧ (after (.powerOn 5 9) deep).rsq.phase = .loading := by decide
theorem test_readComplete :
    (after (.readComplete 1000 (record 2 1 0x1258)) State.reset).image = image ∧
      (after (.readComplete 1000 (record 2 1 0x1258)) State.reset).rsq.phase = .warming := by decide +kernel
theorem test_readComplete_bad : (after (.readComplete 0 (record 2 3 600)) State.reset).image.sector = 2 := by decide +kernel
theorem test_readAbsent : (after (.readAbsent 9) State.reset).image = Config.fallbackImage 0 := by decide
theorem test_readTimerExpiry :
    (after (.readTimerExpiry 50000) State.reset).cfl.configBad = true ∧
      (after (.readTimerExpiry 49999) State.reset).rsq.phase = .loading := by decide
theorem test_validSample : (after (.validSample 600000 0 0 .onAir) (hearing open_)).rsq.phase = .seeking := by decide
theorem test_validSample_overload :
    (after (.validSample 600000 1023 500 .onAir)
      { covered (pledge .resting (some .deep)) with lde := { open_.lde with state := .blind } }).cvu.calling = true := by
  decide
theorem test_linkBadRecord : (after (.linkBadRecord 0) awake).count .linkBadRecords = 1 := by decide
theorem test_unrecognizedRecord :
    (after (.unrecognizedRecord 0) standby).clp.backlog = [{ recognized := false, phase := .standby, order := .rest }] := by
  decide
theorem test_replySent : (after (.replySent 0) (after (.unrecognizedRecord 0) awake)).clp.backlog = [] := by decide
theorem test_linkWatchExpiry : (after (.linkWatchExpiry 5000000) open_).lde.state = .blind := by decide
theorem test_transmissionAttempt :
    (after (.transmissionAttempt 0) (queued [.fresh (.resume 12 5)] awake)).lif.attempting = true := by decide
theorem test_contentionLoss :
    (after (.contentionLoss 0) (queued [⟨.resume 12 5, 2, some .asQueued⟩] awake)).lif.queue =
      [⟨.resume 12 5, 2, none⟩] := by decide
theorem test_abandon :
    (after (.abandon 0) (queued [⟨.resume 12 5, 2, some .asQueued⟩] awake)).lif.queue = [⟨.resume 12 5, 3, none⟩] ∧
      (after (.abandon 0) (queued [⟨.resume 12 5, 3, some .asQueued⟩] awake)).lif.queue = [] := by decide
theorem test_attemptComplete :
    (after (.attemptComplete 0) (queued [⟨.resume 12 5, 2, some .asQueued⟩] awake)).count (.sent .resume) = 1 := by decide
theorem test_frameDiscarded : (after (.frameDiscarded 0 .oversize) awake).count .malformedFrames = 1 := by decide
theorem test_clashFrame : (after (.clashFrame 0) deep).rsq.phase = .warming := by decide
theorem test_frameIgnored :
    (after (.frameIgnored 0 { priority := 1, sender := 9, kind := 13, sector := 2, addressee := 8, payload := [] })
      awake).count .unknownKind = 1 := by decide
theorem test_beacon :
    ((after (.beacon 0 12 2 (beacon 0 0xFF [8] [8])) standby).pvt.find 12).map (·.seenUs) = some true := by decide
theorem test_beacon_orphan : (after (.beacon 0 12 2 (beacon 3 0xFF [] [])) deep).rsq.phase = .warming := by decide
theorem test_coverAsk : (after (.coverAsk 0 9 2 3 20) open_).room = 450 := by decide
theorem test_coverAsk_denied : (after (.coverAsk 0 9 3 3 20) open_).count (.deniesSent .sector) = 1 := by decide
theorem test_resume : (after (.resume 0 9 3) (covered (pledge .granted none))).cvu.book = [] := by decide
theorem test_coverGrant :
    (after (.coverGrant 0 12 5 20) seeking).rsq.phase = .draining ∧
      (after (.coverGrant 0 12 4 20) seeking).count .lateGrants = 1 := by decide
theorem test_coverDeny : (after (.coverDeny 0 12 5 8 30) seeking).rsq.backoff = some 12000000 := by decide
theorem test_recall : (after (.recall 0 12 5) draining).rsq.recentRecall = true := by decide
theorem test_windowOpen : (after (.windowOpen 0 60 721 4) awake).remainingMinutes = 720 := by decide
theorem test_windowClose : (after (.windowClose 0 60 4) standby).rsq.phase = .waking := by decide
theorem test_windowTimerExpiry : (after (.windowTimerExpiry 600000000) open_).plu.windowOpen = false := by decide
theorem test_flags :
    (after (.flags 0 60 ⟨.keep, .set, .keep, .invert, .keep, .keep, .keep, .keep⟩ 4) awake).plu.flags =
      ⟨false, true, false, true, false, false, false, false⟩ := by decide
theorem test_profile : (after (.profile 0 60 3 4) open_).plu.activeProfile = 3 := by decide
theorem test_askStatus :
    (after (.askStatus 0 60 1 false) awake).acc.cursor1 = 1 ∧
      (after (.askStatus 0 60 1 false) awake).lif.queue.map Entry.priority = [2] := by decide
theorem test_restart : (after (.restart 0 60 9) (covered (pledge .granted none))).count (.removed .restart) = 1 := by decide
theorem test_statusArrival : (after (.statusArrival 0 60) awake).count (.arrivals .status) = 1 := by decide
theorem test_ownBeaconTime :
    (after (.ownBeaconTime 2000000) (hearing awake)).lif.queue = [.fresh .beacon] ∧
      (after (.ownBeaconTime 2000000) (hearing awake)).lif.beaconTimer = some 14000000 := by decide
theorem test_askWaitExpiry : (after (.askWaitExpiry 1000000) seeking).count .misses = 1 := by decide
theorem test_backoffExpiry :
    (after (.backoffExpiry 7) { awake with rsq := { awake.rsq with backoff := some 10000007 } }).rsq.backoff = none := by
  decide
theorem test_drainTimerExpiry : (after (.drainTimerExpiry 120000000) draining).count .drainFailures = 1 := by decide
theorem test_recallTimerExpiry :
    (after (.recallTimerExpiry 10000000) (covered (pledge .called none))).cvu.book.map (·.attempts) = [2] := by decide
theorem test_recallGuardExpiry :
    (after (.recallGuardExpiry 0) { awake with cvu := { awake.cvu with recallGuard := some 5 } }).cvu.recallGuard =
      none := by decide
theorem test_restGuardExpiry :
    (after (.restGuardExpiry 0)
      { awake with rsq := { awake.rsq with restGuard := some 5, recentRecall := true } }).rsq.recentRecall = false := by
  decide
theorem test_heldInReset : (after (.heldInReset 0) deep).ownNextEvent = none := by decide
theorem test_lineIdle :
    (after (.lineIdle 0) { awake with lif := { awake.lif with receiver := .waiting } }).lif.receiver = .idle := by decide
/-- The winner's frame breaks off before its length. -/
theorem test_lineIdle_inFrame :
    let lost := after (.contentionLoss 0) (after (.transmissionAttempt 0) (queued [.fresh .beacon] awake))
    (after (.lineIdle 0) lost).lif.receiver = .idle ∧ (after (.lineIdle 0) lost).count .framingErrors = 1 := by decide

/-! ## Formats and one step -/

theorem test_check : crc [0x31, 0x32, 0x33, 0x34, 0x35, 0x36, 0x37, 0x38, 0x39] = 0x29B1 := by decide +kernel
theorem test_frame :
    (frameCharacters { priority := 0, sender := 8, kind := 1, sector := 2, addressee := 9, payload := [3] }).take 5 =
      [0x08, 0x0A, 0x09, 0x01, 0x03] := by decide
theorem test_frame_ends :
    readFrame (withCheck [0x08, 0x0A, 0x09, 0x01, 0x03] ++ [0xFF]) = readFrame (withCheck [0x08, 0x0A, 0x09, 0x01, 0x03]) ∧
      readFrame [0x08, 0x0A, 0x09, 0x01, 0x03, 0x00] = .inr .framing := by decide +kernel
theorem test_clampCount :
    (loadRecord (withCheck (((record 2 1 600).take 69).set 4 0))).clampCount = 1 := by decide +kernel
theorem test_linkCommand :
    linkCommand 0 (withCheck [0x01, 0x7D, 0x00, 0xA0]) = .validSample 0 500 20 .onAir := by decide +kernel
theorem test_step_idles : step { awake with held := true } = .next { awake with held := true } := rfl
theorem test_step_own_event :
    (match step awake with
      | .next t => t.pending
      | _ => []) = [.ownBeaconTime 2000000] := by decide

/-! ## Premises met: every statement with hypotheses -/

/-- Hearing, from its four parts. -/
theorem hears (s : State)
    (h : (s.held = false ∧ s.rsq.phase ≠ .loading) ∧ s.lif.receiver ≠ .waiting ∧ s.lif.attempting = false) : Hears s :=
  ⟨h.1.1, h.1.2, h.2.1, h.2.2⟩

/-- LOADING, from its parts. -/
theorem inLoading : InLoading State.reset := ⟨rfl, rfl, rfl, ⟨rfl, rfl⟩, rfl⟩

theorem factoryKept : ProfileKept Config.factoryProfile := by
  constructor <;> decide

/-- The configuration of the tests lies in its ranges. -/
theorem imageKept : ImageKept image where
  capacity := by decide
  standbyAllowance := by decide
  deepAllowance := by decide
  drainLimit := by decide
  profiles n := by unfold Profiles.get; split <;> exact factoryKept

/-- The view of a state, from its decided parts. -/
theorem viewKept (own : Nat) (v : PeerView)
    (h : (v.slots.length = 16 ∧ v.pointer < 16) ∧ (v.entries.map (·.station)).Pairwise (· ≠ ·) ∧
      ∀ e ∈ v.entries, e.station ≤ 59 ∧ e.station ≠ own) : ViewKept own v :=
  ⟨h.1.1, h.2.1, h.2.2, h.1.2⟩

/-- A state with the configuration of the tests keeps its promises, from the decided parts. -/
theorem kept (s : State) (image_ : s.image = image) (phase : s.rsq.phase ≠ .loading) (load : s.cfl.load = .done)
    (book : s.cvu.book = []) (demand : s.lde.state = .tracking ∧ s.lde.demand = some 160 ∧ s.lde.level = some 10)
    (cover :
      ((s.rsq.phase = .seeking ∨ s.rsq.phase = .draining ∨ s.rsq.phase = .standby ∨ s.rsq.phase = .deep) →
        s.rsq.cover ≠ none) ∧
        ((s.rsq.phase = .loading ∨ s.rsq.phase = .awake ∨ s.rsq.phase = .mute) → s.rsq.cover = none) ∧
        (s.rsq.cover = none ∨ s.rsq.cover = some 12 ∧ s.own = 8))
    (clock : s.rsq.restClock.measured = 0)
    (window : s.plu.windowOpen = true) (view : ViewKept s.own s.pvt) (queue : s.lif.queue = []) (backlog : s.clp.backlog = [])
    (counts : s.count .granted = s.removals) (clamps : s.cfl.clampCount = 0)
    (fault : s.clp.carrierFault = (s.clp.lastCondition == some .fault)) : s.Inv where
  book := by rw [book]; exact ⟨by decide, by decide, by decide⟩
  pledges := by rw [book]; simp
  bookOnlyAwake h := absurd book h
  coverRecorded :=
    { held := cover.1
      cleared := cover.2.1
      other := by
        intro c hc
        rcases cover.2.2 with h | ⟨h, own⟩
        · rw [h] at hc; cases hc
        · rw [h] at hc; cases hc; rw [own]; decide }
  closedMeansUp h := absurd (window.symm.trans h) (by decide)
  restClock := by unfold RestClockKept; rw [clock]; exact Nat.zero_le _
  view := view
  queue := by rw [queue]; exact ⟨by decide, by decide, by decide, by decide⟩
  backlog := by rw [backlog]; decide
  estimate := by
    unfold EstimateKept
    rw [demand.1, image_]
    exact ⟨160, demand.2.1, demand.2.2, by decide⟩
  loading := ⟨⟨fun h => absurd h phase, fun h => absurd (load.symm.trans h) (by decide)⟩, fun h => absurd h phase⟩
  accounted _ := by rw [book]; exact counts
  image := by rw [image_]; exact imageKept
  clamps := by rw [clamps]; decide
  carrierFault := fault

theorem openKept : open_.Inv :=
  kept open_ rfl (by decide) rfl rfl ⟨rfl, rfl, rfl⟩ ⟨by decide, by decide, .inl rfl⟩ rfl rfl (viewKept _ _ (by decide)) rfl rfl (by decide)
    rfl rfl

theorem standbyKept : standby.Inv :=
  kept standby rfl (by decide) rfl rfl ⟨rfl, rfl, rfl⟩ ⟨by decide, by decide, .inr ⟨rfl, rfl⟩⟩ rfl rfl (viewKept _ _ (by decide)) rfl rfl
    (by decide) rfl rfl

theorem witness_IdleAndHeldDevice :
    awake.pending = [] ∧ (after (.heldInReset 0) awake).held = true ∧
      (awake.held = false ∧ awake.canAttempt = false ∧ awake.runningTimers ≠ []) ∧
      (queued [.fresh .beacon] awake).canAttempt = true := ⟨rfl, by decide, ⟨rfl, by decide, by simp [State.runningTimers, awake]⟩, by decide⟩

theorem witness_SecondsCountersMeasure :
    ∃ t, exec (.lineIdle 1500) standby = .next t ∧ standby.rsq.phase = .standby ∧ standby.plu.windowOpen = true :=
  ⟨_, rfl, rfl, rfl⟩

theorem witness_ReadEndsAbsentOrLate :
    InLoading State.reset ∧ Expired State.reset.cfl.readTimer State.reset 50000 ∧ awake.held = false ∧
      awake.cfl.load = .done := ⟨inLoading, ⟨_, rfl, by decide⟩, rfl, rfl⟩

/-- Records at the ends of the three fields: the check wrong, sector 8, role 3, capacity 0, and sector 7 with role 2 and
capacity 1. -/
theorem witness_CompleteReadIsChecked :
    InLoading State.reset ∧
      ([(record 2 1 600).set 70 0, record 8 0 600, record 7 3 600, record 7 2 0, record 7 2 1].all fun r => r.length = 71) ∧
      ((record 2 1 600).set 70 0).drop 69 ≠ twoBytes (crc (((record 2 1 600).set 70 0).take 69)) ∧
      ([record 8 0 600, record 7 3 600, record 7 2 0, record 7 2 1].all fun r =>
        r.drop 69 = twoBytes (crc (r.take 69))) := ⟨inLoading, by decide, by decide +kernel, by decide +kernel⟩

theorem witness_RestartResetsBlocks :
    Hears standby ∧ fromMaintenance 60 = true ∧ (60 : BitVec 6) ≠ standby.cfl.station :=
  ⟨hears _ (by decide), by decide, by decide⟩

theorem witness_ValidSampleIsAnswered : awake.held = false := rfl

/-- 499 ms after the last used sample, and a station in LOADING. -/
theorem witness_UnusedSamples :
    State.reset.held = false ∧ State.reset.rsq.phase = .loading ∧ open_.held = false ∧ open_.rsq.phase ≠ .loading ∧
      open_.lde.lastUsed = some 9000 ∧ ¬(open_.clock + 0) / 1000 < 9000 + 500 ∧
      ({ open_ with clock := 9499999 }.clock + 0) / 1000 < 9000 + 500 := by decide

/-- 500 ms after the last used sample, and before any. -/
theorem witness_UsedSampleIsFolded :
    SampleUsed { open_ with clock := 9500000 } 0 ∧ SampleUsed awake 0 ∧ awake.rsq.phase ≠ .loading ∧
      awake.lde.state ≠ .tracking ∧ standby.rsq.phase ≠ .awake :=
  ⟨.inr ⟨9000, rfl, by decide⟩, .inl rfl, by decide, by decide, by decide⟩

theorem witness_SmoothingStepTowardDemand :
    open_.held = false ∧ open_.rsq.phase ≠ .loading ∧ SampleUsed open_ 0 ∧ open_.lde.state = .tracking ∧
      open_.lde.demand = some 160 ∧ 160 ≤ 16 * open_.image.capacity ∧ 2 ≤ open_.profile.shift :=
  ⟨rfl, by decide, .inr ⟨9000, rfl, by decide⟩, rfl, rfl, by decide, by decide⟩

theorem witness_RecordsNotSamples :
    awake.held = false ∧ awake.clp.backlog.length < 2 ∧
      2 ≤ (after (.unrecognizedRecord 0) (after (.unrecognizedRecord 0) awake)).clp.backlog.length ∧
      (after (.unrecognizedRecord 0) awake).clp.backlog = ⟨false, .awake, .run⟩ :: [] := by decide

theorem termsFormed_open : TermsFormed open_ := by
  unfold TermsFormed; rw [if_neg (by decide)]; decide

theorem witness_LinkWatchExpiryLosesLink :
    Expired seeking.clp.watch seeking 5000000 ∧ seeking.lde.linkLost = false ∧ seeking.rsq.phase = .seeking ∧
      (Expired open_.clp.watch open_ 5000000 ∧ open_.rsq.phase ≠ .seeking ∧ TermsFormed open_ ∧
        open_.profile.rouse.code ≠ 8) ∧
      (covered (pledge .granted none)).cvu.calling = false ∧
      chooseRecall (covered (pledge .granted none)).cvu.book = some (pledge .granted none) :=
  ⟨⟨_, rfl, by decide⟩, rfl, rfl, ⟨⟨_, rfl, by decide⟩, by decide, termsFormed_open, by decide⟩, by decide, by decide⟩

theorem witness_CeilingAndWakeLimit : ImageKept open_.image ∧ 20 ≤ open_.image.capacity := ⟨imageKept, by decide⟩

theorem witness_CommittedLoad :
    open_.Inv ∧ open_.cvu.book = [] ∧ open_.lde.state = .tracking ∧ open_.lde.level.isSome = true ∧
      State.reset.lde.state = .unseeded ∧ (after (.linkWatchExpiry 60000000) open_).lde.state = .blind :=
  ⟨openKept, by decide⟩

theorem witness_AdvertisedRoom :
    (open_.rsq.phase = .awake ∧ open_.image.role ≠ .stay ∧ open_.lde.state = .tracking ∧ open_.lif.clash = false ∧
        open_.plu.windowOpen = true) ∧ awake.plu.windowOpen = false ∧
      ({ covered { pledge .granted none with reserve := 7520 } with cfl := open_.cfl }.ceilingN ≤
        { covered { pledge .granted none with reserve := 7520 } with cfl := open_.cfl }.committed) ∧
      ImageKept { image with capacity := 1 } :=
  ⟨by decide, rfl, by decide, { imageKept with capacity := by decide }⟩

theorem witness_ReservesDecay :
    open_.held = false ∧ open_.rsq.phase ≠ .loading ∧ SampleUsed open_ 0 ∧ 2 ≤ open_.profile.shift :=
  ⟨rfl, by decide, .inr ⟨9000, rfl, by decide⟩, by decide⟩

/-- The common premises of an ask of station 9, and a state at which each of the eight tests is the first to apply; the last
asks for one CU more than fits. -/
theorem witness_AskDeniedInOrder :
    Hears open_ ∧ fromMaintenance 9 = false ∧ (9 : BitVec 6) ≠ open_.cfl.station ∧ open_.rsq.phase ≠ .mute ∧
      open_.cvu.book = [] ∧ (3 : BitVec 3) ≠ open_.image.sector ∧
      ({ open_ with cfl := { open_.cfl with image := { image with role := .stay } } }.image.role = .stay) ∧
      ({ open_ with lif := { open_.lif with clash := true } }.lif.clash = true) ∧ awake.lde.state ≠ .tracking ∧
      ({ open_ with plu := awake.plu }.plu.windowOpen = false) ∧ standby.rsq.phase ≠ .awake ∧
      (6 ≤ ((List.range 6).map fun n => { pledge .granted none with leaner := n }).length) ∧
      open_.ceilingN < open_.committed + 471 :=
  ⟨hears _ (by decide), by decide⟩

/-- An ask that fits to the last CU. -/
theorem witness_AskGranted :
    Hears open_ ∧ fromMaintenance 9 = false ∧ open_.image.role ≠ .stay ∧ open_.lif.clash = false ∧
      open_.lde.state = .tracking ∧ open_.plu.windowOpen = true ∧ open_.rsq.phase = .awake ∧ open_.cvu.book = [] ∧
      open_.committed + 470 = open_.ceilingN := ⟨hears _ (by decide), by decide⟩

theorem bookKept (p : Pledge) : BookKept [p] :=
  ⟨by simp, by simp, by simp only [List.filter]; split <;> simp⟩

/-- A second leaner, resting. -/
def second : Pledge := { pledge .resting (some .standby) with leaner := 10 }

/-- A cover whose window is closed: leaner 9 CALLED, and another pledge to call. -/
def closed : State :=
  { covered (pledge .called none) with
    plu := awake.plu
    cvu := { (covered (pledge .called none)).cvu with book := [pledge .called none, second] } }

theorem closedKept : BookKept closed.cvu.book := ⟨by decide, by decide, by decide⟩

/-- A re-ask that is granted, one of a CALLED pledge that is alone, and one in a closed window with another pledge to call. -/
theorem witness_AskReplacesEarlierPledge :
    Hears (covered (pledge .called none)) ∧ BookKept (covered (pledge .called none)).cvu.book ∧
      pledge .called none ∈ (covered (pledge .called none)).cvu.book ∧ (pledge .called none).leaner = (9 : BitVec 6).toNat ∧
      ((after (.coverAsk 0 9 2 7 20) (covered (pledge .called none))).cvu.book.map (·.tag) = [7]) ∧
      (Hears closed ∧ BookKept closed.cvu.book ∧ closed.continuousRecall = true ∧
        chooseRecall (closed.cvu.book.filter (·.leaner != (9 : BitVec 6).toNat)) = some second) :=
  ⟨hears _ (by decide), bookKept _, by decide, rfl, by decide, hears _ (by decide), closedKept, by decide, by decide⟩

/-- An unmatched tag, a match outside a call, a match of a call, and one in continuous-recall mode with a pledge left. -/
theorem witness_ResumeReleases :
    Hears (covered (pledge .called none)) ∧ (pledge .called none).tag ≠ 4 ∧ (pledge .called none).tag = 3 ∧
      (covered (pledge .called none)).continuousRecall = false ∧
      BookKept [pledge .called none, { pledge .granted none with leaner := 10 }] ∧
      { covered (pledge .called none) with plu := awake.plu }.continuousRecall = true ∧
      chooseRecall
        (([pledge .called none, { pledge .granted none with leaner := 10 }]).filter
          (·.leaner != (9 : BitVec 6).toNat)) = some { pledge .granted none with leaner := 10 } :=
  ⟨hears _ (by decide), by decide, by decide, by decide, ⟨by decide, by decide, by decide⟩, by decide, by decide⟩

theorem witness_RecallTakesNewest :
    ∀ p ∈ [pledge .resting (some .deep), pledge .resting (some .standby), pledge .granted none],
      p.state = .granted ∨ p.state = .resting ∧ (p.depth = some .standby ∨ p.depth = some .deep) := by decide

/-- A cover at its wake limit does not start a recall; one CU above it does. -/
theorem witness_OverloadStartsRecall :
    open_.held = false ∧ open_.rsq.phase = .awake ∧ SampleUsed open_ 0 ∧ open_.plu.windowOpen = true ∧
      open_.lif.clash = false ∧ open_.wakeLimitW = 540 ∧ (covered (pledge .granted none)).cvu.calling = false ∧
      (covered (pledge .granted none)).cvu.recallGuard = none ∧
      (chooseRecall ((covered (pledge .granted none)).cvu.book.map (decayPledge 4))).isSome = true :=
  ⟨rfl, rfl, .inr ⟨9000, rfl, by decide⟩, rfl, rfl, by decide, by decide, rfl, by decide⟩

/-- The first attempt over, the third over outside the mode, and the third over in it with another pledge left. -/
theorem witness_RecallTimerExpiryRetries :
    let called := pledge .called none
    let third := { called with attempts := 3 }
    let other := { pledge .granted none with leaner := 10 }
    let closed := { covered third with plu := awake.plu, cvu := { (covered third).cvu with book := [third, other] } }
    Expired (covered called).cvu.recallTimer (covered called) 10000000 ∧ BookKept (covered called).cvu.book ∧
      called.attempts < 3 ∧ 3 ≤ third.attempts ∧ (covered third).continuousRecall = false ∧
      Expired closed.cvu.recallTimer closed 10000000 ∧ BookKept closed.cvu.book ∧ closed.continuousRecall = true ∧
      chooseRecall (closed.cvu.book.filter (·.leaner != third.leaner)) = some other :=
  ⟨⟨_, rfl, by decide⟩, bookKept _, by decide, by decide, by decide, ⟨_, rfl, by decide⟩,
    ⟨by decide, by decide, by decide⟩, by decide, by decide⟩

theorem witness_GuardsExpire :
    Expired (some 5) awake 0 ∧ TermsFormed open_ ∧ open_.profile.rouse.code ≠ 12 :=
  ⟨⟨_, rfl, by decide⟩, termsFormed_open, by decide⟩

/-- A leaner heard again: AWAKE, and in STANDBY under this station. Its first beacon: with a slot free, and with an entry to
evict; and the end of a call in a closed window with another pledge to call. -/
theorem witness_LeanerBeaconFollowed :
    let s := viewing (some { anchor with station := 9 } :: List.replicate 15 none) (covered (pledge .granted none))
    let full :=
      viewing ((List.range 16).map fun n => some { anchor with station := 20 + n, age := 3 }) (covered (pledge .granted none))
    (Hears s ∧ BookKept s.cvu.book ∧ (s.pvt.find (9 : BitVec 6).toNat).isSome = true) ∧
      (readBeacon 9 (beacon 0 0xFF [] [])).map (·.phase) = some .awake ∧
      (readBeacon 9 (beacon 3 8 [] [])).map (fun h => (h.phase, h.cover)) = some (.standby, some 8) ∧
      (Hears closed ∧ ViewKept closed.own closed.pvt ∧ none ∈ closed.pvt.slots ∧ closed.continuousRecall = true ∧
        chooseRecall (closed.cvu.book.filter (·.leaner != (9 : BitVec 6).toNat)) = some second) ∧
      (Hears full ∧ ViewKept full.own full.pvt ∧
        ∃ e ∈ full.pvt.entries, 3 ≤ e.age ∧ full.rsq.cover ≠ some e.station ∧ ∀ q ∈ full.cvu.book, q.leaner ≠ e.station) :=
  ⟨⟨hears _ (by decide), bookKept _, by decide⟩, by decide, by decide,
    ⟨hears _ (by decide), viewKept _ _ (by decide), by decide⟩, hears _ (by decide), viewKept _ _ (by decide), by decide⟩

/-- Malformed beacons: phase 7, capacity 0, a repeated leaner, a descending list, a number of 60. -/
theorem witness_BeaconFieldChecks :
    Hears awake ∧ fromMaintenance 9 = false ∧ readBeacon 9 (beacon 7 0xFF [] []) = none ∧
      readBeacon 9 { beacon 0 0xFF [] [] with capacity := 0 } = none ∧ readBeacon 9 (beacon 0 0xFF [3, 3] []) = none ∧
      readBeacon 9 (beacon 0 0xFF [] [4, 3]) = none ∧ readBeacon 9 (beacon 0 60 [] []) = none :=
  ⟨hears _ (by decide), by decide⟩

theorem witness_BeaconUpdatesOrInserts :
    Hears (hearing awake) ∧ ViewKept (hearing awake).own (hearing awake).pvt ∧
      (readBeacon 12 (beacon 0 0xFF [] [])).isSome = true ∧ (hearing awake).pvt.slots[0]? = some (some anchor) ∧
      anchor.station = (12 : BitVec 6).toNat ∧ (∀ e ∈ (hearing awake).pvt.entries, e.station ≠ (9 : BitVec 6).toNat) ∧
      (hearing awake).pvt.slots[1]? = some none ∧ ∀ j < 1, (hearing awake).pvt.slots[j]? ≠ some none :=
  ⟨hears _ (by decide), viewKept _ _ (by decide), by decide⟩

/-- A full view whose entries are all STALE but none pinned, and one whose entries are all FRESH. -/
theorem witness_FullViewEvictsOrDrops :
    let full := fun age : Nat => (List.range 16).map fun n => some { anchor with station := 20 + n, age := age }
    Hears (viewing (full 3) awake) ∧ ViewKept 8 (viewing (full 3) awake).pvt ∧ ViewKept 8 (viewing (full 2) awake).pvt ∧
      (∀ slot ∈ full 3, slot ≠ none) ∧ (∀ e ∈ (viewing (full 3) awake).pvt.entries, e.station ≠ (9 : BitVec 6).toNat) :=
  ⟨hears _ (by decide), viewKept _ _ (by decide), viewKept _ _ (by decide), by decide, by decide⟩

/-- No entry, the cover's entry, a leaner's entry, and a CALLED leaner's in a closed window with another pledge to call. -/
theorem witness_OtherSectorBeaconRemoves :
    let heard := viewing (some { anchor with station := 9 } :: List.replicate 15 none)
    (Hears standby ∧ ViewKept standby.own standby.pvt ∧ BookKept standby.cvu.book) ∧
      ((readBeacon 12 (beacon 0 0xFF [] [])).isSome = true ∧ (3 : BitVec 3) ≠ standby.image.sector ∧
        (∀ e ∈ standby.pvt.entries, e.station ≠ (9 : BitVec 6).toNat) ∧ standby.pvt.slots[0]? = some (some anchor) ∧
        standby.rsq.cover = some anchor.station ∧ standby.profile.rouse = { code := 15, inverted := true } ∧
        draining.rsq.phase = .draining ∧ draining.rsq.cover = some anchor.station ∧ draining.cvu.book = []) ∧
      ((heard closed).rsq.cover ≠ some (9 : BitVec 6).toNat ∧
        (heard closed).pvt.slots[0]? = some (some { anchor with station := 9 }) ∧ closed.continuousRecall = true ∧
        (covered (pledge .called none)).continuousRecall = false ∧
        chooseRecall (closed.cvu.book.filter (·.leaner != (9 : BitVec 6).toNat)) = some second) ∧
      (Hears (heard closed) ∧ ViewKept (heard closed).own (heard closed).pvt ∧ BookKept (heard closed).cvu.book) :=
  ⟨⟨hears _ (by decide), viewKept _ _ (by decide), ⟨by decide, by decide, by decide⟩⟩, by decide, by decide,
    hears _ (by decide), viewKept _ _ (by decide), closedKept⟩

/-- A cover that lists this station, one that omits it, and one no longer AWAKE. -/
theorem witness_CoverBeaconTested :
    Hears standby ∧ (standby.pvt.find (12 : BitVec 6).toNat).isSome = true ∧
      standby.rsq.cover = some (12 : BitVec 6).toNat ∧ standby.profile.rouse = { code := 15, inverted := true } ∧
      standby.rsq.omissions ≤ 2 ∧ (readBeacon 12 (beacon 0 0xFF [8] [])).map (·.covering) = some [8] ∧
      (readBeacon 12 (beacon 0 0xFF [] [])).map (·.covering) = some [] ∧
      (readBeacon 12 (beacon 1 0xFF [] [])).map (·.phase) = some .seeking :=
  ⟨hears _ (by decide), by decide⟩

theorem witness_CoverCandidateChosen :
    ViewKept 8 (hearing awake).pvt ∧ (hearing awake).pvt.chooseCover 500 = some anchor ∧
      (hearing awake).pvt.chooseCover 501 = none := ⟨viewKept _ _ (by decide), by decide, by decide⟩

/-- A sample that makes station 8 ready: the 900th quiet one; with an anchor in view it asks. -/
theorem witness_EligibilityAtUsedSample :
    open_.held = false ∧ open_.rsq.phase = .awake ∧ SampleUsed open_ 0 ∧ open_.clp.link ≠ .lost ∧
      open_.clp.carrierFault = (CarrierCondition.onAir == .fault) ∧
      (after (.validSample 0 0 0 .onAir) (hearing open_)).rsq.phase = .seeking ∧
      (after (.validSample 0 0 0 .onAir) open_).rsq.noCover = true ∧
      (after (.validSample 0 0 5 .onAir) open_).rsq.noCover = false :=
  ⟨rfl, rfl, .inr ⟨9000, rfl, by decide⟩, by decide⟩

theorem witness_GrantStartsDrain :
    Hears seeking ∧ seeking.rsq.phase = .seeking ∧ seeking.rsq.cover = some (12 : BitVec 6).toNat ∧ seeking.rsq.tag = 5 ∧
      (seeking.pvt.find 12).isSome = true ∧ seeking.plu.rouse = false ∧
      { seeking with plu := { seeking.plu with rouse := true } }.plu.rouse = true ∧
      { seeking with pvt := awake.pvt }.pvt.find 12 = none := ⟨hears _ (by decide), by decide⟩

/-- A maintenance number, MUTE, AWAKE, another tag in rest, and the own attempt in rest and returning. -/
theorem witness_NoticesOutsideTheAttempt :
    Hears awake ∧ fromMaintenance 60 = true ∧ fromMaintenance 12 = false ∧ Hears (attempting .mute) ∧ Hears seeking ∧
      Hears standby ∧ Hears (attempting .waking) ∧ standby.rsq.tag ≠ 4 ∧
      (standby.rsq.cover = some (12 : BitVec 6).toNat ∧ standby.rsq.tag = 5) :=
  ⟨hears _ (by decide), by decide, by decide, hears _ (by decide), hears _ (by decide), hears _ (by decide),
    hears _ (by decide), by decide, by decide⟩

theorem witness_DenyOrExpiryIsMiss :
    Hears seeking ∧ seeking.rsq.phase = .seeking ∧ seeking.rsq.cover = some (12 : BitVec 6).toNat ∧ seeking.rsq.tag = 5 ∧
      Expired seeking.rsq.askWait seeking 1000000 := ⟨hears _ (by decide), rfl, rfl, rfl, _, rfl, by decide⟩

theorem witness_RecallWakesLeaner :
    Hears draining ∧ draining.rsq.cover = some (12 : BitVec 6).toNat ∧ draining.rsq.tag = 5 ∧ Hears standby ∧ Hears deep :=
  ⟨hears _ (by decide), rfl, rfl, hears _ (by decide), hears _ (by decide)⟩

theorem witness_WakeFromRestMovesPhase :
    (standby.rsq.phase = .standby ∧ standby.rsq.darkGiven = false) ∧ deep.rsq.phase = .deep ∧
      { standby with rsq := { standby.rsq with darkGiven := true } }.rsq.darkGiven = true ∧
      draining.rsq.phase = .draining ∧ draining.rsq.cover = some 12 := by decide

/-! ## Rouse terms that a change of a condition turns true (R134) -/

/-- STANDBY at the settle limit, the anchor not having listed it. -/
def unsettled (value : Bool) : State := { standby with rsq := { standby.rsq with settleCount := 8, unsettled := value } }

/-- A station with a view of its own making, and ISOLATED as given. -/
def alone (slots : List (Option ViewEntry)) (isolated : Bool) (s : State) : State :=
  { s with pvt := { s.pvt with slots := slots, isolated := isolated } }

/-- A station of the tests whose rouse term was false, now woken with cause ROUSE. -/
def RousesAt (c : Instr) (s : State) : Prop :=
  (s.plu.rouse = false ∧ s.cvu.book = [] ∧ s.held = false) ∧ (after c s).rsq.wakeCause = some .rouse ∧
    (after c s).count (.wakes .rouse) = 1

/-- LINK_LOST at the loss and at the return, RECENT_RECALL at its end, and CLASH, in each of the three phases. -/
theorem witness_RouseTerms :
    ∀ s ∈ [draining, standby, deep],
      RousesAt (.linkWatchExpiry 5000000) (termed ⟨8, false⟩ s) ∧
      RousesAt (.validSample 0 0 0 .drained)
        (termed ⟨8, true⟩ { s with clp := { s.clp with link := .lost, watch := none }, lde := { s.lde with linkLost := true } }) ∧
      RousesAt (.restGuardExpiry 0)
        (termed ⟨12, true⟩ { s with rsq := { s.rsq with recentRecall := true, restGuard := some 5 } }) ∧
      RousesAt (.clashFrame 0) (termed ⟨13, false⟩ s) := by
  intro s hs
  simp only [List.mem_cons, List.not_mem_nil, or_false] at hs
  rcases hs with rfl | rfl | rfl <;> exact ⟨⟨by decide, by decide⟩, ⟨by decide, by decide⟩, ⟨by decide, by decide⟩,
    by decide, by decide⟩

/-- ISOLATED, false at a beacon that updates, is inserted and evicts, true at a removal and at an own beacon time. -/
theorem witness_RouseOnIsolated :
    ∀ s ∈ [draining, standby, deep],
      RousesAt (.beacon 0 12 2 (beacon 0 0xFF [8] []))
        (termed ⟨14, true⟩ (alone (some { anchor with age := 3 } :: List.replicate 15 none) true s)) ∧
      RousesAt (.beacon 0 9 2 (beacon 0 0xFF [] [])) (termed ⟨14, true⟩ (alone (List.replicate 16 none) true s)) ∧
      RousesAt (.beacon 0 9 2 (beacon 0 0xFF [] []))
        (termed ⟨14, true⟩ (alone ((List.range 16).map fun n => some { anchor with station := 20 + n, age := 3 }) true s)) ∧
      RousesAt (.beacon 0 12 3 (beacon 0 0xFF [] [])) (termed ⟨14, false⟩ s) ∧
      RousesAt (.ownBeaconTime 2000000)
        (termed ⟨14, false⟩ (alone (some { anchor with age := 2 } :: List.replicate 15 none) false s)) := by
  intro s hs
  simp only [List.mem_cons, List.not_mem_nil, or_false] at hs
  rcases hs with rfl | rfl | rfl <;> exact ⟨⟨by decide, by decide⟩, ⟨by decide, by decide⟩, ⟨by decide, by decide⟩,
    ⟨by decide, by decide⟩, by decide, by decide⟩

/-- UNSETTLED, true at the beacon of a station new to the view and at an own beacon time, false at a beacon that lists the
station, at a removal and at an own beacon time. -/
theorem witness_RouseOnUnsettled :
    let lone := fun (station : Nat) (age : Nat) (s : State) =>
      alone (some { anchor with station := station, age := age } :: List.replicate 15 none) false s
    RousesAt (.beacon 0 9 2 (beacon 0 0xFF [] [])) (termed ⟨11, false⟩ (unsettled false)) ∧
      RousesAt (.ownBeaconTime 2000000) (termed ⟨11, false⟩ (unsettled false)) ∧
      RousesAt (.beacon 0 9 2 (beacon 0 0xFF [] [8])) (termed ⟨11, true⟩ (lone 9 1 (unsettled true))) ∧
      RousesAt (.beacon 0 9 3 (beacon 0 0xFF [] [])) (termed ⟨11, true⟩ (lone 9 1 (unsettled true))) ∧
      RousesAt (.ownBeaconTime 2000000) (termed ⟨11, true⟩ (lone 9 2 (unsettled true))) :=
  ⟨⟨by decide, by decide⟩, ⟨by decide, by decide⟩, ⟨by decide, by decide⟩, ⟨by decide, by decide⟩, by decide, by decide⟩

/-- In each phase, SEEKING and MUTE among them, and samples that raise CARRIER_FAULT in DRAINING and clear it at the return to
air, under a rouse term that does not test it; a DARK report in UNSETTLED, under a rouse term that does not test it and one that
does; and under a rouse term that tests CARRIER_FAULT, in either sense, the sample that makes it true in DRAINING, STANDBY and
DEEP. -/
theorem witness_DrainAndCarrierReports :
    (∀ s ∈ [seeking, attempting .mute],
      s.held = false ∧ s.rsq.restClock.mode = .stopped ∧ s.cvu.book = [] ∧
        (after (.validSample 0 0 0 .fault) s).rsq.phase = s.rsq.phase ∧
        (after (.validSample 0 0 0 .fault) s).clp.carrierFault = true) ∧
      Expired draining.rsq.drainTimer draining 120000000 ∧
      (∀ s ∈ [draining, standby, deep, attempting .waking, attempting .warming],
        s.held = false ∧ s.clp.link ≠ .lost ∧ s.clp.carrierFault = false ∧ s.plu.rouse = false ∧
        s.rsq.unsettled = false ∧ s.cvu.book = []) ∧
      (TermsFormed draining ∧ draining.profile.rouse.code ≠ 9 ∧
        draining.clp.carrierFault ≠ (CarrierCondition.fault == .fault)) ∧
      (faulted (attempting .waking)).clp.carrierFault ≠ (CarrierCondition.onAir == .fault) ∧
      (TermsFormed { deep with rsq := { deep.rsq with phase := .standby, unsettled := true } } ∧
        (after (.validSample 0 0 0 .dark)
          { deep with rsq := { deep.rsq with phase := .standby, unsettled := true } }).rsq.phase = .deep) ∧
      (TermsFormed (termed ⟨11, true⟩ { deep with rsq := { deep.rsq with phase := .standby, unsettled := true } }) ∧
        (after (.validSample 0 0 0 .dark)
          (termed ⟨11, true⟩ { deep with rsq := { deep.rsq with phase := .standby, unsettled := true } })).rsq.phase =
          .warming) ∧
      (∀ s ∈ [draining, standby, deep],
        TermsFormed (termed ⟨9, false⟩ s) ∧ (termed ⟨9, false⟩ s).plu.rouse = false ∧
          (after (.validSample 0 0 0 .fault) (termed ⟨9, false⟩ s)).count (.wakes .rouse) = 1) ∧
      ∀ s ∈ [draining, standby, deep],
        TermsFormed (termed ⟨9, true⟩ (faulted s)) ∧ (termed ⟨9, true⟩ (faulted s)).plu.rouse = false ∧
          (after (.validSample 0 0 0 .onAir) (termed ⟨9, true⟩ (faulted s))).rsq.phase = .awake := by
  refine ⟨by decide, ⟨_, rfl, by decide⟩, by decide, ⟨termsFormed _ (by decide), by decide⟩, by decide,
    ⟨termsFormed _ (by decide), by decide⟩, ⟨termsFormed _ (by decide), by decide⟩, fun s hs => ?_, fun s hs => ?_⟩
  all_goals
    simp only [List.mem_cons, List.not_mem_nil, or_false] at hs
    rcases hs with rfl | rfl | rfl <;> exact ⟨termsFormed _ (by decide), by decide⟩

/-- A mask without and with sector 2. -/
theorem witness_WindowOpenTaken :
    Hears awake ∧ Hears open_ ∧ (60 : BitVec 6) ≠ awake.cfl.station ∧ fromMaintenance 60 = true ∧
      (0xFB : BitVec 8).getLsbD awake.image.sector.toNat = false ∧
      (0x04 : BitVec 8).getLsbD awake.image.sector.toNat = true :=
  ⟨hears _ (by decide), hears _ (by decide), by decide⟩

theorem witness_WindowCloses :
    Expired open_.plu.windowTimer open_ 600000000 ∧ Hears open_ ∧ open_.plu.windowOpen = true ∧ Hears awake ∧
      awake.plu.windowOpen = false ∧ Hears seeking ∧ Hears draining ∧ Hears standby ∧ Hears deep :=
  ⟨⟨_, rfl, by decide⟩, hears _ (by decide), rfl, hears _ (by decide), rfl, hears _ (by decide), hears _ (by decide),
    hears _ (by decide), hears _ (by decide)⟩

/-- A station whose rouse term tests SF0 in every profile but the first, and in the first when asked. -/
def rousing (first : Bool) (s : State) : State :=
  let rouse : Profile := { Config.factoryProfile with rouse := { code := 0, inverted := false } }
  let p0 := if first then rouse else Config.factoryProfile
  { s with cfl := { s.cfl with image := { image with profiles := { p0 := p0, p1 := rouse, p2 := rouse, p3 := rouse } } } }

/-- STANDBY with DARK given. -/
def darkened : State := { standby with rsq := { standby.rsq with darkGiven := true } }

/-- A flag that is the rouse term set in DRAINING, in STANDBY with DARK given clear and set, and in DEEP. -/
theorem witness_FlagsTaken :
    (∀ s ∈ [draining, standby, darkened, deep],
      Hears (rousing true s) ∧ (rousing true s).plu.rouse = false ∧
        (after (.flags 0 60 ⟨.set, .keep, .keep, .keep, .keep, .keep, .keep, .keep⟩ 4) (rousing true s)).plu.rouse = true) ∧
      TermsFormed open_ := by
  refine ⟨fun s hs => ?_, termsFormed_open⟩
  simp only [List.mem_cons, List.not_mem_nil, or_false] at hs
  rcases hs with rfl | rfl | rfl | rfl <;> exact ⟨hears _ (by decide), by decide⟩

/-- Profile 3 is the last, 4 is none; and a change to a profile whose rouse term is true in DRAINING, in STANDBY with DARK given
clear and set, and in DEEP. -/
theorem witness_ProfileTaken :
    (Hears awake ∧ (3 : Byte).toNat ≤ 3 ∧ (3 : Byte).toNat ≠ awake.plu.activeProfile.toNat ∧
      (0 : Byte).toNat = awake.plu.activeProfile.toNat ∧ 3 < (4 : Byte).toNat ∧
      (0x04 : BitVec 8).getLsbD awake.image.sector.toNat = true) ∧
      ∀ s ∈ [draining, standby, darkened, deep],
        let t := rousing false { s with plu := { s.plu with flags := { s.plu.flags with sf0 := true } } }
        Hears t ∧ t.plu.rouse = false ∧ (after (.profile 0 60 3 4) t).plu.rouse = true := by
  refine ⟨⟨hears _ (by decide), by decide⟩, fun s hs => ?_⟩
  simp only [List.mem_cons, List.not_mem_nil, or_false] at hs
  rcases hs with rfl | rfl | rfl | rfl <;> exact ⟨hears _ (by decide), by decide⟩

/-- Page 3 is the last, 4 is none; a rest clock at its largest reading. -/
theorem witness_StatusAnswered :
    Hears awake ∧ (60 : BitVec 6) ≠ awake.cfl.station ∧ fromMaintenance 60 = true ∧ (3 : BitVec 3).toNat ≤ 3 ∧
      3 < (4 : BitVec 3).toNat ∧
      (RestClock.over { mode := .running, measured := 4294967294999999 } 2).measured = 4294967295000000 :=
  ⟨hears _ (by decide), by decide⟩

theorem witness_ClearCountersTaken :
    Hears awake ∧ (3 : BitVec 3).toNat ≤ 3 ∧ awake.lif.queue = [] := ⟨hears _ (by decide), by decide⟩

/-- A head that can be tried, and an attempt in progress before its third abandon and at its fourth. -/
theorem witness_AttemptRunsItsCourse :
    let e : Entry := ⟨.resume 12 5, 2, some .asQueued⟩
    (queued [.fresh .beacon] awake).lif.receiver = .idle ∧ (queued [.fresh .beacon] awake).lif.attempting = false ∧
      (queued [e] awake).lif.queue = [] ++ e :: [] ∧ e.driven = true ∧ e.abandons < 3 ∧
      3 ≤ { e with abandons := 3 }.abandons := by decide

theorem witness_BeaconComposed :
    standby.Inv ∧ standby.rsq.phase ≠ .loading ∧ standby.rsq.phase ≠ .mute ∧ ViewKept 8 standby.pvt ∧
      ∀ e ∈ standby.pvt.entries, e.age ≤ 31 := ⟨standbyKept, by decide, by decide, viewKept _ _ (by decide), by decide⟩

/-- Kind 12 is the last known, 13 and 0 are none; the shortest and the longest BEACON and STATUS, and lengths beside
them; a frame still in reception, and a frame of the station's own. -/
theorem witness_FramesThatReachNoBlock :
    Hears awake ∧ State.reset.rsq.phase = .loading ∧ awake.lif.attempting = false ∧
      ((12 : BitVec 5).toNat = kindIndex .status + 1 ∧ 12 < (13 : BitVec 5).toNat) ∧
      (addressSuits .beacon 8 = false ∧ addressSuits .beacon 0xFF = true ∧ addressSuits .resume 0xFF = false ∧
        lengthSuits .recall [] = false) ∧
      (lengthSuits .beacon (List.replicate 8 0) = true ∧ lengthSuits .beacon (List.replicate 9 0) = false ∧
        lengthSuits .beacon (List.replicate 38 0xFF) = true ∧ lengthSuits .beacon (List.replicate 7 0) = false) ∧
      (lengthSuits .status [0x84] = false ∧ lengthSuits .status [4, 0] = true ∧
        lengthSuits .status (List.replicate 48 0) = true ∧ lengthSuits .status (List.replicate 49 0) = false) ∧
      (addressSuits .flags 8 = true ∧ lengthSuits .flags [0, 0, 4] = true ∧ maintenanceKind .flags = true ∧
        fromMaintenance 59 = false) ∧
      (after (.transmissionAttempt 0) (queued [.fresh .beacon] awake)).lif.attempting = true ∧
      (after (.contentionLoss 0) (after (.transmissionAttempt 0) (queued [.fresh .beacon] awake))).lif.receiver =
        .inFrame := ⟨hears _ (by decide), by decide⟩

theorem witness_OwnNumberRaisesClash :
    Hears standby ∧ standby.lif.clash = false ∧
      Hears { awake with lif := { awake.lif with clash := true } } ∧ Hears (covered (pledge .granted none)) ∧
      chooseRecall (covered (pledge .granted none)).cvu.book = some (pledge .granted none) :=
  ⟨hears _ (by decide), rfl, hears _ (by decide), hears _ (by decide), by decide⟩

/-- A queue of one kind's entries. -/
def alike (n : Notice) (count : Nat) : List Entry := List.replicate count (.fresh n)

theorem queueKept (q : List Entry)
    (h : (q.length ≤ 8 ∧ (q.filter (·.notice.kind == .beacon)).length ≤ 1) ∧
      q.Pairwise (fun e f => e.priority ≤ f.priority) ∧ (q.filter Entry.driven).length ≤ 1) : QueueKept q :=
  ⟨h.1.1, h.1.2, h.2.1, h.2.2⟩

/-- Seven queued, a beacon queued, a STATUS queued. -/
theorem witness_OfferedNoticeJoins :
    QueueKept (alike (.resume 12 5) 7) ∧ (alike (.resume 12 5) 7).length < 8 ∧
      (∃ e ∈ alike .beacon 1, e.notice = .beacon) ∧
      (∃ e ∈ alike (.status 60 ⟨4, none⟩) 1, e.notice.kind = .status ∧ e.attempt = none) ∧
      awake.rsq.phase ≠ .mute ∧ awake.rsq.phase ≠ .loading :=
  ⟨queueKept _ (by decide), by decide⟩

/-- A full queue none of whose entries is outranked, and one whose last is. -/
theorem witness_FullQueueDisplaces :
    QueueKept (alike (.recall 9 3) 8) ∧ (alike (.recall 9 3) 8).length = 8 ∧
      (∀ e ∈ alike (.recall 9 3) 8, ¬((Notice.recall 9 3).priority < e.priority ∧ e.attempt = none)) ∧
      QueueKept (alike (.resume 12 5) 8) ∧ alike (.resume 12 5) 8 = alike (.resume 12 5) 7 ++ .fresh (.resume 12 5) :: [] ∧
      (Notice.recall 9 3).priority < (Entry.fresh (.resume 12 5)).priority :=
  ⟨queueKept _ (by decide), by decide, by decide, queueKept _ (by decide), by decide⟩

/-- Entries at their last age, at the age before it, and none; a leaner's entry outlived, outside the mode and in it; and the
cover's. -/
theorem witness_BeaconTimeAgesViewAndBook :
    let old := fun station : Nat => viewing (some { anchor with station := station, age := 7 } :: List.replicate 15 none)
    (awake.held = false ∧ awake.lif.beaconTimer = some 12000000 ∧ 12000000 ≤ awake.clock + 2000000 ∧
      outlived { anchor with age := 8 } = true ∧ outlived { anchor with age := 7 } = false) ∧
      (∀ s ∈ [old 9 (covered (pledge .called none)), old 10 closed],
        (after (.ownBeaconTime 2000000) s).count (.removed .leanerLost) = 1 ∧ s.rsq.phase = .awake ∧ s.rsq.cover = none) ∧
      ((covered (pledge .called none)).continuousRecall = false ∧ BookKept (covered (pledge .called none)).cvu.book ∧
        BookKept closed.cvu.book ∧ ViewKept 8 (old 9 awake).pvt ∧ ViewKept 8 (old 10 awake).pvt) ∧
      (old 12 standby).rsq.cover = some 12 ∧ (after (.ownBeaconTime 2000000) (old 12 standby)).rsq.phase = .waking :=
  ⟨by decide, by decide, ⟨by decide, bookKept _, closedKept, viewKept _ _ (by decide), viewKept _ _ (by decide)⟩, by decide⟩

/-- STANDBY, DEEP and AWAKE; a station the settle wake takes, one that decides to go deep, and one that stays unsettled. -/
theorem witness_BeaconTimeRestWork :
    let settle := viewing (List.replicate 16 none) standby
    let rested :=
      viewing (some { anchor with seenUs := true } :: List.replicate 15 none)
        { standby with rsq := { standby.rsq with restClock := { mode := .running, measured := 1800000000 } } }
    let unheard := { standby with rsq := { standby.rsq with settleCount := 7 } }
    (∀ s ∈ [standby, deep, hearing awake, settle, rested, unheard],
      s.held = false ∧ s.profile.rouse = { code := 15, inverted := true } ∧
        outlivedStations (ageSlots s.pvt.slots) = [] ∧ s.lif.beaconTimer = some 12000000) ∧
      Expired standby.lif.beaconTimer standby 2000000 ∧
      (after (.ownBeaconTime 2000000) settle).count (.wakes .settle) = 1 ∧
      (after (.ownBeaconTime 2000000) rested).count .deepDecisions = 1 ∧
      (after (.ownBeaconTime 2000000) unheard).count .unsettledRaisings = 1 :=
  ⟨by decide, ⟨_, rfl, by decide⟩, by decide⟩

theorem witness_CheckFormed : checkedBody (withCheck [0x01, 0x02]) = some [0x01, 0x02] := by decide +kernel

/-- A frame of 48 payload bytes, and one cut short; a check that is wrong; a record of five bytes; maintenance senders, addressed
to all and to one. -/
theorem witness_SentNoticesReadBack :
    (({ priority := 0, sender := 8, kind := 1, sector := 2, addressee := 9, payload := List.replicate 48 3 } :
        Frame).wellFormed = true ∧ (9 : BitVec 6) ≠ awake.cfl.station ∧
      (beacon 0 0xFF (List.replicate 15 1) (List.replicate 15 1)).wellFormed = true) ∧
      (48 < (49 : Byte).toNat ∧ ([3] : List Byte).length = (1 : Byte).toNat ∧ (List.replicate 5 (0 : Byte)).length ≠ 6) ∧
      (fromMaintenance 60 = true ∧ fromMaintenance 63 = true ∧ (60 : BitVec 6) ≠ 9 ∧ (9 : Byte).toNat = (9 : BitVec 6).toNat ∧
        (9 : Byte) ≠ 0xFF) ∧
      (0 : BitVec 16) ≠ crc [0x08, 0x0A, 0x09, 0x01, 0x03] := by decide +kernel

theorem witness_StepKeepsInv : standby.Inv ∧ ∃ t, step { standby with pending := [.recall 0 12 5] } = .next t :=
  ⟨standbyKept, _, rfl⟩

theorem witness_StepKeepsConditionsFormed :
    open_.Inv ∧ TermsFormed open_ ∧ ConditionsFormed open_ ∧ ∃ t, step open_ = .next t :=
  ⟨openKept, termsFormed_open, ⟨by decide, by decide, by decide, by decide⟩, _, rfl⟩

theorem witness_StepKeepsTimersRunning : open_.Inv ∧ TimersRun open_ ∧ ∃ t, step open_ = .next t :=
  ⟨openKept, ⟨by decide, by decide, by decide, by decide, by decide, by decide, by decide, by decide⟩, _, rfl⟩

end Sys2Proof.Tests
end

section
/-! PROOFS. Which counters a used SAMPLE may raise, and that every operation on its way leaves all others (R12, R168). -/

namespace Sys2Proof.Machine

/-- The counters that some operation on the way of a used SAMPLE raises: those of the port and its reply, of the overload and
continuous recalls, of the wakes and the sequencer's moves, of the ask, and of the outbound queue. -/
def raisedByUsedSample : Counter → Bool
  | .queueDiscards _ | .statusReplaced | .validSamples | .repliesDropped | .linkReturns | .carrierFaults
  | .overloadRecalls | .continuousRecalls | .recallsSent | .asksSent | .drainFailures | .wakes _ | .orphanWakes
  | .unsettledRaisings | .restsEntered | .deepEntries => true
  | _ => false

/-- An update of any block but Accounting leaves every counter. -/
@[simp] theorem State.count_of_block (s : State) (c : Counter) :
    (∀ f, (s.onLif f).count c = s.count c) ∧ (∀ f, (s.onPvt f).count c = s.count c) ∧
      (∀ f, (s.onLde f).count c = s.count c) ∧ (∀ f, (s.onCvu f).count c = s.count c) ∧
      (∀ f, (s.onRsq f).count c = s.count c) ∧ (∀ f, (s.onPlu f).count c = s.count c) ∧
      (∀ f, (s.onClp f).count c = s.count c) :=
  ⟨fun _ => rfl, fun _ => rfl, fun _ => rfl, fun _ => rfl, fun _ => rfl, fun _ => rfl, fun _ => rfl⟩

/-- The operations that leave Accounting leave every counter. -/
@[simp] theorem State.count_of_acc (s : State) (c : Counter) :
    s.formValues.count c = s.count c ∧ s.startRestGuard.count c = s.count c ∧ s.zeroQuiet.count c = s.count c ∧
      (∀ cause, (s.leaveRest cause).count c = s.count c) ∧
      (∀ u n arrivedAwake, (s.useSample u n arrivedAwake).count c = s.count c) := by
  refine ⟨?_, ?_, ?_, fun cause => ?_, fun u n arrivedAwake => ?_⟩ <;> exact State.count_eq_of_acc (by simp) c

theorem State.count_doWhen (s : State) {c : Counter} (b : Bool) {work : State → State}
    (kept : (work s).count c = s.count c) :
    (doWhen b work s).count c = s.count c := by
  cases b
  · rfl
  · exact kept

section
variable {c : Counter} (h : raisedByUsedSample c = false) (s : State)
include h

/-- A count of one of the counters leaves every counter outside them. -/
theorem State.count_bump_raised {d : Counter} (raised : raisedByUsedSample d = true) : (s.bump d).count c = s.count c := by
  have other : c ≠ d := by
    rintro rfl
    simp [h] at raised
  rw [State.count_bump, if_neg other]

theorem State.count_enqueue (n : Notice) : (s.enqueue n).count c = s.count c := by
  unfold State.enqueue
  split
  · simp
  · split
    · rw [State.count_bump_raised h _ rfl]; simp
    · exact State.count_bump_raised h _ rfl

theorem State.count_offer (n : Notice) : (s.offer n).count c = s.count c := by
  unfold State.offer
  repeat' split
  · rfl
  · rfl
  · exact State.count_enqueue h s n
  · rw [State.count_bump_raised h _ rfl]; simp
  · exact State.count_enqueue h s n
  · exact State.count_enqueue h s n

theorem State.count_resumeToCover : s.resumeToCover.count c = s.count c := by
  unfold State.resumeToCover
  split
  · exact State.count_offer h s _
  · rfl

/-! ### Wakes and conditions -/

theorem State.count_countWake (cause : WakeCause) : (s.countWake cause).count c = s.count c := by
  unfold State.countWake
  split
  · rw [State.count_bump_raised h _ rfl, State.count_bump_raised h _ rfl]
  · exact State.count_bump_raised h _ rfl

theorem State.count_abortDrain (cause : WakeCause) : (s.abortDrain cause).count c = s.count c := by
  unfold State.abortDrain
  split <;> simp [State.count_resumeToCover h]

theorem State.count_wake (cause : WakeCause) : (s.wake cause).count c = s.count c := by
  unfold State.wake
  split
  · rw [State.count_abortDrain h, State.count_countWake h]
  · simp [State.count_countWake h]
  · simp [State.count_countWake h]
  all_goals rfl

theorem State.count_formTerms : s.formTerms.count c = s.count c := by
  rcases s.formTerms_cases with same | woken
  · simp [same]
  · simp [woken, State.count_wake h]

theorem State.count_rouseAtEntry : s.rouseAtEntry.count c = s.count c :=
  State.count_doWhen s _ (State.count_wake h s .rouse)

theorem State.count_setCondition (old new : Bool) {write : State → State} (kept : (write s).count c = s.count c) :
    (s.setCondition old new write).count c = s.count c := by
  unfold State.setCondition
  split
  · rfl
  · rw [State.count_formTerms h, kept]

theorem State.count_setLinkLost (b : Bool) : (s.setLinkLost b).count c = s.count c :=
  State.count_setCondition h s _ _ (by simp)

theorem State.count_setNoCover (b : Bool) : (s.setNoCover b).count c = s.count c :=
  State.count_setCondition h s _ _ (by simp)

theorem State.count_setCarrierFault (b : Bool) : (s.setCarrierFault b).count c = s.count c :=
  State.count_setCondition h s _ _ ((State.count_doWhen _ _ (State.count_bump_raised h _ rfl)).trans (by simp))

theorem State.count_setUnsettled (b : Bool) : (s.setUnsettled b).count c = s.count c :=
  State.count_setCondition h s _ _ ((State.count_doWhen _ _ (State.count_bump_raised h _ rfl)).trans (by simp))

/-! ### The stages of the sample -/

theorem State.count_portStage (condition : CarrierCondition) : (s.portStage condition).count c = s.count c := by
  unfold State.portStage
  dsimp only
  rw [State.count_setCarrierFault h]
  split <;> simp [State.count_setLinkLost h, State.count_bump_raised h _ (d := .linkReturns) rfl,
    State.count_bump_raised h _ (d := .validSamples) rfl]

theorem State.count_startRecall {counted : Counter} (raised : raisedByUsedSample counted = true) :
    (s.startRecall counted).count c = s.count c := by
  unfold State.startRecall
  split
  · rfl
  · rw [State.count_bump_raised h _ raised]
    simp [State.sendRecall, State.count_bump_raised h _ (d := .recallsSent) rfl, State.count_offer h]

theorem State.count_continuousCheck : s.continuousCheck.count c = s.count c := by
  unfold State.continuousCheck
  split
  · exact State.count_startRecall h s rfl
  · rfl

theorem State.count_overloadTest : s.overloadTest.count c = s.count c := by
  unfold State.overloadTest
  split
  · exact State.count_startRecall h s rfl
  · rfl

theorem State.count_coverStage : s.coverStage.count c = s.count c := by
  unfold State.coverStage
  dsimp only
  split
  · simp [State.count_continuousCheck h]
  · simp [State.count_overloadTest h]

theorem State.count_formSettled : s.formSettled.count c = s.count c := by
  unfold State.formSettled
  split
  · simp [State.count_setUnsettled h]
  · rfl

theorem State.count_enterStandby : s.enterStandby.count c = s.count c := by
  simp [State.enterStandby, State.count_rouseAtEntry h, State.count_formSettled h,
    State.count_bump_raised h _ (d := .restsEntered) rfl]

theorem State.count_enterDeep : s.enterDeep.count c = s.count c := by
  unfold State.enterDeep
  dsimp only
  rw [State.count_rouseAtEntry h]
  split <;> simp [State.count_bump_raised h _ (d := .deepEntries) rfl]

theorem State.count_failDrain : s.failDrain.count c = s.count c := by
  simp [State.failDrain, State.startBackoff, State.count_bump_raised h _ (d := .drainFailures) rfl,
    State.count_resumeToCover h]

theorem State.count_completeWake : s.completeWake.count c = s.count c := by
  unfold State.completeWake
  split <;> simp [State.count_resumeToCover h]

theorem State.count_carrierStep (condition : CarrierCondition) : (s.carrierStep condition).count c = s.count c := by
  unfold State.carrierStep
  split
  case h_1 => simp
  case h_2 => exact State.count_enterStandby h s
  case h_3 => exact State.count_failDrain h s
  case h_4 =>
    split
    · exact State.count_enterDeep h s
    · rfl
  case h_5 => exact State.count_completeWake h s
  case h_6 => exact State.count_completeWake h s
  case h_7 => rfl

theorem State.count_startAttempt (cover amount : Nat) : (s.startAttempt cover amount).count c = s.count c := by
  simp [State.startAttempt, State.count_bump_raised h _ (d := .asksSent) rfl, State.count_offer h]

theorem State.count_eligibilityStage (arrivedAwake : Bool) : (s.eligibilityStage arrivedAwake).count c = s.count c := by
  unfold State.eligibilityStage State.evaluateEligibility
  dsimp only
  repeat' split
  · rw [State.count_startAttempt h, State.count_setNoCover h]
  all_goals simp [State.count_setNoCover h]

theorem State.count_replyToSample : s.replyToSample.count c = s.count c := by
  unfold State.replyToSample State.queueReply
  split <;> simp [State.count_bump_raised h _ (d := .repliesDropped) rfl]

end

end Sys2Proof.Machine
end

section
/-! PROOFS. A used SAMPLE as its stages in order, and what it leaves in the estimator: the values of R5 to R8, and the quiet
counter of R10 and R11. -/

namespace Sys2Proof.Machine

variable (s : State)

/-! ## The phase under the port's work and the eligibility evaluation -/

/-- A change of a condition leaves a station in AWAKE there, and moves none into or out of LOADING: a rouse term it turns true
wakes from DRAINING, STANDBY and DEEP alone (R96, R134). -/
theorem State.setCondition_phase (old new : Bool) {write : State → State} (same : (write s).rsq.phase = s.rsq.phase) :
    (s.rsq.phase = .awake → (s.setCondition old new write).rsq.phase = .awake) ∧
      ((s.setCondition old new write).rsq.phase = .loading ↔ s.rsq.phase = .loading) := by
  have values : (write s).formValues.rsq.phase = s.rsq.phase := by simpa using same
  unfold State.setCondition
  split
  · exact ⟨id, Iff.rfl⟩
  · rcases (write s).formTerms_cases with formed | woken
    · rw [formed, values]
      exact ⟨id, Iff.rfl⟩
    · obtain ⟨awake, loading, -, -⟩ := (write s).formValues.wake_phase_iff .rouse
      rw [woken]
      rw [values] at awake loading
      exact ⟨awake, loading⟩

/-- The port's work leaves a station in AWAKE there, and moves none into or out of LOADING (R154). -/
theorem State.portStage_phase (condition : CarrierCondition) :
    (s.rsq.phase = .awake → (s.portStage condition).rsq.phase = .awake) ∧
      ((s.portStage condition).rsq.phase = .loading ↔ s.rsq.phase = .loading) := by
  have faulted (r : State) (b : Bool) := r.setCondition_phase r.clp.carrierFault b
    (write := fun s => doWhen b (State.bump .carrierFaults) (s.onClp fun c => { c with carrierFault := b }))
    (by cases b <;> simp [doWhen])
  have returned (r : State) := r.setCondition_phase r.lde.linkLost false
    (write := fun s => s.onLde fun e => { e with linkLost := false }) (by simp)
  unfold State.portStage
  dsimp only
  split
  · obtain ⟨awake, loading⟩ := returned
      (((s.bump .validSamples).onClp fun c => { c with link := .up }).bump .linkReturns)
    refine ⟨fun h => (faulted _ _).1 (awake (by simpa using h)), (faulted _ _).2.trans (loading.trans (by simp))⟩
  · refine ⟨fun h => (faulted _ _).1 (by simpa using h), (faulted _ _).2.trans (by simp)⟩

/-- The eligibility evaluation of a station in AWAKE leaves it there and leaves the estimator, or starts an attempt: SEEKING,
with the quiet counter at 0 (R11, R81, R84). -/
theorem State.evaluateEligibility_cases (awake : s.rsq.phase = .awake) :
    (s.evaluateEligibility.rsq.phase = .awake ∧ s.evaluateEligibility.lde = s.lde) ∨
      (s.evaluateEligibility.rsq.phase = .seeking ∧ s.evaluateEligibility.lde = { s.lde with quiet := 0 }) := by
  have stays (b : Bool) : (s.setNoCover b).rsq.phase = .awake := (s.setCondition_phase _ b (by simp)).1 awake
  have attempt (cover amount : Nat) : ((s.setNoCover false).startAttempt cover amount).rsq.phase = .seeking ∧
      ((s.setNoCover false).startAttempt cover amount).lde = { s.lde with quiet := 0 } := by
    simp [State.startAttempt, State.zeroQuiet]
  unfold State.evaluateEligibility
  dsimp only
  repeat' split
  · exact .inr (attempt _ _)
  all_goals exact .inl ⟨stays _, by simp⟩

/-- In AWAKE a carrier condition moves nothing (R92 to R99). -/
theorem State.carrierStep_awake (condition : CarrierCondition) (awake : s.rsq.phase = .awake) :
    s.carrierStep condition = s := by
  unfold State.carrierStep
  rw [awake]

/-! ## The stages in order -/

/-- The state a used SAMPLE leads to: the time, the port's work, the three stages, and the reply (R12, R154). -/
def State.afterUsedSample (after : Micros) (u : BitVec 10) (n : BitVec 11) (condition : CarrierCondition) : State :=
  let arrivedAwake := s.rsq.phase == .awake
  let folded := ((s.elapse after).portStage condition).useSample u n arrivedAwake
  ((folded.coverStage.carrierStep condition).eligibilityStage arrivedAwake).replyToSample

theorem exec_validSample (after : Micros) (u : BitVec 10) (n : BitVec 11) (condition : CarrierCondition) :
    exec (.validSample after u n condition) s = execValidSample after u n condition s := rfl

/-- The guard's test on the device clock is the statements' word for a used SAMPLE (R3). -/
theorem State.guardPasses_iff : s.guardPasses = true ↔ SampleUsed s 0 := by
  unfold State.guardPasses SampleUsed
  cases s.lde.lastUsed with
  | none => simp
  | some last => exact decide_eq_true_iff.trans (by simp [Micros.inMillis])

/-- A used SAMPLE outside LOADING runs through all its stages (R3, R12). -/
theorem exec_validSample_used {s : State} {after : Micros} (u : BitVec 10) (n : BitVec 11) (condition : CarrierCondition)
    (out : s.held = false) (up : s.rsq.phase ≠ .loading) (used : SampleUsed s after) :
    exec (.validSample after u n condition) s = .next (s.afterUsedSample after u n condition) := by
  have past : ((s.elapse after).portStage condition).rsq.phase ≠ .loading := by
    simpa [(State.portStage_phase _ condition).2] using up
  have passes : ((s.elapse after).portStage condition).guardPasses = true := by
    rw [State.guardPasses_iff]
    simpa [SampleUsed] using used
  rw [exec_validSample, execValidSample, State.event_live _ _ _ out, State.sampleStages, if_neg past, if_pos passes]
  rfl

/-! ## The estimator after a used SAMPLE -/

variable (after : Micros) (u : BitVec 10) (n : BitVec 11) (condition : CarrierCondition)

/-- The instant demand D of a SAMPLE at this station (R5). -/
def State.demandOf (u : BitVec 10) : Nat := instantDemand (clampUtilisation u) s.image.capacity

/-- S after a used SAMPLE at this station (R6, R7). -/
def State.foldedDemand (u : BitVec 10) : Nat := s.lde.nextDemand (s.demandOf u) s.profile.shift

/-- Stage 1 reads only what the time and the port's work leave alone: the estimator's values, the configuration in force and
the active profile. -/
theorem State.portStage_readings :
    let port := (s.elapse after).portStage condition
    port.demandOf u = s.demandOf u ∧ port.foldedDemand u = s.foldedDemand u ∧
      (∀ level users, port.quietAfter level users = s.quietAfter level users) := by
  intro port
  have image : port.image = s.image := by simp [port, State.image]
  have profile : port.profile = s.profile := by simp [port, State.profile, State.image]
  have demand : port.demandOf u = s.demandOf u := by rw [State.demandOf, State.demandOf, image]
  refine ⟨demand, ?_, fun level users => ?_⟩
  · rw [State.foldedDemand, State.foldedDemand, demand, profile]
    simp [port, LoadEstimator.nextDemand]
  · have quiet : port.lde.quiet = s.lde.quiet := by simp [port]
    rw [State.quietAfter, State.quietAfter, State.quietThreshold, State.quietThreshold, image, profile, quiet]

/-- What stage 1 leaves in the estimator (R5 to R10). -/
theorem State.useSample_after_port (arrivedAwake : Bool) :
    (((s.elapse after).portStage condition).useSample u n arrivedAwake).lde =
      { state := .tracking, demand := some (s.foldedDemand u), level := some (levelOf (s.foldedDemand u))
        lastUtilisation := some (clampUtilisation u), lastUsers := some n.toNat, lastDemand := some (s.demandOf u)
        quiet := if arrivedAwake then s.quietAfter (levelOf (s.foldedDemand u)) n.toNat else s.lde.quiet
        lastUsed := some (Micros.inMillis (s.clock + after))
        linkLost := ((s.elapse after).portStage condition).lde.linkLost } := by
  obtain ⟨demand, folded, quiet⟩ := s.portStage_readings after u condition
  rw [← demand, ← folded, ← quiet]
  simp [State.useSample, State.foldedDemand, State.demandOf]

/-- What a used SAMPLE writes in the estimator, whatever its later stages do (R5 to R8). -/
theorem State.afterUsedSample_estimate :
    (s.afterUsedSample after u n condition).lde.state = .tracking ∧
      (s.afterUsedSample after u n condition).lde.demand = some (s.foldedDemand u) ∧
      (s.afterUsedSample after u n condition).lde.level = some (levelOf (s.foldedDemand u)) ∧
      (s.afterUsedSample after u n condition).lde.lastUtilisation = some (clampUtilisation u) ∧
      (s.afterUsedSample after u n condition).lde.lastUsers = some n.toNat ∧
      (s.afterUsedSample after u n condition).lde.lastDemand = some (s.demandOf u) ∧
      (s.afterUsedSample after u n condition).lde.lastUsed = some (Micros.inMillis (s.clock + after)) := by
  simp [State.afterUsedSample, State.useSample_after_port]

/-- A SAMPLE that arrives outside AWAKE leaves the quiet counter (R10, log 13). -/
theorem State.afterUsedSample_quiet_outside (outside : s.rsq.phase ≠ .awake) :
    (s.afterUsedSample after u n condition).lde.quiet = s.lde.quiet := by
  simp [State.afterUsedSample, State.useSample_after_port, State.eligibilityStage, outside]

/-- A SAMPLE that arrives in AWAKE leaves the station there with the quiet test's result, or starts an attempt with the quiet
counter at 0 (R10, R11). -/
theorem State.afterUsedSample_quiet_awake (awake : s.rsq.phase = .awake) :
    ((s.afterUsedSample after u n condition).rsq.phase = .awake ∧
        (s.afterUsedSample after u n condition).lde.quiet = s.quietAfter (levelOf (s.foldedDemand u)) n.toNat) ∨
      ((s.afterUsedSample after u n condition).rsq.phase = .seeking ∧
        (s.afterUsedSample after u n condition).lde.quiet = 0) := by
  let covered := (((s.elapse after).portStage condition).useSample u n true).coverStage
  have stays : covered.rsq.phase = .awake := by
    simpa [covered] using (State.portStage_phase (s.elapse after) condition).1 (by simpa using awake)
  have run : s.afterUsedSample after u n condition = covered.evaluateEligibility.replyToSample := by
    simp only [State.afterUsedSample, awake, beq_self_eq_true]
    rw [State.carrierStep_awake _ _ stays, State.eligibilityStage, if_pos ⟨rfl, stays⟩]
  have tested : covered.lde.quiet = s.quietAfter (levelOf (s.foldedDemand u)) n.toNat := by
    simp [covered, State.useSample_after_port]
  rw [run]
  rcases covered.evaluateEligibility_cases stays with ⟨phase, lde⟩ | ⟨phase, lde⟩
  · exact .inl (by simp [phase, lde, tested])
  · exact .inr (by simp [phase, lde])

/-- No stage counts a SAMPLE as set aside, nor raises any counter but those listed (R3, R168). -/
theorem State.count_afterUsedSample {c : Counter} (h : raisedByUsedSample c = false) :
    (s.afterUsedSample after u n condition).count c = s.count c := by
  simp [State.afterUsedSample, State.count_replyToSample h, State.count_eligibilityStage h, State.count_carrierStep h,
    State.count_coverStage h, State.count_portStage h]

end Sys2Proof.Machine
end

section
/-! PROOFS. The arithmetic of the load estimation: the instant demand's bounds (R5) and the smoothing step (R7). -/

namespace Sys2Proof.Machine

/-! ## The instant demand -/

/-- D is at most C: the utilisation as kept is at most 1000 per mille (R5). -/
theorem instantDemand_le (u : BitVec 10) (capacity : Nat) : instantDemand (clampUtilisation u) capacity ≤ capacity := by
  have product : clampUtilisation u * capacity ≤ 1000 * capacity := Nat.mul_le_mul_right _ (Nat.min_le_left _ _)
  unfold instantDemand ceilDiv
  omega

/-- D is 0 exactly at utilisation 0, the capacity being positive (R5). -/
theorem instantDemand_eq_zero_iff (u : BitVec 10) {capacity : Nat} (positive : 1 ≤ capacity) :
    instantDemand (clampUtilisation u) capacity = 0 ↔ u.toNat = 0 := by
  have vanishes : clampUtilisation u * capacity = 0 ↔ u.toNat = 0 := by
    rw [Nat.mul_eq_zero, clampUtilisation]
    omega
  rw [← vanishes, instantDemand, ceilDiv]
  omega

/-- The product of R5 is at most 1000 × 4095. -/
theorem utilisation_mul_capacity_le (u : BitVec 10) {capacity : Nat} (bound : capacity ≤ 4095) :
    clampUtilisation u * capacity ≤ 4095000 :=
  Nat.mul_le_mul (Nat.min_le_left 1000 _) bound

/-- L is at most C while S is at most 16 × C (R8). -/
theorem levelOf_le {demand capacity : Nat} (h : demand ≤ 16 * capacity) : levelOf demand ≤ capacity := by
  unfold levelOf ceilDiv
  omega

/-! ## The smoothing step -/

/-- The step of the smoothing: the gap over 2^k, rounded toward plus infinity (R7). -/
def smoothingStep (demand target k : Nat) : Int := -(((demand : Int) - target) / 2 ^ k)

section
variable (demand target k : Nat)

/-- The step is the least integer not below the gap over 2^k. -/
theorem smoothingStep_least :
    (smoothingStep demand target k - 1) * 2 ^ k < (target : Int) - demand ∧
      (target : Int) - demand ≤ smoothingStep demand target k * 2 ^ k := by
  have positive : (0 : Int) < 2 ^ k := by positivity
  have below := Int.ediv_mul_le ((demand : Int) - target) positive.ne'
  have above := Int.lt_ediv_add_one_mul_self ((demand : Int) - target) positive
  unfold smoothingStep
  constructor <;> linarith

variable {demand target}

/-- Below the target the step goes up, and not past it. -/
theorem smoothingStep_below (h : demand < target) :
    1 ≤ smoothingStep demand target k ∧ smoothingStep demand target k ≤ (target : Int) - demand := by
  have positive : (0 : Int) < 2 ^ k := by positivity
  have negative : ((demand : Int) - target) / 2 ^ k < 0 := Int.ediv_neg_of_neg_of_pos (by omega) positive
  have reach : (demand : Int) - target ≤ ((demand : Int) - target) / 2 ^ k :=
    (Int.le_ediv_iff_mul_le positive).mpr (by nlinarith)
  unfold smoothingStep
  omega

/-- At the target or above it the step goes down or stays, and not past it. -/
theorem smoothingStep_above (h : target ≤ demand) :
    smoothingStep demand target k ≤ 0 ∧ (target : Int) - demand ≤ smoothingStep demand target k := by
  have gap : (0 : Int) ≤ (demand : Int) - target := by omega
  have down : 0 ≤ ((demand : Int) - target) / 2 ^ k := Int.ediv_nonneg gap (by positivity)
  have reach := Int.ediv_le_self (2 ^ k) gap
  unfold smoothingStep
  omega

/-- Within 2^k − 1 above the target, and at it, there is no step. -/
theorem smoothingStep_rests (h : target ≤ demand) (near : demand - target ≤ 2 ^ k - 1) :
    smoothingStep demand target k = 0 := by
  have small : (demand : Int) - target < 2 ^ k := by
    have positive : 0 < 2 ^ k := by positivity
    have : demand - target < 2 ^ k := by omega
    zify [h] at this
    exact this
  rw [smoothingStep, Int.ediv_eq_zero_of_lt (by omega) small, neg_zero]

variable (demand target)

/-- S moves by the smoothing step. -/
theorem smoothed_eq : (smoothed demand target k : Int) = demand + smoothingStep demand target k := by
  have nonneg : 0 ≤ (demand : Int) + smoothingStep demand target k := by
    rcases Nat.lt_or_ge demand target with below | above
    · have := (smoothingStep_below k below).1
      omega
    · have := (smoothingStep_above k above).2
      omega
  exact Int.toNat_of_nonneg nonneg

end

end Sys2Proof.Machine
end

section
/-! PROOFS. The statements of chapter 1, load estimation (O11, O12). -/

namespace Sys2Proof.Machine

/-- Settles O11: the estimator's values are those stage 1 writes, and the quiet counter follows the phase at the SAMPLE's
arrival and after its work. -/
theorem usedSampleIsFolded : Obligations.UsedSampleIsFolded := by
  intro after u n condition s out up used d
  obtain ⟨state, demand, level, utilisation, users, last, clock⟩ := s.afterUsedSample_estimate after u n condition
  refine ⟨_, exec_validSample_used u n condition out up used, state, utilisation, users, last, clock,
    s.count_afterUsedSample after u n condition rfl, fun kept => ?bounds, fun unseeded => ?seeded, fun S held => ?level,
    s.afterUsedSample_quiet_outside after u n condition, fun awake left => ?attempt, fun awake stayed L shown => ?quiet⟩
  case bounds =>
    exact ⟨instantDemand_le u _, instantDemand_eq_zero_iff u kept.capacity.1, utilisation_mul_capacity_le u kept.capacity.2⟩
  case seeded =>
    have seed : s.foldedDemand u = 16 * d := by
      rw [State.foldedDemand, LoadEstimator.nextDemand]
      cases h : s.lde.state with
      | tracking => exact absurd h unseeded
      | unseeded => rfl
      | blind => rfl
    have seedLevel : levelOf (16 * d) = d := by
      unfold levelOf ceilDiv
      omega
    rw [demand, level, seed, seedLevel]
    exact ⟨rfl, rfl⟩
  case level =>
    rw [demand, Option.some.injEq] at held
    rw [level, held]
    rfl
  case attempt =>
    rcases s.afterUsedSample_quiet_awake after u n condition awake with ⟨stays, -⟩ | ⟨-, zero⟩
    · exact absurd stays left
    · exact zero
  case quiet =>
    rw [level, Option.some.injEq] at shown
    rcases s.afterUsedSample_quiet_awake after u n condition awake with ⟨-, tested⟩ | ⟨seeking, -⟩
    · rw [tested, shown]
      rfl
    · rw [seeking] at stayed
      cases stayed

/-- Settles O12: in TRACKING stage 1 smooths the held S toward 16 × D, and the bounds are those of the step. -/
theorem smoothingStepTowardDemand : Obligations.SmoothingStepTowardDemand := by
  intro after u n condition S s out up used tracking held bounded _ target k
  obtain ⟨-, demand, level, -⟩ := s.afterUsedSample_estimate after u n condition
  have folded : s.foldedDemand u = smoothed S target k := by
    rw [State.foldedDemand, LoadEstimator.nextDemand, tracking, held]
    rfl
  rw [folded] at demand level
  have moved := smoothed_eq S target k
  have reach : target ≤ 16 * s.image.capacity := Nat.mul_le_mul_left 16 (instantDemand_le u _)
  have least := smoothingStep_least S target k
  have below : S < target → 1 ≤ smoothingStep S target k ∧ smoothed S target k ≤ target := fun h => by
    have := smoothingStep_below k h
    omega
  have above : target ≤ S → smoothingStep S target k ≤ 0 ∧ target ≤ smoothed S target k := fun h => by
    have := smoothingStep_above k h
    omega
  have stays : target = S → smoothed S target k = S := fun h => by
    have := smoothingStep_rests k h.le (by omega)
    omega
  have within : smoothed S target k ≤ 16 * s.image.capacity := by
    rcases Nat.lt_or_ge S target with h | h
    · exact (below h).2.trans reach
    · have := (above h).1
      omega
  exact ⟨_, _, _, exec_validSample_used u n condition out up used, demand, moved, least.1, least.2, below,
    fun h => above h.le, fun h => smoothingStep_rests k h.le, stays, within, level, levelOf_le within⟩

end Sys2Proof.Machine
end

section
/-! PROOFS. The book through a SAMPLE: the arithmetic of the decay (R24), what a recall and stage 2 leave of each pledge, and
the way of a SAMPLE the guard sets aside (R3, R4). -/

namespace Sys2Proof.Machine

/-! ## The decay of one reserve -/

section
variable {reserve shift : Nat}

/-- Below 2^k a reserve does not decay. -/
theorem decayedReserve_of_lt (below : reserve < 2 ^ shift) : decayedReserve reserve shift = reserve := by
  rw [decayedReserve, Nat.div_eq_of_lt below, Nat.sub_zero]

/-- From 2^k on a decay takes at least 1 and stops at 2^k − 1: of r ≥ q × 2^k it takes the quotient q ≥ 1. -/
theorem decayedReserve_of_le (above : 2 ^ shift ≤ reserve) :
    decayedReserve reserve shift < reserve ∧ 2 ^ shift - 1 ≤ decayedReserve reserve shift := by
  have positive : 0 < 2 ^ shift := by positivity
  have taken : 1 ≤ reserve / 2 ^ shift := (Nat.one_le_div_iff positive).mpr above
  have whole : reserve / 2 ^ shift * 2 ^ shift ≤ reserve := Nat.div_mul_le_self _ _
  have left : 2 ^ shift - 1 ≤ reserve / 2 ^ shift * (2 ^ shift - 1) := Nat.le_mul_of_pos_left _ taken
  rw [Nat.mul_sub_one] at left
  unfold decayedReserve
  omega

/-- A reserve above 0 never reaches 0. -/
theorem decayedReserve_pos (smooths : shift ≠ 0) (positive : 0 < reserve) : 0 < decayedReserve reserve shift :=
  Nat.sub_pos_of_lt (Nat.div_lt_self positive (Nat.one_lt_two_pow smooths))

/-- Repeated decay settles at 2^k − 1, from wherever it starts at or above that value. -/
theorem decayedReserve_settles (above : 2 ^ shift - 1 ≤ reserve) :
    ∃ m, (decayedReserve · shift)^[m] reserve = 2 ^ shift - 1 := by
  induction reserve using Nat.strong_induction_on with
  | _ reserve ih =>
    rcases above.eq_or_lt with settled | higher
    · exact ⟨0, settled.symm⟩
    · obtain ⟨falls, stops⟩ := decayedReserve_of_le (show 2 ^ shift ≤ reserve by omega)
      obtain ⟨m, reached⟩ := ih _ falls stops
      exact ⟨m + 1, reached⟩

end

/-- The repetition the statement is written with is the iterate Mathlib's lemmas speak of. -/
theorem repeat_eq_iterate {α : Type} (f : α → α) (n : Nat) (a : α) : Nat.repeat f n a = f^[n] a := by
  induction n with
  | zero => rfl
  | succ n ih => rw [Nat.repeat, ih, Function.iterate_succ_apply']

/-! ## What a pledge holds -/

/-- What a pledge stands for whatever its state: the leaner, the tag, the amount and the reserve. -/
def pledgeHolding (p : Pledge) : Nat × BitVec 8 × Nat × Nat := (p.leaner, p.tag, p.amount, p.reserve)

theorem decayPledge_holding (shift : Nat) (p : Pledge) :
    pledgeHolding (decayPledge shift p) =
      (p.leaner, p.tag, p.amount, if p.state = .granted then p.reserve else decayedReserve p.reserve shift) := by
  cases h : p.state <;> simp [pledgeHolding, decayPledge, h]

/-- A change of pledges that keeps what each holds. -/
theorem changePledge_holdings {f : Pledge → Pledge} (leaner : Nat) (book : List Pledge)
    (kept : ∀ p, pledgeHolding (f p) = pledgeHolding p) :
    (changePledge leaner f book).map pledgeHolding = book.map pledgeHolding := by
  rw [changePledge, List.map_map]
  refine List.map_congr_left fun p _ => ?_
  rw [Function.comp_apply]
  split
  · exact kept p
  · rfl

variable (s : State)

/-- A recall that starts calls a pledge and leaves what each one holds (R72). -/
theorem State.startRecall_holdings (counted : Counter) :
    (s.startRecall counted).cvu.book.map pledgeHolding = s.cvu.book.map pledgeHolding := by
  cases chosen : chooseRecall s.cvu.book with
  | none => rw [State.startRecall_none counted chosen]
  | some p =>
    rw [State.startRecall_cvu counted chosen]
    exact changePledge_holdings p.leaner s.cvu.book fun _ => rfl

theorem State.continuousCheck_holdings :
    s.continuousCheck.cvu.book.map pledgeHolding = s.cvu.book.map pledgeHolding := by
  unfold State.continuousCheck
  split
  · exact s.startRecall_holdings _
  · rfl

theorem State.overloadTest_holdings :
    s.overloadTest.cvu.book.map pledgeHolding = s.cvu.book.map pledgeHolding := by
  unfold State.overloadTest
  split
  · exact s.startRecall_holdings _
  · rfl

/-- Stage 2 decays each reserve; the recall it may start leaves what each pledge holds (R12, R24). -/
theorem State.coverStage_holdings :
    s.coverStage.cvu.book.map pledgeHolding =
      s.cvu.book.map fun p => pledgeHolding (decayPledge s.profile.shift p) := by
  have decay (b : CoverUnit) : (b.book.map (decayPledge s.profile.shift)).map pledgeHolding =
      b.book.map fun p => pledgeHolding (decayPledge s.profile.shift p) := List.map_map
  unfold State.coverStage
  dsimp only
  split
  · exact (State.continuousCheck_holdings _).trans (decay s.cvu)
  · exact (State.overloadTest_holdings _).trans (decay s.cvu)

/-! ## The book after a SAMPLE -/

variable (after : Micros) (u : BitVec 10) (n : BitVec 11) (condition : CarrierCondition)

/-- Of the stages of a used SAMPLE the second alone changes the book (R12, R24). -/
theorem State.afterUsedSample_holdings :
    (s.afterUsedSample after u n condition).cvu.book.map pledgeHolding =
      s.cvu.book.map fun p => pledgeHolding (decayPledge s.profile.shift p) := by
  let folded := ((s.elapse after).portStage condition).useSample u n (s.rsq.phase == .awake)
  have stages : (s.afterUsedSample after u n condition).cvu = folded.coverStage.cvu := by
    simp [State.afterUsedSample, folded]
  have book : folded.cvu.book = s.cvu.book := by simp [folded]
  have profile : folded.profile = s.profile := by simp [folded, State.profile, State.image]
  rw [stages, folded.coverStage_holdings, book, profile]

/-- A SAMPLE the guard sets aside is counted, read by the Rest Sequencer and answered (R3, R4). -/
theorem exec_validSample_setAside {s : State} {after : Micros} (out : s.held = false) (up : s.rsq.phase ≠ .loading)
    (aside : ¬SampleUsed s after) :
    exec (.validSample after u n condition) s =
      .next ((((s.elapse after).portStage condition).bump .setAside).carrierStep condition).replyToSample := by
  have past : ((s.elapse after).portStage condition).rsq.phase ≠ .loading := by
    simpa [(State.portStage_phase _ condition).2] using up
  have fails : ¬((s.elapse after).portStage condition).guardPasses = true := by
    rw [State.guardPasses_iff]
    simpa [SampleUsed] using aside
  rw [exec_validSample, execValidSample, State.event_live _ _ _ out, State.sampleStages, if_neg past, if_neg fails]

end Sys2Proof.Machine
end

section
/-! PROOFS. The arithmetic of the cover: the ceiling and the wake limit (R21), what the estimator hands out (R2), the committed
load (R26) and the room (R28). -/

namespace Sys2Proof.Machine

section
variable {s : State}

/-! ## The ceiling and the wake limit -/

/-- The active profile of a configuration in its ranges is in its ranges (R126). -/
theorem State.profile_kept (kept : ImageKept s.image) : ProfileKept s.profile := kept.profiles _

/-- Before the division by 100: C × F is at most 93 × C, C × Wk at least 5 × C above it and at most 98 × C (R126). -/
theorem State.limit_products (kept : ImageKept s.image) :
    s.image.capacity * s.profile.ceiling ≤ s.image.capacity * 93 ∧
      s.image.capacity * s.profile.ceiling + s.image.capacity * 5 ≤ s.image.capacity * s.profile.wakeLevel ∧
      s.image.capacity * s.profile.wakeLevel ≤ s.image.capacity * 98 := by
  have profile := State.profile_kept kept
  rw [← Nat.mul_add]
  exact ⟨Nat.mul_le_mul_left _ profile.ceiling.2, Nat.mul_le_mul_left _ profile.wakeLevel.1,
    Nat.mul_le_mul_left _ profile.wakeLevel.2⟩

/-- W is less than C (R21). -/
theorem State.wakeLimitW_lt (kept : ImageKept s.image) : s.wakeLimitW < s.image.capacity := by
  obtain ⟨-, -, wake⟩ := State.limit_products kept
  have := kept.capacity.1
  unfold State.wakeLimitW
  omega

/-! ## What the estimator hands out -/

theorem State.workingLevel_tracking {level : Nat} (tracking : s.lde.state = .tracking) (held : s.lde.level = some level) :
    s.workingLevel = level := by
  rw [State.workingLevel, tracking, held]
  rfl

theorem State.workingLevel_blind (blind : s.lde.state = .unseeded ∨ s.lde.state = .blind) :
    s.workingLevel = s.image.capacity := by
  rcases blind with h | h <;> rw [State.workingLevel, h]

theorem LoadEstimator.isBlind_iff (e : LoadEstimator) : e.isBlind = true ↔ e.state = .unseeded ∨ e.state = .blind := by
  cases h : e.state <;> simp [LoadEstimator.isBlind, h]

theorem LoadEstimator.handedDemand_unseeded {e : LoadEstimator} (unseeded : e.state = .unseeded) : e.handedDemand = 0 := by
  rw [LoadEstimator.handedDemand, unseeded]

/-- Outside UNSEEDED the held S is handed out, also while BLIND (R2). -/
theorem LoadEstimator.handedDemand_seeded {e : LoadEstimator} {demand : Nat} (seeded : e.state ≠ .unseeded)
    (held : e.demand = some demand) : e.handedDemand = demand := by
  cases h : e.state with
  | unseeded => exact absurd h seeded
  | tracking => simp [LoadEstimator.handedDemand, h, held]
  | blind => simp [LoadEstimator.handedDemand, h, held]

/-- S as handed out is at most 16 × C (R1, R7). -/
theorem State.handedDemand_le (kept : EstimateKept s) : s.lde.handedDemand ≤ 16 * s.image.capacity := by
  unfold EstimateKept at kept
  split at kept
  next unseeded => simp [LoadEstimator.handedDemand_unseeded unseeded]
  next tracking =>
    obtain ⟨d, held, -, bound⟩ := kept
    rwa [LoadEstimator.handedDemand_seeded (by simp [tracking]) held]
  next blind =>
    obtain ⟨d, held, -, bound⟩ := kept
    rwa [LoadEstimator.handedDemand_seeded (by simp [blind]) held]

/-- In TRACKING the level is that of S as handed out (R8). -/
theorem State.level_tracking (kept : EstimateKept s) (tracking : s.lde.state = .tracking) :
    s.lde.level = some (levelOf s.lde.handedDemand) := by
  rw [EstimateKept, tracking] at kept
  obtain ⟨d, held, level, -⟩ := kept
  rw [level, LoadEstimator.handedDemand_seeded (by simp [tracking]) held]

/-! ## The committed load -/

/-- Six reserves of at most 16 × 4095 sixteenths (R24, R55, R56). -/
theorem sum_reserves_le {book : List Pledge} (kept : BookKept book) (ranges : ∀ p ∈ book, PledgeInRange p) :
    (book.map (·.reserve)).sum ≤ 6 * 65520 := by
  have each : ∀ r ∈ book.map (·.reserve), r ≤ 65520 := by
    intro r mem
    obtain ⟨p, hp, rfl⟩ := List.mem_map.mp mem
    obtain ⟨-, amount, reserve, -⟩ := ranges p hp
    omega
  have total := List.sum_le_card_nsmul _ _ each
  rw [List.length_map, smul_eq_mul] at total
  exact total.trans (Nat.mul_le_mul_right _ kept.atMostSix)

/-- K16 is at most 16 × 4095 for S and for each of six pledges (R26). -/
theorem State.committed16_le (kept : s.Inv) : s.committed16 ≤ 458640 := by
  have demand := State.handedDemand_le kept.estimate
  have capacity := kept.image.capacity.2
  have reserves := sum_reserves_le kept.book kept.pledges
  unfold State.committed16
  omega

theorem State.committed_le (kept : s.Inv) : s.committed ≤ 28665 := by
  have := State.committed16_le kept
  unfold State.committed ceilDiv
  omega

/-- With an empty book K is the level of S as handed out (R26). -/
theorem State.committed_empty (empty : s.cvu.book = []) : s.committed = levelOf s.lde.handedDemand := by
  simp [State.committed, State.committed16, levelOf, empty]

end

/-! ## The room -/

section
variable (s : State)

theorem State.roomForced_iff :
    s.roomForced = true ↔
      s.rsq.phase ≠ .awake ∨ s.image.role = .stay ∨ s.lde.state ≠ .tracking ∨ s.lif.clash = true ∨
        s.plu.windowOpen = false := by
  simp [State.roomForced, LoadEstimator.isBlind, or_assoc]

theorem State.room_forced {s : State} (forced : s.roomForced = true) : s.room = 0 := by rw [State.room, if_pos forced]

theorem State.room_normal {s : State} (free : ¬s.roomForced = true) : s.room = s.ceilingN - s.committed := by
  rw [State.room, if_neg free, State.normalRoom]

/-- Forced or not, the room is at most N − K, which is 0 where K reaches N (R28). -/
theorem State.room_le : s.room ≤ s.ceilingN - s.committed := by
  by_cases forced : s.roomForced = true
  · simp [State.room_forced forced]
  · rw [State.room_normal forced]

/-- The ceiling of a station of 1 CU, and of one of 2 CU with F below 50, is 0 (R21). -/
theorem State.ceilingN_small {s : State} (kept : ImageKept s.image)
    (small : s.image.capacity = 1 ∨ s.image.capacity = 2 ∧ s.profile.ceiling < 50) : s.ceilingN = 0 := by
  have bound := (State.profile_kept kept).ceiling.2
  unfold State.ceilingN
  rcases small with one | ⟨two, low⟩
  · rw [one]
    omega
  · rw [two]
    omega

end

end Sys2Proof.Machine
end

section
/-! PROOFS. The statements on the committed load and the room (O15 to O18). -/

namespace Sys2Proof.Machine

/-- Settles O15, from the bounds of the two products C × F and C × Wk. -/
theorem ceilingAndWakeLimit : Obligations.CeilingAndWakeLimit := by
  intro s kept
  obtain ⟨ceiling, gap, wake⟩ := State.limit_products kept
  have capacity := kept.capacity.2
  have below := State.wakeLimitW_lt kept
  have formedN : s.ceilingN = s.image.capacity * s.profile.ceiling / 100 := rfl
  have formedW : s.wakeLimitW = s.image.capacity * s.profile.wakeLevel / 100 := rfl
  refine ⟨formedN, formedW, ?_, ?_, ?_, fun _ => ?_, below, fun reached => below.trans_le reached⟩ <;> omega

/-- Settles O16: the readings of the estimator case by case, and the bounds from the promises on S and on the book. -/
theorem committedLoad : Obligations.CommittedLoad := by
  intro s
  refine ⟨fun _ tracking held => State.workingLevel_tracking tracking held, State.workingLevel_blind, s.lde.isBlind_iff,
    rfl, LoadEstimator.handedDemand_unseeded, fun _ seeded held => LoadEstimator.handedDemand_seeded seeded held, rfl,
    fun kept => ⟨State.committed16_le kept, State.committed_le kept⟩, fun kept empty tracking => ?_⟩
  rw [State.committed_empty empty]
  exact State.level_tracking kept.estimate tracking

/-- Settles O17: the five conditions are the model's test, and in every case the room is at most N − K. -/
theorem advertisedRoom : Obligations.AdvertisedRoom := by
  intro s
  have bound := s.room_le
  refine ⟨fun forced => State.room_forced (s.roomForced_iff.mpr forced), fun awake role tracking clash window => ?free,
    bound.trans (Nat.sub_le _ _), fun full => ?full, fun kept small => ?small⟩
  case free =>
    have free : ¬s.roomForced = true := by simp [State.roomForced_iff, awake, role, tracking, clash, window]
    rw [State.room_normal free]
    omega
  case full => omega
  case small =>
    have := State.ceilingN_small kept small
    omega

/-- Settles O18: stage 2 alone touches the book, a SAMPLE set aside reaches no stage of the cover, and the decay's properties
are those of a quotient by 2^k. -/
theorem reservesDecay : Obligations.ReservesDecay := by
  refine ⟨fun after u n condition s out up => ?_, fun r k smooths => ?_⟩
  · by_cases used : SampleUsed s after
    · refine ⟨_, exec_validSample_used u n condition out up used, fun _ => ?_, fun aside => absurd used aside⟩
      refine (s.afterUsedSample_holdings after u n condition).trans (List.map_congr_left fun p _ => ?_)
      exact decayPledge_holding _ p
    · exact ⟨_, exec_validSample_setAside u n condition out up used, fun is => absurd is used, fun _ => by simp⟩
  · have lowered : decayedReserve r k ≤ r := Nat.sub_le _ _
    refine ⟨lowered, decayedReserve_of_le, decayedReserve_of_lt, decayedReserve_pos (by omega), fun above => ?_⟩
    obtain ⟨m, settled⟩ := decayedReserve_settles (show 2 ^ k - 1 ≤ r by omega)
    exact ⟨m, (repeat_eq_iterate _ m r).trans settled⟩

end Sys2Proof.Machine
end

section
/-! PROOFS. The model's operations on short lists of numbers: sorting, and the two checks of a beacon's lists. -/

namespace Sys2Proof

/-! ## Sorting -/

theorem insertAscending_eq_orderedInsert (n : Nat) (l : List Nat) :
    insertAscending n l = l.orderedInsert (· ≤ ·) n := by
  induction l with
  | nil => rfl
  | cons m rest ih => rw [insertAscending, List.orderedInsert_cons, ih]

/-- The model's sorting is Mathlib's insertion sort, whose lemmas then speak of it. -/
theorem ascending_eq_insertionSort (l : List Nat) : ascending l = l.insertionSort (· ≤ ·) := by
  induction l with
  | nil => rfl
  | cons n rest ih => rw [ascending, List.insertionSort_cons, ih, insertAscending_eq_orderedInsert]

theorem ascending_perm (l : List Nat) : (ascending l).Perm l := by
  rw [ascending_eq_insertionSort]
  exact List.perm_insertionSort _ l

/-- Numbers none of which stands twice are sorted strictly. -/
theorem ascending_pairwise_lt {l : List Nat} (once : l.Nodup) : (ascending l).Pairwise (· < ·) := by
  have sorted : (ascending l).SortedLE := by
    rw [ascending_eq_insertionSort]
    exact List.sortedLE_insertionSort
  exact (sorted.sortedLT_of_nodup ((ascending_perm l).nodup_iff.mpr once)).pairwise

/-! ## The checks of lists -/

theorem noneTwice_iff (l : List Nat) : noneTwice l = true ↔ l.Nodup := by
  induction l with
  | nil => simp [noneTwice]
  | cons n rest ih => simp [noneTwice, ih]

/-- The check compares neighbours; the order is transitive, so it holds of any two. -/
theorem strictlyAscending_iff (l : List Nat) : strictlyAscending l = true ↔ l.Pairwise (· < ·) := by
  rw [← List.isChain_iff_pairwise]
  induction l using strictlyAscending.induct with
  | case1 => simp [strictlyAscending]
  | case2 n => simp [strictlyAscending]
  | case3 m n rest ih => simp [strictlyAscending, ih]

end Sys2Proof
end

section
/-! PROOFS. Reading a beacon's fields: what each code and each check of R39 says, and what a beacon that passes is read as. -/

namespace Sys2Proof.Machine

/-! ## Codes -/

/-- The codes a beacon may carry are those of the seven phases shown on the line (R175). -/
theorem beaconPhase_isSome_iff (code : BitVec 3) : (beaconPhase code).isSome = true ↔ code.toNat ≤ 6 := by
  revert code
  decide

theorem phaseCode_of_beaconPhase {code : BitVec 3} {phase : Phase} (shown : beaconPhase code = some phase) :
    phaseCode phase = code.toNat := by
  revert code
  cases phase <;> decide

theorem roleOf_isSome_iff (code : Nat) : (roleOf code).isSome = true ↔ code ≤ 2 := by
  match code with
  | 0 | 1 | 2 => decide
  | _ + 3 => simp [roleOf]

theorem roleCode_of_roleOf {code : Nat} {role : Role} (shown : roleOf code = some role) : roleCode role = code := by
  unfold roleOf at shown
  split at shown <;> cases shown <;> rfl

/-! ## Checks -/

theorem coverPasses_iff (sender : Nat) (cover : Byte) :
    coverPasses sender (coverOf cover) = true ↔ cover = 0xFF ∨ cover.toNat ≤ 59 ∧ cover.toNat ≠ sender := by
  unfold coverOf
  split
  next absent => simp [coverPasses, absent]
  next named => rw [or_iff_right named]; simp [coverPasses]

theorem itemsPass_iff (sender : Nat) (l : List Byte) :
    itemsPass sender (numbers l) = true ↔ ∀ n ∈ l, n.toNat ≤ 59 ∧ n.toNat ≠ sender := by
  simp [itemsPass, numbers]

/-- Bytes differ exactly when the numbers they stand for do. -/
theorem noneTwice_numbers_iff (l : List Byte) : noneTwice (numbers l) = true ↔ l.Nodup := by
  rw [noneTwice_iff, numbers]
  exact List.nodup_map_iff BitVec.toNat_injective

/-- The checks of R39 on the fields that are not codes, one by one. -/
theorem fieldsPass_iff (sender : Nat) (b : BeaconFields) :
    fieldsPass sender b = true ↔
      1 ≤ b.capacity.toNat ∧ b.capacity.toNat ≤ 4095 ∧ b.covering.length ≤ 6 ∧ b.covering.Nodup ∧
      b.resting.length ≤ 15 ∧ (b.resting.map (·.toNat)).Pairwise (· < ·) ∧
      (b.cover = 0xFF ∨ b.cover.toNat ≤ 59 ∧ b.cover.toNat ≠ sender) ∧
      ∀ n ∈ b.covering ++ b.resting, n.toNat ≤ 59 ∧ n.toNat ≠ sender := by
  simp only [fieldsPass, Bool.and_eq_true, decide_eq_true_eq, noneTwice_numbers_iff, strictlyAscending_iff,
    coverPasses_iff, itemsPass_iff, List.forall_mem_append, and_assoc]
  rfl

/-! ## The whole reading -/

/-- A beacon as read, its phase and role already taken from their codes (R39). -/
def heardFields (sender : Nat) (b : BeaconFields) (phase : Phase) (role : Role) : Heard where
  station := sender
  role := role
  phase := phase
  capacity := b.capacity.toNat
  level := b.level.toNat
  room := b.room.toNat
  cover := coverOf b.cover
  covering := numbers b.covering
  resting := numbers b.resting
  profile := b.profile
  clash := b.clash

/-- A beacon is read as its fields stand, when both codes and every other check pass. -/
theorem readBeacon_eq_some_iff (sender : Nat) (b : BeaconFields) (h : Heard) :
    readBeacon sender b = some h ↔
      ∃ phase role, beaconPhase b.phase = some phase ∧ roleOf b.role.toNat = some role ∧ fieldsPass sender b = true ∧
        heardFields sender b phase role = h := by
  unfold readBeacon
  cases beaconPhase b.phase <;> cases roleOf b.role.toNat <;> simp [heardFields]

theorem readBeacon_isSome_iff (sender : Nat) (b : BeaconFields) :
    (readBeacon sender b).isSome = true ↔
      (beaconPhase b.phase).isSome = true ∧ (roleOf b.role.toNat).isSome = true ∧ fieldsPass sender b = true := by
  simp only [Option.isSome_iff_exists, readBeacon_eq_some_iff]
  constructor
  · rintro ⟨_, phase, role, shown, named, pass, -⟩
    exact ⟨⟨phase, shown⟩, ⟨role, named⟩, pass⟩
  · rintro ⟨⟨phase, shown⟩, ⟨role, named⟩, pass⟩
    exact ⟨_, phase, role, shown, named, pass, rfl⟩

/-! ## A malformed beacon -/

theorem exec_beacon (after : Micros) (sender : BitVec 6) (sector : BitVec 3) (b : BeaconFields) (s : State) :
    exec (.beacon after sender sector b) s = execBeacon after sender sector b s := rfl

/-- A malformed beacon of a carrier station is counted and does nothing else, whatever its sector (R39). -/
theorem State.hearBeacon_malformed {sender : BitVec 6} {b : BeaconFields} {s : State} (sector : BitVec 3)
    (carrier : fromMaintenance sender = false) (up : s.rsq.phase ≠ .mute)
    (malformed : readBeacon sender.toNat b = none) :
    s.hearBeacon sender sector b = s.bump .malformedBeacons := by
  simp [State.hearBeacon, carrier, up, malformed]

end Sys2Proof.Machine
end

section
/-! PROOFS. The own beacon: the resting-seen list (R52), and each other field read back from what it is composed of (R148). -/

namespace Sys2Proof.Machine

/-! ## The resting-seen list -/

/-- Age and number in one key: of stations below 64, the order of the keys is that of the ages, ties by the number (R52). -/
def restKey (e : ViewEntry) : Nat := 64 * e.age + e.station

/-- The entries that show a resting peer. -/
def PeerView.resting (v : PeerView) : List ViewEntry := v.entries.filter showsResting

/-- The keys of the entries that are listed: the 15 least. -/
def PeerView.listedKeys (v : PeerView) : List Nat := (ascending (v.resting.map restKey)).take 15

theorem PeerView.restingSeen_eq (v : PeerView) : v.restingSeen = ascending (v.listedKeys.map (· % 64)) := rfl

theorem restKey_mod {e : ViewEntry} (carrier : e.station ≤ 59) : restKey e % 64 = e.station := by
  unfold restKey
  omega

theorem restKey_lt {e f : ViewEntry} (carrier : f.station ≤ 59) (below : restKey e < restKey f) :
    e.age < f.age ∨ e.age = f.age ∧ e.station < f.station := by
  unfold restKey at below
  omega

section
variable {own : Nat} {v : PeerView} (kept : ViewKept own v)
include kept

theorem ViewKept.resting_carriers : ∀ e ∈ v.resting, e.station ≤ 59 ∧ e.station ≠ own :=
  fun e shown => kept.carriers e (List.mem_of_mem_filter shown)

/-- No two resting entries are of one station (R37). -/
theorem ViewKept.resting_stations_nodup : (v.resting.map (·.station)).Nodup :=
  kept.oneEach.sublist (List.filter_sublist.map _)

/-- The numbers come back from the keys. -/
theorem ViewKept.restKeys_mod : (v.resting.map restKey).map (· % 64) = v.resting.map (·.station) := by
  rw [List.map_map]
  exact List.map_congr_left fun e shown => restKey_mod (kept.resting_carriers e shown).1

theorem ViewKept.sortedKeys_pairwise : (ascending (v.resting.map restKey)).Pairwise (· < ·) :=
  ascending_pairwise_lt (List.Nodup.of_map (· % 64) (kept.restKeys_mod ▸ kept.resting_stations_nodup))

/-- The listed numbers are among those of the resting entries, none more often than there. -/
theorem ViewKept.listedNumbers_subperm : (v.listedKeys.map (· % 64)).Subperm (v.resting.map (·.station)) := by
  rw [← kept.restKeys_mod]
  exact (List.take_sublist _ _).map _ |>.subperm.trans ((ascending_perm _).map _).subperm

/-- A station of a resting entry is listed exactly when its entry's key is one of the 15 least. -/
theorem ViewKept.mem_restingSeen_iff {e : ViewEntry} (shown : e ∈ v.resting) :
    e.station ∈ v.restingSeen ↔ restKey e ∈ v.listedKeys := by
  rw [PeerView.restingSeen_eq, (ascending_perm _).mem_iff, List.mem_map]
  constructor
  · rintro ⟨key, listed, number⟩
    obtain ⟨f, rests, rfl⟩ := List.mem_map.mp ((ascending_perm _).mem_iff.mp (List.mem_of_mem_take listed))
    rw [restKey_mod (kept.resting_carriers f rests).1] at number
    rwa [← List.inj_on_of_nodup_map kept.resting_stations_nodup rests shown number]
  · exact fun listed => ⟨_, listed, restKey_mod (kept.resting_carriers e shown).1⟩

theorem ViewKept.restingSeen_pairwise : v.restingSeen.Pairwise (· < ·) :=
  let ⟨_, same, among⟩ := kept.listedNumbers_subperm
  ascending_pairwise_lt (same.nodup_iff.mp (kept.resting_stations_nodup.sublist among))

/-- A listed number is the station of a resting entry. -/
theorem ViewKept.exists_of_mem_restingSeen {n : Nat} (listed : n ∈ v.restingSeen) : ∃ e ∈ v.resting, e.station = n :=
  List.mem_map.mp (kept.listedNumbers_subperm.subset ((ascending_perm _).mem_iff.mp listed))

/-- The entry of a listed station comes before that of one left out, by age and then by number. -/
theorem ViewKept.listed_before {e f : ViewEntry} (he : e ∈ v.resting) (hf : f ∈ v.resting)
    (listed : e.station ∈ v.restingSeen) (left : f.station ∉ v.restingSeen) :
    e.age < f.age ∨ e.age = f.age ∧ e.station < f.station := by
  rw [kept.mem_restingSeen_iff he] at listed
  rw [kept.mem_restingSeen_iff hf] at left
  have sorted : restKey f ∈ ascending (v.resting.map restKey) :=
    (ascending_perm _).mem_iff.mpr (List.mem_map_of_mem hf)
  have order := kept.sortedKeys_pairwise
  rw [← List.take_append_drop 15 (ascending _)] at sorted order
  have behind := (List.mem_append.mp sorted).resolve_left left
  exact restKey_lt (kept.resting_carriers f hf).1 ((List.pairwise_append.mp order).2.2 _ listed _ behind)

end

theorem PeerView.restingSeen_length (v : PeerView) : v.restingSeen.length = min 15 v.resting.length := by
  rw [PeerView.restingSeen_eq, (ascending_perm _).length_eq, List.length_map, PeerView.listedKeys, List.length_take,
    (ascending_perm _).length_eq, List.length_map]

/-! ## The other fields -/

/-- A phase outside LOADING and MUTE has a code of three bits (R175). -/
theorem phaseCode_le {phase : Phase} (loading : phase ≠ .loading) (mute : phase ≠ .mute) : phaseCode phase ≤ 6 := by
  cases phase with
  | loading => exact absurd rfl loading
  | mute => exact absurd rfl mute
  | _ => decide

theorem roleCode_le (role : Role) : roleCode role ≤ 2 := by cases role <;> decide

/-- The byte of a carrier station's number names that station as cover. -/
theorem coverOf_ofNat {c : Nat} (carrier : c ≤ 59) : coverOf (BitVec.ofNat 8 c) = some c := by
  have read : (BitVec.ofNat 8 c).toNat = c := Nat.mod_eq_of_lt (by omega)
  have named : BitVec.ofNat 8 c ≠ 0xFF := fun absent => by
    rw [absent] at read
    exact absurd carrier (by rw [← read]; decide)
  rw [coverOf, if_neg named, read]

/-- Numbers below 256 come back from their bytes. -/
theorem numbers_ofNat {l : List Nat} (small : ∀ n ∈ l, n ≤ 59) :
    (l.map fun n => BitVec.ofNat 8 n).map (·.toNat) = l := by
  rw [List.map_map]
  refine (List.map_congr_left fun n mem => ?_).trans (List.map_id l)
  exact Nat.mod_eq_of_lt ((small n mem).trans_lt (by decide))

section
variable {s : State}

/-- The working level is at most C, whatever the estimator's state (R2, R8). -/
theorem State.workingLevel_le (kept : EstimateKept s) : s.workingLevel ≤ s.image.capacity := by
  cases state : s.lde.state with
  | tracking =>
    rw [State.workingLevel_tracking state (State.level_tracking kept state)]
    exact levelOf_le (State.handedDemand_le kept)
  | unseeded => exact (State.workingLevel_blind (.inl state)).le
  | blind => exact (State.workingLevel_blind (.inr state)).le

/-- The room is at most C, the ceiling being a share of it (R21, R28). -/
theorem State.room_le_capacity (kept : ImageKept s.image) : s.room ≤ s.image.capacity := by
  have ceiling := (State.limit_products kept).1
  have room := s.room_le
  unfold State.ceilingN at room
  omega

theorem CoverRecorded.composed (kept : CoverRecorded s) : coverOf s.composeBeacon.cover = s.rsq.cover := by
  unfold State.composeBeacon
  cases recorded : s.rsq.cover with
  | none => rfl
  | some c => exact coverOf_ofNat (kept.other c recorded).2

/-- The covering list reads back as the leaners of the book, oldest grant first (R76). -/
theorem State.covering_composed (kept : s.Inv) :
    s.composeBeacon.covering.map (·.toNat) = s.cvu.book.map (·.leaner) := by
  have bytes : s.composeBeacon.covering = (s.cvu.book.map (·.leaner)).map fun n => BitVec.ofNat 8 n := by
    rw [List.map_map]
    rfl
  have carriers : ∀ n ∈ s.cvu.book.map (·.leaner), n ≤ 59 := List.forall_mem_map.mpr fun p held => by
    obtain ⟨-, -, -, carrier⟩ := kept.pledges p held
    exact carrier
  rw [bytes, numbers_ofNat carriers]

theorem State.resting_composed (kept : s.Inv) : s.composeBeacon.resting.map (·.toNat) = s.pvt.restingSeen :=
  numbers_ofNat fun _ listed => by
    obtain ⟨e, rests, rfl⟩ := kept.view.exists_of_mem_restingSeen listed
    exact (kept.view.resting_carriers e rests).1

/-- Six leaners and 15 resting peers at most: both counts fit their four bits (R175). -/
theorem State.composeBeacon_wellFormed (kept : s.Inv) : s.composeBeacon.wellFormed = true := by
  have six := kept.book.atMostSix
  have listed := s.pvt.restingSeen_length
  simp only [BeaconFields.wellFormed, State.composeBeacon, List.length_map, Bool.and_eq_true, decide_eq_true_eq]
  omega

end

end Sys2Proof.Machine
end

section
/-! PROOFS. The statements on the beacons of others and of the own station (O28, O48). -/

namespace Sys2Proof.Machine

/-- Settles O28: a beacon is read exactly when its codes and the listed checks pass, and one that is not read reaches the
count of malformed beacons alone. -/
theorem beaconFieldChecks : Obligations.BeaconFieldChecks := by
  refine ⟨fun sender b => ⟨?passes, fun h read => ?taken⟩,
    fun after sender sector b s hears other carrier up malformed => ?discarded⟩
  case passes => rw [readBeacon_isSome_iff, beaconPhase_isSome_iff, roleOf_isSome_iff, fieldsPass_iff]
  case taken =>
    obtain ⟨phase, role, shown, named, -, rfl⟩ := (readBeacon_eq_some_iff sender b h).mp read
    exact ⟨rfl, phaseCode_of_beaconPhase shown, roleCode_of_roleOf named, rfl, rfl, rfl, rfl, rfl, rfl, rfl, rfl⟩
  case discarded =>
    have heard : (s.arrived after .beacon).rsq.phase ≠ .mute := by simpa using up
    rw [exec_beacon, execBeacon, State.event_arrive hears other (fun is => absurd is (by decide)),
      State.hearBeacon_malformed sector carrier heard malformed]

/-- Settles O48: the list by the order of its keys, and every other field within the width of its place in the beacon. -/
theorem beaconComposed : Obligations.BeaconComposed := by
  refine ⟨fun own v kept _ => ⟨kept.restingSeen_pairwise, v.restingSeen_length, fun n listed => ?listed,
    fun e he f hf => kept.listed_before he hf⟩, fun s kept loading mute => ?fields⟩
  case listed =>
    obtain ⟨e, rests, rfl⟩ := kept.exists_of_mem_restingSeen listed
    exact ⟨(kept.resting_carriers e rests).2, e, rests, rfl⟩
  case fields =>
    have phase := phaseCode_le loading mute
    have role := roleCode_le s.image.role
    have capacity := kept.image.capacity.2
    have level := State.workingLevel_le kept.estimate
    have room := State.room_le_capacity kept.image
    exact ⟨Nat.mod_eq_of_lt (by omega), Nat.mod_eq_of_lt (by omega), rfl, rfl, Nat.mod_eq_of_lt (by omega),
      Nat.mod_eq_of_lt (by omega), Nat.mod_eq_of_lt (by omega), kept.coverRecorded.composed,
      State.covering_composed kept, State.resting_composed kept, State.composeBeacon_wellFormed kept⟩

end Sys2Proof.Machine
end

section
/-! PROOFS. The choice of a recall (R71): the newest pledge of a kind in the book, and the pledge chosen when each kind comes
first (O23). -/

namespace Sys2Proof.Machine

/-! ## The newest of a kind -/

/-- A book is searched from its newest end: the pledge found is the one behind which no other passes. -/
theorem find?_reverse_of_newest {older newer : List Pledge} {p : Pledge} {test : Pledge → Bool} (passes : test p = true)
    (newest : ∀ q ∈ newer, test q = false) : (older ++ p :: newer).reverse.find? test = some p :=
  List.find?_eq_some_iff_append.mpr
    ⟨passes, newer.reverse, older.reverse, by simp, fun q held => by simp [newest q (List.mem_reverse.mp held)]⟩

/-- The test of preferences 2 and 3 of R71 finds the newest pledge RESTING at a depth. -/
theorem find?_reverse_of_newest_resting {older newer : List Pledge} {p : Pledge} {at_ : Depth}
    (rests : p.state = .resting) (depth : p.depth = some at_) (newest : ∀ q ∈ newer, q.depth ≠ some at_) :
    (older ++ p :: newer).reverse.find? (fun p => p.state == .resting && p.depth == some at_) = some p :=
  find?_reverse_of_newest (by simp [rests, depth]) fun q held => by simp [newest q held]

/-- Among the pledges of a book that are of one kind, one is the newest. -/
theorem exists_newest {book : List Pledge} {kind : Pledge → Prop} (one : ∃ p ∈ book, kind p) :
    ∃ (older newer : List Pledge) (p : Pledge), book = older ++ p :: newer ∧ kind p ∧ ∀ q ∈ newer, ¬kind q := by
  induction book with
  | nil => simp at one
  | cons first rest ih =>
    by_cases later : ∃ p ∈ rest, kind p
    · obtain ⟨older, newer, p, rfl, is, newest⟩ := ih later
      exact ⟨first :: older, newer, p, rfl, is, newest⟩
    · have last : ∀ q ∈ rest, ¬kind q := fun q held is => later ⟨q, held, is⟩
      exact ⟨[], rest, first, rfl, by simpa [later] using one, last⟩

/-! ## The order of preference -/

/-- Preference 1 of R71. -/
theorem chooseRecall_of_newest_granted {older newer : List Pledge} {p : Pledge} (granted : p.state = .granted)
    (newest : ∀ q ∈ newer, q.state ≠ .granted) : chooseRecall (older ++ p :: newer) = some p := by
  have found := find?_reverse_of_newest (older := older) (test := (·.state == .granted)) (by simpa using granted)
    (by simpa using newest)
  rw [chooseRecall, found, Option.orElse_some]

/-- With no pledge GRANTED the choice goes on to the kinds of RESTING pledges. -/
theorem chooseRecall_of_none_granted {book : List Pledge} (noGranted : ∀ q ∈ book, q.state ≠ .granted) :
    chooseRecall book =
      (book.reverse.find? fun p => p.state == .resting && p.depth == some .standby).orElse fun _ =>
        book.reverse.find? fun p => p.state == .resting && p.depth == some .deep := by
  have missed : book.reverse.find? (·.state == .granted) = none := by simpa using noGranted
  rw [chooseRecall, missed, Option.orElse_none]

/-- Preference 2 of R71. -/
theorem chooseRecall_of_newest_standby {older newer : List Pledge} {p : Pledge}
    (noGranted : ∀ q ∈ older ++ p :: newer, q.state ≠ .granted) (rests : p.state = .resting)
    (depth : p.depth = some .standby) (newest : ∀ q ∈ newer, q.depth ≠ some .standby) :
    chooseRecall (older ++ p :: newer) = some p := by
  rw [chooseRecall_of_none_granted noGranted, find?_reverse_of_newest_resting rests depth newest, Option.orElse_some]

/-- Preference 3 of R71. -/
theorem chooseRecall_of_newest_deep {older newer : List Pledge} {p : Pledge}
    (neither : ∀ q ∈ older ++ p :: newer, q.state ≠ .granted ∧ q.depth ≠ some .standby) (rests : p.state = .resting)
    (depth : p.depth = some .deep) (newest : ∀ q ∈ newer, q.depth ≠ some .deep) :
    chooseRecall (older ++ p :: newer) = some p := by
  have missed :
      (older ++ p :: newer).reverse.find? (fun p => p.state == .resting && p.depth == some .standby) = none :=
    List.find?_eq_none.mpr fun q held => by simp [(neither q (List.mem_reverse.mp held)).2]
  rw [chooseRecall_of_none_granted fun q held => (neither q held).1, missed, Option.orElse_none,
    find?_reverse_of_newest_resting rests depth newest]

/-- Settles O23: by the first kind of R71 that the book holds a pledge of. With none GRANTED and none at STANDBY, every pledge
rests at DEEP, and the last of the book is taken. -/
theorem recallTakesNewest : Obligations.RecallTakesNewest := by
  refine fun book kinds => ⟨by rintro rfl; rfl, fun filled => ?chosen⟩
  case chosen =>
    by_cases granted : ∃ p ∈ book, p.state = .granted
    · obtain ⟨older, newer, p, rfl, is, newest⟩ := exists_newest granted
      exact ⟨older, newer, p, rfl, chooseRecall_of_newest_granted is newest, .inl ⟨is, newest⟩⟩
    have noGranted : ∀ q ∈ book, q.state ≠ .granted := fun q held is => granted ⟨q, held, is⟩
    have resting : ∀ q ∈ book, q.state = .resting ∧ (q.depth = some .standby ∨ q.depth = some .deep) :=
      fun q held => (kinds q held).resolve_left (noGranted q held)
    by_cases standby : ∃ p ∈ book, p.depth = some .standby
    · obtain ⟨older, newer, p, rfl, depth, newest⟩ := exists_newest standby
      have rests := (resting p (by simp)).1
      exact ⟨older, newer, p, rfl, chooseRecall_of_newest_standby noGranted rests depth newest,
        .inr (.inl ⟨rests, depth, noGranted, newest⟩)⟩
    have noStandby : ∀ q ∈ book, q.depth ≠ some .standby := fun q held is => standby ⟨q, held, is⟩
    obtain ⟨older, p, rfl⟩ := (List.eq_nil_or_concat' book).resolve_left filled
    obtain ⟨rests, depth⟩ := resting p (by simp)
    have deep := depth.resolve_left (noStandby p (by simp))
    have neither : ∀ q ∈ older ++ [p], q.state ≠ .granted ∧ q.depth ≠ some .standby :=
      fun q held => ⟨noGranted q held, noStandby q held⟩
    exact ⟨older, [], p, rfl, chooseRecall_of_newest_deep neither rests deep (by simp),
      .inr (.inr ⟨rests, deep, neither, rfl⟩)⟩

end Sys2Proof.Machine
end

section
/-! PROOFS. The choice of a cover (R83): the order of preference, the first of a list by it, and the candidate chosen (O33). -/

namespace Sys2Proof.Machine

/-- The tests of a cover candidate, as R83 lists them. -/
theorem candidate_iff {amount : Nat} {e : ViewEntry} :
    candidate amount e = true ↔
      e.age ≤ 2 ∧ e.phase = .awake ∧ (e.role = .anchor ∨ e.role = .capacity) ∧ e.shunned = false ∧ e.clash = false ∧
        amount ≤ e.room := by
  simp [candidate, viewFresh, and_assoc]

/-! ## The order of preference -/

/-- Between two roles the ANCHOR is preferred, whatever the other; within one role the room decides, then the number. -/
theorem preferred_iff {e f : ViewEntry} :
    preferred e f = true ↔
      (e.role = .anchor ∧ f.role ≠ .anchor) ∨
      (e.role = f.role ∧ (f.room < e.room ∨ f.room = e.room ∧ e.station < f.station)) := by
  unfold preferred
  split
  next role =>
    split
    next room => simp [role, room]
    next room => simp [role, Ne.symm room]
  next role =>
    have other : e.role = .anchor → f.role ≠ .anchor := fun is is' => role (is.trans is'.symm)
    simpa [role] using other

theorem preferred_trans {e f g : ViewEntry} (first : preferred e f = true) (second : preferred f g = true) :
    preferred e g = true := by
  rw [preferred_iff] at *
  rcases first with ⟨anchor, notAnchor⟩ | ⟨role, before⟩
  · rcases second with ⟨anchor', -⟩ | ⟨role', -⟩
    · exact absurd anchor' notAnchor
    · exact .inl ⟨anchor, role' ▸ notAnchor⟩
  · rcases second with ⟨anchor', notAnchor⟩ | ⟨role', before'⟩
    · exact .inl ⟨role.trans anchor', notAnchor⟩
    · exact .inr ⟨role.trans role', by omega⟩

/-- Of two stations that may be covers by their roles, one is preferred: equal roles and rooms leave the numbers to decide. -/
theorem preferred_of_not_preferred {e f : ViewEntry} (roleE : e.role = .anchor ∨ e.role = .capacity)
    (roleF : f.role = .anchor ∨ f.role = .capacity) (stations : e.station ≠ f.station)
    (notBefore : ¬preferred f e = true) : preferred e f = true := by
  rw [preferred_iff] at *
  by_cases role : e.role = f.role
  · have : ¬(e.room < f.room ∨ e.room = f.room ∧ f.station < e.station) := fun before =>
      notBefore (.inr ⟨role.symm, before⟩)
    exact .inr ⟨role, by omega⟩
  · have notAnchor : f.role ≠ .anchor := fun is => notBefore (.inl ⟨is, fun is' => role (is'.trans is.symm)⟩)
    have capacity := roleF.resolve_left notAnchor
    exact .inl ⟨roleE.resolve_right fun is => role (is.trans capacity.symm), notAnchor⟩

/-! ## The first of a list -/

theorem mostPreferred_eq_none {l : List ViewEntry} : mostPreferred l = none ↔ l = [] := by
  cases l with
  | nil => simp [mostPreferred]
  | cons e rest =>
    simp only [mostPreferred, reduceCtorEq, iff_false]
    split
    · simp
    · split <;> simp

/-- With an entry in front, the choice is the one the rest gives where that is preferred to it, and the entry otherwise. -/
theorem mostPreferred_cons_eq_some {e c : ViewEntry} {rest : List ViewEntry}
    (chosen : mostPreferred (e :: rest) = some c) :
    (mostPreferred rest = some c ∧ preferred c e = true) ∨
      (c = e ∧ ∀ f, mostPreferred rest = some f → ¬preferred f e = true) := by
  unfold mostPreferred at chosen
  split at chosen
  next noneLater =>
    cases chosen
    exact .inr ⟨rfl, by simp [noneLater]⟩
  next f later =>
    split at chosen
    next before =>
      cases chosen
      exact .inl ⟨later, before⟩
    next notBefore =>
      cases chosen
      exact .inr ⟨rfl, by simpa [later] using notBefore⟩

theorem mostPreferred_mem {l : List ViewEntry} {c : ViewEntry} (chosen : mostPreferred l = some c) : c ∈ l := by
  induction l with
  | nil => cases chosen
  | cons e rest ih =>
    rcases mostPreferred_cons_eq_some chosen with ⟨later, -⟩ | ⟨rfl, -⟩
    · exact List.mem_cons_of_mem _ (ih later)
    · exact List.mem_cons_self

/-- Of stations that may be covers, one entry each, the choice comes before every other: before the one in front by the test
made, before the rest by way of the choice among the rest. -/
theorem mostPreferred_first {l : List ViewEntry} (oneEach : l.Pairwise fun e f => e.station ≠ f.station)
    (roles : ∀ e ∈ l, e.role = .anchor ∨ e.role = .capacity) {c : ViewEntry} (chosen : mostPreferred l = some c) :
    ∀ f ∈ l, f ≠ c → preferred c f = true := by
  induction l generalizing c with
  | nil => cases chosen
  | cons e rest ih =>
    obtain ⟨newFirst, restOneEach⟩ := List.pairwise_cons.mp oneEach
    obtain ⟨roleE, restRoles⟩ := List.forall_mem_cons.mp roles
    rcases mostPreferred_cons_eq_some chosen with ⟨later, before⟩ | ⟨rfl, notLater⟩
    · exact List.forall_mem_cons.mpr ⟨fun _ => before, ih restOneEach restRoles later⟩
    · refine List.forall_mem_cons.mpr ⟨fun other => absurd rfl other, fun f held _ => ?_⟩
      cases ofRest : mostPreferred rest with
      | none => simp [mostPreferred_eq_none.mp ofRest] at held
      | some g =>
        have inRest := mostPreferred_mem ofRest
        have before : preferred c g = true :=
          preferred_of_not_preferred roleE (restRoles g inRest) (newFirst g inRest) (notLater g ofRest)
        by_cases same : f = g
        · exact same ▸ before
        · exact preferred_trans before (ih restOneEach restRoles ofRest f held same)

/-! ## The cover chosen -/

theorem PeerView.chooseCover_eq_none {v : PeerView} {amount : Nat} :
    v.chooseCover amount = none ↔ ∀ e ∈ v.entries, ¬candidate amount e = true :=
  mostPreferred_eq_none.trans List.filter_eq_nil_iff

theorem PeerView.chooseCover_mem {v : PeerView} {amount : Nat} {e : ViewEntry} (chosen : v.chooseCover amount = some e) :
    e ∈ v.entries ∧ candidate amount e = true :=
  List.mem_filter.mp (mostPreferred_mem chosen)

/-- The candidates of a view are one entry for each station, and have the roles of a cover. -/
theorem ViewKept.chooseCover_first {own : Nat} {v : PeerView} (kept : ViewKept own v) {amount : Nat} {e f : ViewEntry}
    (chosen : v.chooseCover amount = some e) (held : f ∈ v.entries) (is : candidate amount f = true) (other : f ≠ e) :
    preferred e f = true := by
  have oneEach : (v.entries.filter (candidate amount)).Pairwise fun e f => e.station ≠ f.station :=
    (List.pairwise_map.mp kept.oneEach).sublist List.filter_sublist
  have roles : ∀ g ∈ v.entries.filter (candidate amount), g.role = .anchor ∨ g.role = .capacity := fun g hg => by
    obtain ⟨-, -, role, -⟩ := candidate_iff.mp (List.mem_filter.mp hg).2
    exact role
  exact mostPreferred_first oneEach roles chosen f (List.mem_filter.mpr ⟨held, is⟩) other

/-- Settles O33: the choice is the first of the candidates by the order of preference, and a candidate that is not ANCHOR is
CAPACITY. -/
theorem coverCandidateChosen : Obligations.CoverCandidateChosen := by
  refine fun own v amount kept => ⟨?none, fun e chosen => ?chosen⟩
  case none => exact PeerView.chooseCover_eq_none.trans (by simp only [candidate_iff])
  case chosen =>
    obtain ⟨held, is⟩ := PeerView.chooseCover_mem chosen
    refine ⟨held, candidate_iff.mp is, fun f heldF isF other => ?_⟩
    have before := kept.chooseCover_first chosen heldF (candidate_iff.mpr isF) other
    obtain ⟨-, -, role, -⟩ := isF
    exact (preferred_iff.mp before).imp_left (And.imp_right role.resolve_left)

end Sys2Proof.Machine
end

section
/-! PROOFS. Counts made one after another (R168), and the window opened by a notice: its timer, its counts, and what an open
window no longer holds back (R28, R50, R59, R70, R120 to R122; O41). -/

namespace Sys2Proof.Machine

/-! ## Counts one after another -/

theorem Counted.refl {s t : State} (same : ∀ c, t.count c = s.count c) : Counted s t [] := fun c => by simp [same c]

/-- A further count joins the list, also of a counter already in it: the sum stops at 65535 either way. -/
theorem Counted.bump {s t : State} {cs : List Counter} (h : Counted s t cs) (d : Counter) :
    Counted s (t.bump d) (cs ++ [d]) := by
  intro c
  rw [State.count_bump, h c]
  by_cases own : c = d
  · subst own
    by_cases before : c ∈ cs
    · simp only [before, ↓reduceIte, saturatingSucc, List.mem_append, true_or, List.count_append, List.count_singleton_self]
      omega
    · simp [before, saturatingSucc, List.count_eq_zero_of_not_mem before]
  · simp [own, Ne.symm own, List.count_append]

/-- An arrival counts its kind, after a time that counts nothing. -/
theorem State.counted_arrived (s : State) (after : Micros) (k : Kind) : Counted s (s.arrived after k) [.arrivals k] :=
  (Counted.refl (t := s.heard after) fun _ => rfl).bump (.arrivals k)

/-! ## The window opened -/

section
variable {s : State}

theorem exec_windowOpen (after : Micros) (sender : BitVec 6) (duration : BitVec 16) (mask : BitVec 8) (s : State) :
    exec (.windowOpen after sender duration mask) s = execWindowOpen after sender duration mask s := rfl

/-- The duration as taken, by the range it lies in (R121). -/
theorem takenMinutes_eq (duration : BitVec 16) :
    takenMinutes duration =
      if duration.toNat = 0 then 1 else if 720 < duration.toNat then 720 else duration.toNat := by
  unfold takenMinutes
  split_ifs <;> omega

/-- An open from CLOSED or OPEN: the two blocks it writes, and Accounting (R50, R122). -/
theorem State.openWindow_eq (minutes : Nat) :
    s.openWindow minutes =
      { s with
        plu := { s.plu with windowOpen := true, windowTimer := some (s.clock + minutes * minute) }
        pvt := if s.plu.windowOpen then s.pvt else s.pvt.forgive
        acc := (s.openWindow minutes).acc } := by
  cases isOpen : s.plu.windowOpen with
  | true =>
    rw [State.openWindow, if_pos isOpen]
    simp only [State.onPlu, State.bump, State.onAcc, isOpen, ↓reduceIte]
  | false =>
    rw [State.openWindow, if_neg (by simp [isOpen])]
    rfl

/-- An open is counted as taken, and as an opening when it is a transition (R122). -/
theorem State.counted_openWindow {before : State} {cs : List Counter} (h : Counted before s cs) (minutes : Nat) :
    Counted before (s.openWindow minutes)
      (cs ++ [.windowsTaken] ++ if s.plu.windowOpen then [] else [.windowOpenings]) := by
  have taken := h.bump .windowsTaken
  cases isOpen : s.plu.windowOpen with
  | true =>
    rw [State.openWindow, if_pos isOpen, if_pos rfl, List.append_nil]
    exact taken
  | false =>
    rw [State.openWindow, if_neg (by simp [isOpen])]
    exact Counted.bump (t := State.onPvt _ _) taken .windowOpenings

/-- A timer just started for a number of minutes has them all remaining (R120). -/
theorem State.remainingMinutes_of_started {minutes : Nat} (started : s.plu.windowTimer = some (s.clock + minutes * minute)) :
    s.remainingMinutes = minutes := by
  have left : s.plu.windowTimer.remaining s.clock = minutes * minute := by
    rw [started]
    exact Nat.add_sub_cancel_left _ _
  rw [State.remainingMinutes, left]
  unfold ceilDiv minute second
  omega

/-! ## What an open window no longer holds back -/

theorem State.roomForced_of_open (isOpen : s.plu.windowOpen = true) :
    s.roomForced =
      (s.rsq.phase != .awake || s.image.role == .stay || s.lde.state != .tracking || s.lif.clash) := by
  simp [State.roomForced, LoadEstimator.isBlind, isOpen]

theorem State.continuousRecall_of_open (isOpen : s.plu.windowOpen = true) :
    s.continuousRecall = (s.lde.state != .tracking || s.lif.clash) := by
  simp [State.continuousRecall, LoadEstimator.isBlind, isOpen]

/-- An open window is the fifth test passed: an ask is denied as CLOSED by no other (R59). -/
theorem State.denyReason_ne_closed_of_open (isOpen : s.plu.windowOpen = true) (sector : BitVec 3) (amount : Nat) :
    s.denyReason sector amount ≠ some .closed := by
  unfold State.denyReason
  simp only [isOpen, Bool.true_eq_false, ↓reduceIte]
  split_ifs <;> simp

end

/-- Settles O41: a notice masked out is counted alone; of one taken the next state is `openWindow`'s, and the readings follow from
the window being OPEN in it. -/
theorem windowOpenTaken : Obligations.WindowOpenTaken := by
  intro after sender duration mask s hears other maintenance minutes
  have arrival : exec (.windowOpen after sender duration mask) s =
      .next (State.masked mask (State.openWindow minutes) (s.arrived after .window)) := by
    rw [exec_windowOpen, execWindowOpen, State.event_arrive hears other fun _ => maintenance, takenMinutes_eq]
  refine ⟨fun out => ?masked, fun taken => ?opened⟩
  case masked => exact arrival.trans (congrArg _ (State.masked_out out))
  case opened =>
    have next := State.openWindow_eq (s := s.arrived after .window) minutes
    have isOpen : ((s.arrived after .window).openWindow minutes).plu.windowOpen = true := by rw [next]
    have started : ((s.arrived after .window).openWindow minutes).plu.windowTimer =
        some (s.clock + after + minutes * minute) := by rw [next]; rfl
    refine ⟨_, arrival.trans (congrArg _ (State.masked_in taken)), next, countsAlone_of ?accounts,
      State.counted_openWindow (s.counted_arrived after .window) minutes, ?remaining, ?room,
      ?continuous, State.denyReason_ne_closed_of_open isOpen⟩
    case accounts => simp [State.arrived, State.heard]
    case remaining => exact State.remainingMinutes_of_started (by simpa using started)
    case room =>
      rw [State.roomForced_of_open isOpen]
      simp [State.image]
    case continuous =>
      rw [State.continuousRecall_of_open isOpen]
      simp

end Sys2Proof.Machine
end

section
/-! PROOFS. One forming of the terms: what it leaves formed, when it changes nothing, and the wake of a rouse term that turns true
(R96 to R98, R110, R131 to R134). -/

namespace Sys2Proof.Machine

/-! ## Conditions and formed terms -/

/-- A condition is read from seven suppliers alone (R130). -/
theorem State.condition_congr {s t : State} (linkLost : t.lde.linkLost = s.lde.linkLost)
    (fault : t.clp.carrierFault = s.clp.carrierFault) (noCover : t.rsq.noCover = s.rsq.noCover)
    (unsettled : t.rsq.unsettled = s.rsq.unsettled) (recalled : t.rsq.recentRecall = s.rsq.recentRecall)
    (clash : t.lif.clash = s.lif.clash) (isolated : t.pvt.isolated = s.pvt.isolated) (flags : t.plu.flags = s.plu.flags)
    (code : BitVec 4) : t.condition code = s.condition code := by
  simp only [State.condition, linkLost, fault, noCover, unsettled, recalled, clash, isolated, flags]

/-- Codes 0 to 7 are the site flags in their order (R130). -/
theorem State.condition_flag (s : State) {n : Nat} (flag : n < 8) :
    s.condition (BitVec.ofNat 4 n) = flagValue s.plu.flags n := by
  interval_cases n <;> rfl

/-- Formed terms stay formed while the phase's side of LOADING, the conditions, the active profile and the values stay. -/
theorem TermsFormed.congr {s t : State} (h : TermsFormed s) (loading : t.rsq.phase = .loading ↔ s.rsq.phase = .loading)
    (conditions : ∀ code, t.condition code = s.condition code) (profile : t.profile = s.profile)
    (hold : t.plu.hold = s.plu.hold) (rouse : t.plu.rouse = s.plu.rouse) : TermsFormed t := by
  simpa only [TermsFormed, State.testTerm, loading, conditions, profile, hold, rouse] using h

variable {s : State}

theorem State.condition_formValues (code : BitVec 4) : s.formValues.condition code = s.condition code :=
  State.condition_congr (by simp) (by simp) (by simp) (by simp) (by simp) (by simp) (by simp) (by simp) code

theorem State.profile_formValues : s.formValues.profile = s.profile := by simp [State.profile, State.image]

theorem termsFormed_formValues (up : s.rsq.phase ≠ .loading) : TermsFormed s.formValues := by
  obtain ⟨hold, rouse⟩ := State.formValues_values up
  have after : s.formValues.rsq.phase ≠ .loading := by simpa using up
  rw [TermsFormed, if_neg after, hold, rouse]
  simp only [State.testTerm, State.condition_formValues, State.profile_formValues, and_self]

/-- Where the terms are formed, forming them again changes nothing (R132). -/
theorem TermsFormed.formValues (h : TermsFormed s) : s.formValues = s := by
  by_cases loading : s.rsq.phase = .loading
  · exact State.formValues_loading loading
  · rw [TermsFormed, if_neg loading] at h
    obtain ⟨hold, rouse⟩ := h
    rw [State.formValues, if_neg loading]
    simp only [← hold, ← rouse, ↓reduceIte]
    rfl

/-- Where the terms are formed, no rouse term turns true. -/
theorem TermsFormed.formTerms (h : TermsFormed s) : s.formTerms = s := by
  have quiet : (!s.plu.rouse && s.plu.rouse) = false := Bool.not_and_self _
  rw [State.formTerms, h.formValues, quiet]
  rfl

/-- A changed hold term freezes a running rest clock and releases a frozen one; a stopped one stays (R110, R133). -/
theorem RestClock.holdReport_eq (k : RestClock) (hold : Bool) :
    k.holdReport hold =
      { k with mode := if k.mode = .stopped then .stopped else if hold then .frozen else .running } := by
  obtain ⟨mode, measured⟩ := k
  cases mode <;> cases hold <;> rfl

/-- Of the sequencer a forming changes whether the rest clock runs, when the hold term changes (R110, R133). -/
theorem State.formValues_rsq :
    s.formValues.rsq =
      { s.rsq with
        restClock :=
          if s.formValues.plu.hold = s.plu.hold then s.rsq.restClock
          else s.rsq.restClock.holdReport s.formValues.plu.hold } := by
  by_cases loading : s.rsq.phase = .loading
  · simp [State.formValues_loading loading]
  · rw [(State.formValues_values loading).1, State.formValues, if_neg loading]
    dsimp only
    split_ifs <;> rfl

/-! ## The wake with cause ROUSE -/

/-- In DRAINING a wake is counted and aborts the drain. -/
theorem State.wake_of_draining (cause : WakeCause) (draining : s.rsq.phase = .draining) :
    s.wake cause = (s.countWake cause).abortDrain cause := by
  rw [State.wake, draining]

/-- In STANDBY and DEEP a wake is counted and ends the rest. -/
theorem State.wake_of_resting (cause : WakeCause) (resting : s.rsq.phase = .standby ∨ s.rsq.phase = .deep) :
    s.wake cause = (s.countWake cause).leaveRest cause := by
  rcases resting with standby | deep
  · rw [State.wake, standby]
  · rw [State.wake, deep]

/-- A wake is taken in DRAINING, in STANDBY or DEEP, or ignored (R96). -/
theorem State.wake_cases (cause : WakeCause) :
    (s.rsq.phase = .draining ∧ s.wake cause = (s.countWake cause).abortDrain cause) ∨
      ((s.rsq.phase = .standby ∨ s.rsq.phase = .deep) ∧ s.wake cause = (s.countWake cause).leaveRest cause) ∨
      s.wake cause = s := by
  by_cases draining : s.rsq.phase = .draining
  · exact .inl ⟨draining, State.wake_of_draining cause draining⟩
  by_cases resting : s.rsq.phase = .standby ∨ s.rsq.phase = .deep
  · exact .inr (.inl ⟨resting, State.wake_of_resting cause resting⟩)
  · rw [not_or] at resting
    exact .inr (.inr (State.wake_ignored cause draining resting.1 resting.2))

/-- An abort for another cause than RECALL sets no rest guard: the Policy Unit and every condition stay (R98, R99). -/
theorem State.abortDrain_policy {cause : WakeCause} (other : cause ≠ .recall) :
    (s.abortDrain cause).plu = s.plu ∧ (s.abortDrain cause).rsq.recentRecall = s.rsq.recentRecall := by
  simp [State.abortDrain, other]

/-- The end of a rest forms the terms only where UNSETTLED turns false with it (R109). -/
theorem State.leaveRest_of_settled (cause : WakeCause) (settled : s.rsq.unsettled = false) :
    (s.leaveRest cause).plu = s.plu ∧ (s.leaveRest cause).rsq.unsettled = false := by
  simp [State.leaveRest, settled]

theorem TermsFormed.leaveRest (h : TermsFormed s) (cause : WakeCause)
    (resting : s.rsq.phase = .standby ∨ s.rsq.phase = .deep) : TermsFormed (s.leaveRest cause) := by
  have up : s.rsq.phase ≠ .loading := by rcases resting with is | is <;> simp [is]
  cases unsettled : s.rsq.unsettled with
  | true =>
    rw [State.leaveRest, unsettled, if_pos rfl]
    refine termsFormed_formValues ?_
    simp only [State.onRsq_rsq]
    split_ifs <;> simp
  | false =>
    obtain ⟨policy, stays⟩ := s.leaveRest_of_settled cause unsettled
    have woken : (s.leaveRest cause).rsq.phase ≠ .loading := by
      rw [State.leaveRest, unsettled]
      simp only [Bool.false_eq_true, ↓reduceIte, State.onRsq_rsq]
      split_ifs <;> simp
    exact h.congr (by simp [woken, up])
      (State.condition_congr (by simp) (by simp) (by simp) (by rw [stays, unsettled]) (by simp) (by simp) (by simp)
        (by simp))
      (by simp [State.profile, State.image]) (by rw [policy]) (by rw [policy])

theorem TermsFormed.countWake (h : TermsFormed s) (cause : WakeCause) : TermsFormed (s.countWake cause) :=
  h.congr (by simp)
    (State.condition_congr (by simp) (by simp) (by simp) (by simp) (by simp) (by simp) (by simp) (by simp))
    (by simp [State.profile, State.image]) (by simp) (by simp)

theorem TermsFormed.abortDrain (h : TermsFormed s) {cause : WakeCause} (other : cause ≠ .recall)
    (up : s.rsq.phase ≠ .loading) : TermsFormed (s.abortDrain cause) := by
  obtain ⟨policy, recalled⟩ := s.abortDrain_policy other
  have awake : (s.abortDrain cause).rsq.phase = .awake := by simp [State.abortDrain, other]
  exact h.congr (by simp [awake, up])
    (State.condition_congr (by simp) (by simp) (by simp) (by simp) recalled (by simp) (by simp) (by simp))
    (by simp [State.profile, State.image]) (by rw [policy]) (by rw [policy])

/-- A wake of another cause than RECALL keeps the terms formed. -/
theorem TermsFormed.wake (h : TermsFormed s) {cause : WakeCause} (other : cause ≠ .recall) :
    TermsFormed (s.wake cause) := by
  have counted := h.countWake cause
  rcases s.wake_cases cause with ⟨draining, wake⟩ | ⟨resting, wake⟩ | ignored
  · rw [wake]
    exact counted.abortDrain other (by simp [draining])
  · rw [wake]
    exact counted.leaveRest cause (by simpa using resting)
  · rwa [ignored]

/-- Outside LOADING a forming with its report leaves the terms formed (R132, R134). -/
theorem termsFormed_formTerms (up : s.rsq.phase ≠ .loading) : TermsFormed s.formTerms := by
  have values := termsFormed_formValues up
  rcases s.formTerms_cases with same | woken
  · rwa [same]
  · rw [woken]
    exact values.wake (by decide)

/-- A wake of another cause than RECALL leaves the Policy Unit while UNSETTLED is false. -/
theorem State.wake_plu {cause : WakeCause} (other : cause ≠ .recall) (settled : s.rsq.unsettled = false) :
    (s.wake cause).plu = s.plu := by
  rcases s.wake_cases cause with ⟨-, wake⟩ | ⟨-, wake⟩ | ignored
  · rw [wake, ((s.countWake cause).abortDrain_policy other).1]
    simp
  · rw [wake, ((s.countWake cause).leaveRest_of_settled cause (by simpa using settled)).1]
    simp
  · rw [ignored]

/-- A rouse term left false has woken no station that is not UNSETTLED: the values alone are formed. -/
theorem State.formTerms_of_quiet (settled : s.rsq.unsettled = false) (quiet : s.formTerms.plu.rouse = false) :
    s.formTerms = s.formValues := by
  cases turned : !s.plu.rouse && s.formValues.plu.rouse with
  | false => rw [State.formTerms, turned]; rfl
  | true =>
    have woken : s.formTerms = s.formValues.wake .rouse := by rw [State.formTerms, turned]; rfl
    rw [woken, State.wake_plu (by decide) (by simpa using settled)] at quiet
    simp [quiet] at turned

/-- A rouse term that a forming has turned true is a wake cause (R134). -/
theorem State.formTerms_of_turned (was : s.plu.rouse = false) (turned : s.formTerms.plu.rouse = true) :
    s.formTerms = s.formValues.wake .rouse := by
  cases formed : s.formValues.plu.rouse with
  | true => rw [State.formTerms, was, formed]; rfl
  | false =>
    have values : s.formTerms = s.formValues := by rw [State.formTerms, was, formed]; rfl
    rw [values, formed] at turned
    cases turned

/-! ## What a wake leaves on the line and counts -/

/-- An offer that drops no notice counts none: its only counts are those of the queue (R142, R143). -/
theorem State.count_offer_of_ne {c : Counter} (kept : ∀ k, c ≠ .queueDiscards k) (status : c ≠ .statusReplaced)
    (n : Notice) : (s.offer n).count c = s.count c := by
  have joins : (s.enqueue n).count c = s.count c := by
    unfold State.enqueue
    repeat' split
    all_goals simp [State.count_bump, kept]
  unfold State.offer
  repeat' split
  all_goals simp [joins, State.count_bump, status]

/-- What an offer leaves on the line is decided by the line and the phase alone. -/
theorem State.offer_lif_congr {t : State} (line : t.lif = s.lif) (phase : t.rsq.phase = s.rsq.phase) (n : Notice) :
    (t.offer n).lif = (s.offer n).lif := by
  have joins : (t.enqueue n).lif = (s.enqueue n).lif := by
    unfold State.enqueue
    rw [line]
    repeat' split
    all_goals simp [line]
  unfold State.offer
  rw [line, phase]
  repeat' split
  all_goals simp [line, joins]

/-- The line after a drain aborted: a RESUME to its cover (R98). -/
theorem State.wake_lif_of_draining {cause : WakeCause} (other : cause ≠ .recall) (draining : s.rsq.phase = .draining)
    {cover : Nat} (recorded : s.rsq.cover = some cover) :
    (s.wake cause).lif = (s.offer (.resume cover s.rsq.tag)).lif := by
  rw [State.wake_of_draining cause draining]
  simp only [State.abortDrain, other, ↓reduceIte, State.onRsq_lif, State.resumeToCover, State.onRsq_rsq,
    State.countWake_frame, recorded]
  exact State.offer_lif_congr (by simp) (by simp) _

/-- A wake from rest leaves the line (R97). -/
theorem State.wake_lif_of_resting (cause : WakeCause) (resting : s.rsq.phase = .standby ∨ s.rsq.phase = .deep) :
    (s.wake cause).lif = s.lif := by
  rw [State.wake_of_resting cause resting]
  simp

end Sys2Proof.Machine
end

section
/-! PROOFS. The rouse report as the statements word it, and the FLAGS notice (R96 to R98, R129, R134; O43). -/

namespace Sys2Proof.Machine

variable {s : State}

/-! ## The wake with cause ROUSE -/

/-- A wake with cause ROUSE does to the counters what it is counted for, and a drain it aborts is no failure (R96, R98). -/
theorem State.count_wake_rouse (taken : s.rsq.phase = .draining ∨ s.rsq.phase = .standby ∨ s.rsq.phase = .deep) :
    (s.wake .rouse).count (.wakes .rouse) = saturatingSucc Config.counterLimit (s.count (.wakes .rouse)) ∧
      (s.wake .rouse).count .drainFailures = s.count .drainFailures := by
  have counts (c : Counter) (queue : ∀ k, c ≠ .queueDiscards k) (status : c ≠ .statusReplaced) :
      (s.wake .rouse).count c = (s.bump (.wakes .rouse)).count c := by
    rcases taken with draining | resting
    · rw [State.wake_of_draining .rouse draining, State.abortDrain, if_neg (by decide), State.resumeToCover]
      split
      · simp [State.count_offer_of_ne queue status, State.countWake]
      · simp [State.countWake]
    · rw [State.wake_of_resting .rouse resting]
      simp [State.countWake]
  exact ⟨by rw [counts _ (by simp) (by simp)]; simp, by rw [counts _ (by simp) (by simp)]; simp [State.count_bump]⟩

theorem State.rouseWake : RouseWake s (s.wake .rouse) where
  draining draining := by
    obtain ⟨phase, cover, timer, -⟩ := State.wake_draining .rouse draining
    exact ⟨phase, cover, timer, by simp, (State.count_wake_rouse (.inl draining)).2⟩
  resting resting := by
    obtain ⟨phase, cover, -⟩ := State.wake_resting .rouse resting
    exact ⟨phase, cover⟩
  counted taken := by
    refine ⟨?_, (State.count_wake_rouse taken).1⟩
    rcases taken with draining | resting
    · obtain ⟨-, -, -, cause⟩ := State.wake_draining .rouse draining
      exact cause
    · obtain ⟨-, -, -, cause, -⟩ := State.wake_resting .rouse resting
      exact cause

/-- A wake from a state is one from any state that agrees with it in what a wake reads. -/
theorem RouseWake.congr {r t : State} (h : RouseWake r t) (phase : r.rsq.phase = s.rsq.phase)
    (cover : r.rsq.cover = s.rsq.cover) (backoff : r.rsq.backoff = s.rsq.backoff)
    (dark : r.rsq.darkGiven = s.rsq.darkGiven) (failures : r.count .drainFailures = s.count .drainFailures)
    (wakes : r.count (.wakes .rouse) = s.count (.wakes .rouse)) : RouseWake s t where
  draining := by simpa only [phase, backoff, failures] using h.draining
  resting := by simpa only [phase, cover, dark] using h.resting
  counted := by simpa only [phase, wakes] using h.counted

/-- A forming in the work of an arrival that turns the rouse term true, where the work has not yet touched the line, the sequencer
and the counts of a wake: the line is left as at the arrival, with the RESUME of an aborted drain (R97, R98, R134). -/
theorem State.roused_of_formTerms {after : Micros} {kind : Kind} {work : State} (was : work.plu.rouse = false)
    (turned : work.formTerms.plu.rouse = true) (line : work.lif = (s.arrived after kind).lif)
    (sequencer : work.rsq = (s.arrived after kind).rsq) (failures : work.count .drainFailures = s.count .drainFailures)
    (wakes : work.count (.wakes .rouse) = s.count (.wakes .rouse)) :
    Roused s (s.arrived after kind) work.formTerms := by
  have values : work.formValues.lif = (s.arrived after kind).lif := by simpa using line
  have phase : work.formValues.rsq.phase = s.rsq.phase := by simp [sequencer]
  have cover : work.formValues.rsq.cover = s.rsq.cover := by simp [sequencer]
  have tag : work.formValues.rsq.tag = s.rsq.tag := by simp [sequencer]
  have wake : RouseWake s (work.formValues.wake .rouse) :=
    State.rouseWake.congr phase cover (by simp [sequencer]) (by simp [sequencer]) (by simpa using failures)
      (by simpa using wakes)
  rw [State.formTerms_of_turned was turned]
  refine { wake with aborted := fun draining c recorded => ?aborted, kept := fun resting => ?kept }
  case aborted =>
    rw [State.wake_lif_of_draining (by decide) (phase.trans draining) (cover.trans recorded), tag]
    exact State.offer_lif_congr values (by simpa using phase) _
  case kept => rw [State.wake_lif_of_resting .rouse (by rwa [phase]), values]

/-! ## The FLAGS notice -/

theorem exec_flags (after : Micros) (sender : BitVec 6) (actions : FlagActions) (mask : BitVec 8) (s : State) :
    exec (.flags after sender actions mask) s = execFlags after sender actions mask s := rfl

/-- A FLAGS notice taken, its flags written and its terms not yet formed (R129). -/
def State.noteFlags (actions : FlagActions) (s : State) : State :=
  (s.bump .flagsTaken).onPlu fun p => { p with flags := flagsAfter actions p.flags }

theorem State.takeFlags_eq (actions : FlagActions) : s.takeFlags actions = (s.noteFlags actions).formTerms := rfl

/-- Of the Policy Unit a forming writes the two term values alone (R132). -/
theorem State.formTerms_plu :
    s.formTerms.plu = { s.plu with hold := s.formTerms.plu.hold, rouse := s.formTerms.plu.rouse } := by
  obtain ⟨-, -, -, isOpen, timer, profile, flags, -⟩ := s.formTerms_fields
  simp only [← isOpen, ← timer, ← profile, ← flags]

@[simp] theorem State.count_noteFlags (actions : FlagActions) (c : Counter) :
    (s.noteFlags actions).count c = (s.bump .flagsTaken).count c := rfl

/-- Flags written as they were leave the terms formed: only the count has changed. -/
theorem TermsFormed.noteFlags (h : TermsFormed s) {actions : FlagActions}
    (same : flagsAfter actions s.plu.flags = s.plu.flags) : TermsFormed (s.noteFlags actions) := by
  have policy : (s.noteFlags actions).plu = s.plu := by simp [State.noteFlags, same]
  exact h.congr Iff.rfl (State.condition_congr rfl rfl rfl rfl rfl rfl rfl (by rw [policy])) rfl rfl rfl

/-- An arrival leaves the terms formed. -/
theorem TermsFormed.arrived (h : TermsFormed s) (after : Micros) (kind : Kind) : TermsFormed (s.arrived after kind) :=
  h.congr Iff.rfl (fun _ => rfl) rfl rfl rfl

/-- Settles O43: the flags are written, then the terms formed once. Where the terms were formed and no flag changes the forming
changes nothing; a rouse term left false means the values alone; one turned true is the wake with cause ROUSE. -/
theorem flagsTaken : Obligations.FlagsTaken := by
  intro after sender actions mask s hears other maintenance new
  have arrival : exec (.flags after sender actions mask) s =
      .next (State.masked mask (State.takeFlags actions) (s.arrived after .flags)) := by
    rw [exec_flags, execFlags, State.event_arrive hears other fun _ => maintenance]
  refine ⟨fun out => arrival.trans (congrArg _ (State.masked_out out)), fun taken => ?taken⟩
  let noted := (s.arrived after .flags).noteFlags actions
  have up : noted.rsq.phase ≠ .loading := hears.phase
  have written : noted.formTerms.plu.flags = flagsAfter actions s.plu.flags := by simp [noted, State.noteFlags]
  obtain ⟨-, -, -, pvt, lde, cvu, clp, cfl, -⟩ := noted.formTerms_frame
  refine ⟨_, arrival.trans (congrArg _ (State.masked_in taken)), written, fun n flag => State.condition_flag _ flag,
    ?policy, ?counted, pvt, lde, cvu, clp, cfl, termsFormed_formTerms up, fun formed same => ?unchanged,
    fun quiet settled => ?clock, fun was turned => State.roused_of_formTerms was turned rfl rfl ?failures ?wakes⟩
  case policy =>
    rw [State.takeFlags_eq, noted.formTerms_plu]
    rfl
  case counted =>
    rw [State.takeFlags_eq, State.count_formTerms rfl]
    simp [saturatingSucc, Config.counterLimit]
  case unchanged =>
    have kept : flagsAfter actions s.plu.flags = s.plu.flags := written.symm.trans same
    rw [State.takeFlags_eq, ((formed.arrived after .flags).noteFlags kept).formTerms]
    simp [State.noteFlags, kept]
  case clock =>
    have mode : (s.elapse after).rsq.restClock.mode = s.rsq.restClock.mode := RestClock.over_mode _ _
    rw [State.takeFlags_eq, State.formTerms_of_quiet (s := noted) settled quiet, State.formValues_rsq, ← mode]
    refine congrArg (fun clock => { (s.elapse after).rsq with restClock := clock }) ?_
    change (if noted.formValues.plu.hold = s.plu.hold then (s.elapse after).rsq.restClock
      else (s.elapse after).rsq.restClock.holdReport noted.formValues.plu.hold) = _
    by_cases same : noted.formValues.plu.hold = s.plu.hold
    · rw [if_pos same, if_pos same]
    · rw [if_neg same, if_neg same, RestClock.holdReport_eq]
      cases (s.elapse after).rsq.restClock.mode <;> rfl
  case failures => simp [State.count_bump]
  case wakes => simp [State.count_bump]

end Sys2Proof.Machine
end

section
/-! PROOFS. The full outbound queue: which entry gives its place up, and which stay (R141, R143; O52). -/

namespace Sys2Proof.Machine

variable {s : State} {n : Notice} {q before behind : List Entry} {e : Entry} {test : Entry → Bool}

/-! ## The last entry that passes a test -/

theorem findLast_append_cons (passes : test e = true) (last : ∀ f ∈ behind, test f = false) :
    (before ++ e :: behind).reverse.find? test = some e := by
  have none : behind.reverse.find? test = none := by simpa using last
  simp [List.find?_append, none, passes]

theorem dropLastWhere_append_cons (passes : test e = true) (last : ∀ f ∈ behind, test f = false) :
    dropLastWhere test (before ++ e :: behind) = before ++ behind := by
  have skipped : ∀ f ∈ behind.reverse, ¬ test f = true := by simpa using last
  simp [dropLastWhere, List.eraseP_append_right _ skipped, passes]

theorem mem_dropLastWhere_of_fails (fails : test e = false) : e ∈ dropLastWhere test q ↔ e ∈ q := by
  rw [dropLastWhere, List.mem_reverse, List.mem_eraseP_of_neg (by simp [fails]), List.mem_reverse]

/-! ## The entry displaced -/

theorem displaceable_iff : displaceable n e = true ↔ n.priority < e.priority ∧ e.attempt = none := by
  simp [displaceable, Entry.driven]

theorem displaced_eq_none (stay : ∀ e ∈ q, ¬(n.priority < e.priority ∧ e.attempt = none)) : displaced n q = none :=
  List.find?_eq_none.mpr fun e he passes => stay e (List.mem_reverse.mp he) (displaceable_iff.mp passes)

/-- In a queue in sending order no displaceable entry stands behind the newest of the largest priority number. -/
theorem not_displaceable_behind (h : QueueKept (before ++ e :: behind))
    (newest : ∀ f ∈ behind, n.priority < f.priority ∧ f.attempt = none → f.priority < e.priority) :
    ∀ f ∈ behind, displaceable n f = false := by
  intro f hf
  obtain ⟨-, fromHere, -⟩ := List.pairwise_append.mp h.sendingOrder
  have order : e.priority ≤ f.priority := List.rel_of_pairwise_cons fromHere hf
  exact Bool.eq_false_iff.mpr fun passes => absurd (newest f hf (displaceable_iff.mp passes)) (by omega)

/-- A beacon outranks nothing: 3 is the largest priority number (R136, R143). -/
theorem Entry.priority_le_beacon (e : Entry) : e.priority ≤ Notice.beacon.priority := by
  rw [Entry.priority, Notice.priority]
  cases e.notice.kind <;> decide

/-! ## The offer to a full queue -/

theorem Notice.eq_beacon_of_kind (h : n.kind = .beacon) : n = .beacon := by
  cases n
  case beacon => rfl
  all_goals cases h

/-- A notice that finds neither its beacon slot taken nor a STATUS to replace joins, or is taken by the full-queue rule
(R142). -/
theorem State.offer_eq_enqueue (mute : s.rsq.phase ≠ .mute) (loading : s.rsq.phase ≠ .loading)
    (slotFree : ¬(n = .beacon ∧ ∃ e ∈ s.lif.queue, e.notice = .beacon))
    (noOlder : ¬(n.kind = .status ∧ ∃ e ∈ s.lif.queue, e.notice.kind = .status ∧ e.attempt = none)) :
    s.offer n = s.enqueue n := by
  rw [State.offer, if_neg (by simp [mute, loading])]
  split
  next is =>
    refine if_neg fun queued => slotFree ?_
    obtain ⟨e, he, beacon⟩ := List.any_eq_true.mp queued
    exact ⟨Notice.eq_beacon_of_kind is, e, he, Notice.eq_beacon_of_kind (by simpa using beacon)⟩
  next is =>
    refine if_neg fun queued => noOlder ?_
    obtain ⟨e, he, older⟩ := List.any_eq_true.mp queued
    exact ⟨is, e, he, by simpa [replaceable, Entry.driven] using older⟩
  next => rfl

theorem State.enqueue_of_none_displaced (full : s.lif.queue.length = 8) (nobody : displaced n s.lif.queue = none) :
    s.enqueue n = s.bump (.queueDiscards n.kind) := by
  rw [State.enqueue, if_neg (by simp [full, Config.queueLimit]), nobody]

theorem State.enqueue_of_displaced (full : s.lif.queue.length = 8) (found : displaced n s.lif.queue = some e) :
    s.enqueue n =
      (s.onLif fun l => { l with queue := joinQueue (.fresh n) (dropLastWhere (displaceable n) l.queue) }).bump
        (.queueDiscards e.notice.kind) := by
  rw [State.enqueue, if_neg (by simp [full, Config.queueLimit]), found]

/-- Room or none, an entry that the notice may not displace stays. -/
theorem State.mem_enqueue_of_kept (kept : displaceable n e = false) (he : e ∈ s.lif.queue) :
    e ∈ (s.enqueue n).lif.queue := by
  unfold State.enqueue
  split
  next room => simp [he]
  next full =>
    split
    next gone _ => simp [mem_dropLastWhere_of_fails kept, he]
    next => exact he

/-- Settles O52: in sending order the newest of the largest priority number among the entries outranked and not driven is the
last of them, so that is the one the model's search from the back finds and takes out. -/
theorem fullQueueDisplaces : Obligations.FullQueueDisplaces := by
  intro n s mute loading full kept slotFree noOlder outranked
  have joins : s.offer n = s.enqueue n := State.offer_eq_enqueue mute loading slotFree noOlder
  have dropped (none : ∀ e ∈ s.lif.queue, ¬outranked e) : s.offer n = s.bump (.queueDiscards n.kind) :=
    joins.trans (State.enqueue_of_none_displaced full (displaced_eq_none none))
  refine ⟨dropped, fun before behind e queued passes _ newest => ?displaces, fun e he driven => ?driven, fun is => ?beacon⟩
  case displaces =>
    have passes : displaceable n e = true := displaceable_iff.mpr passes
    have last : ∀ f ∈ behind, displaceable n f = false := not_displaceable_behind (queued ▸ kept) newest
    have found : displaced n s.lif.queue = some e := by rw [queued]; exact findLast_append_cons passes last
    have left : dropLastWhere (displaceable n) s.lif.queue = before ++ behind := by
      rw [queued, dropLastWhere_append_cons passes last]
    rw [joins, State.enqueue_of_displaced full found, ← left]
    rfl
  case driven =>
    rw [joins]
    refine State.mem_enqueue_of_kept (Bool.eq_false_iff.mpr fun passes => ?_) he
    exact driven (displaceable_iff.mp passes).2
  case beacon =>
    subst is
    exact dropped fun e _ out => absurd out.1 (by have := e.priority_le_beacon; omega)

end Sys2Proof.Machine
end

section
/-! PROOFS. A clear-counters request: what the clear writes, that the STATUS then offered counts only what the queue
does with it, and that the rest of the device is as without the marker (R142, R149, R170, R172; O46). -/

namespace Sys2Proof.Machine

variable {s : State}

/-! ## The clear -/

/-- Beyond the 16-bit counters the clear sets the seconds counters to 0, and leaves the cursors. -/
theorem State.clearCounters_beyondCounts :
    s.clearCounters.acc.beyondCounts =
      { s.acc.beyondCounts with
        standby := .zero, deep := .zero, draining := .zero, returning := .zero, windowOpen := .zero } := rfl

theorem State.count_clearCounters (c : Counter) :
    s.clearCounters.count c = if c = .granted then s.cvu.book.length else 0 := by
  by_cases granted : c = .granted
  · subst granted
    exact Accounting.count_setCount_same _ _ _
  · rw [if_neg granted]
    refine (Accounting.count_setCount_other _ _ granted).trans ?_
    simp [Accounting.count]

/-- Where no removal is counted under any cause, there are none in all. -/
theorem State.removals_eq_zero (none : ∀ cause, s.count (.removed cause) = 0) : s.removals = 0 := by
  simp [State.removals, none]

/-! ## The offer, and Accounting -/

/-- A notice that finds room and no STATUS queued, or a MUTE station, is offered without a count (R142, R149). -/
theorem State.offer_acc_of_room {n : Notice}
    (free : s.rsq.phase = .mute ∨ s.lif.queue.length < 8 ∧ ∀ e ∈ s.lif.queue, e.notice.kind ≠ .status) :
    (s.offer n).acc = s.acc := by
  obtain mute | ⟨room, noStatus⟩ := free
  · rw [State.offer_silent n (.inl mute)]
  have joins : (s.enqueue n).acc = s.acc := by
    rw [State.enqueue, if_pos (by simpa [Config.queueLimit] using room), State.onLif_acc]
  have noneReplaced : ¬ s.lif.queue.any replaceable = true := by
    rw [List.any_eq_true]
    rintro ⟨e, queued, replaced⟩
    exact noStatus e queued (by simpa using (Bool.and_eq_true_iff.mp replaced).1)
  rw [State.offer, if_neg noneReplaced]
  repeat' split
  all_goals simp [joins]

/-- Accounting decides nothing of what an offer does to the other blocks. -/
theorem State.offer_onAcc (f : Accounting → Accounting) (n : Notice) :
    (s.onAcc f).offer n = { s.offer n with acc := ((s.onAcc f).offer n).acc } := by
  have line : ((s.onAcc f).offer n).lif = (s.offer n).lif :=
    State.offer_lif_congr (State.onAcc_lif s f) (congrArg (·.phase) (State.onAcc_rsq s f)) n
  rw [State.mk.injEq]
  simp [line]

/-- With a clear before the offer or without, what lies beyond the 16-bit counters differs in the seconds counters alone. -/
theorem State.clearCounters_offer_beyondCounts (n : Notice) :
    (s.clearCounters.offer n).acc.beyondCounts =
      { (s.offer n).acc.beyondCounts with
        standby := .zero, deep := .zero, draining := .zero, returning := .zero, windowOpen := .zero } := by
  simp [State.clearCounters_beyondCounts]

/-! ## The request -/

/-- The STATUS contents composed for a recognized page: the section at the page's cursor (R170). -/
def State.composeStatus (s : State) (page : BitVec 3) : StatusReport :=
  { page := page
    contents := some (s.acc.cursor page.toNat, s.sectionOf page.toNat (s.acc.cursor page.toNat)) }

theorem State.answerStatus_recognized {page : BitVec 3} (recognized : page.toNat ≤ 3) (asker : Nat) (clear : Bool) :
    s.answerStatus asker page clear =
      (doWhen clear State.clearCounters (s.onAcc fun a => a.advance page.toNat)).offer
        (.status asker (s.composeStatus page)) :=
  if_pos recognized

theorem exec_askStatus (after : Micros) (sender : BitVec 6) (page : BitVec 3) (clear : Bool) (s : State) :
    exec (.askStatus after sender page clear) s = execAskStatus after sender page clear s := rfl

/-- Settles O46: with the marker the STATUS is offered from the cleared state, without it from the same state not cleared. The
offer adds to the counters of the clear only where it replaces or discards, and the two offers differ in Accounting alone. -/
theorem clearCountersTaken : Obligations.ClearCountersTaken := by
  intro after sender page s hears other maintenance recognized
  let asked := (s.arrived after .askStatus).onAcc fun a => a.advance page.toNat
  let n : Notice := .status sender.toNat ((s.arrived after .askStatus).composeStatus page)
  have answer (clear : Bool) : exec (.askStatus after sender page clear) s =
      .next ((doWhen clear State.clearCounters asked).offer n) := by
    rw [exec_askStatus, execAskStatus, State.event_arrive hears other fun _ => maintenance,
      State.answerStatus_recognized recognized]
  have cleared (c : Counter) : asked.clearCounters.count c = if c = .granted then s.cvu.book.length else 0 :=
    State.count_clearCounters c
  have counts (c : Counter) (status : c ≠ .statusReplaced) (discards : ∀ k, c ≠ .queueDiscards k) :
      (asked.clearCounters.offer n).count c = if c = .granted then s.cvu.book.length else 0 :=
    (State.count_offer_of_ne discards status n).trans (cleared c)
  have beyond := asked.clearCounters_offer_beyondCounts n
  refine ⟨asked.clearCounters.offer n, asked.offer n, answer true, answer false, counts, fun free c => ?free,
    congrArg (·.standby) beyond, congrArg (·.deep) beyond, congrArg (·.draining) beyond,
    congrArg (·.returning) beyond, congrArg (·.windowOpen) beyond,
    State.offer_onAcc _ n,
    (congrArg (·.cursor0) beyond :), (congrArg (·.cursor1) beyond :), (congrArg (·.cursor2) beyond :),
    (congrArg (·.cursor3) beyond :), ?granted⟩
  case free =>
    have uncounted : (asked.clearCounters.offer n).acc = asked.clearCounters.acc := State.offer_acc_of_room free
    rw [State.count_eq_of_acc uncounted, cleared]
  case granted =>
    have removals : (asked.clearCounters.offer n).removals = 0 :=
      State.removals_eq_zero fun cause => counts _ (by simp) (by simp)
    have book : (asked.clearCounters.offer n).cvu = asked.clearCounters.cvu := by simp
    rw [counts _ (by simp) (by simp), if_pos rfl, removals, book, Nat.zero_add]
    rfl

end Sys2Proof.Machine
end

section
/-! PROOFS. The check: its register step by step, the bytes it is joined to, and what is read back (R177; O55). -/

namespace Sys2Proof.Machine

/-! ## The register -/

/-- A register's top bit, the one a shift moves out, is its bit 15. -/
theorem crcShift_eq : crcShift = fun r => if r.getLsbD 15 then (r <<< 1) ^^^ 0x1021 else r <<< 1 := rfl

/-- A byte with eight zero bits below it is the byte in the upper eight bits of a register. -/
theorem byte_append_zero (b : Byte) : b ++ (0 : BitVec 8) = b.zeroExtend 16 <<< 8 := by
  refine BitVec.eq_of_getLsbD_eq fun i below => ?_
  rw [BitVec.getLsbD_append]
  by_cases low : i < 8
  · simp [low]
  · simp [low, below]

theorem crcByte_eq_repeat (r : BitVec 16) (b : Byte) :
    crcByte r b = Nat.repeat crcShift 8 (r ^^^ (b.zeroExtend 16 <<< 8)) := by
  rw [← byte_append_zero]
  rfl

/-- One more covered byte is one more step of the register. -/
theorem crc_concat (bytes : List Byte) (b : Byte) : crc (bytes ++ [b]) = crcByte (crc bytes) b :=
  List.foldl_concat ..

/-! ## Bytes and their check -/

@[simp] theorem length_twoBytes (n : BitVec 16) : (twoBytes n).length = 2 := rfl

@[simp] theorem length_withCheck (bytes : List Byte) : (withCheck bytes).length = bytes.length + 2 :=
  List.length_append

/-- What precedes a check's two bytes is the bytes it covers. -/
theorem take_withCheck {bytes : List Byte} {n : Nat} (covered : bytes.length = n) : (withCheck bytes).take n = bytes :=
  List.take_left' covered

/-- A match is found exactly for the bytes that end in the check of what precedes it. -/
theorem checkedBody_eq_some_iff {received body : List Byte} :
    checkedBody received = some body ↔ received = withCheck body := by
  constructor
  case mp =>
    intro found
    obtain ⟨⟨-, ends⟩, ⟨⟩⟩ := Option.ite_none_right_eq_some.mp found
    rw [withCheck, ← ends, List.take_append_drop]
  case mpr =>
    rintro rfl
    simp [checkedBody, withCheck]

/-! ## Its carriers -/

/-- A REPLY has two bytes before its check (13.4). -/
theorem exists_replyBytes_eq_withCheck (r : Reply) : ∃ kind fields : Byte, replyBytes r = withCheck [kind, fields] :=
  ⟨_, _, rfl⟩

/-- A record whose last two bytes are not the check of its other 69 is replaced by the fallback (R162). -/
theorem loadRecord_of_wrong_check {record : List Byte} (full : record.length = 71)
    (wrong : record ≠ withCheck (record.take 69)) : loadRecord record = fallback 0 := by
  have unmatched : checkedBody record = none := by
    refine Option.eq_none_iff_forall_not_mem.mpr fun body found => wrong ?_
    obtain rfl := checkedBody_eq_some_iff.mp found
    rw [take_withCheck (by simpa using full)]
  rw [loadRecord, unmatched]
  exact ite_self _

/-- Settles O55: the register's steps are those of the rule, and a match is found exactly for bytes joined to their check. -/
theorem checkFormed : Obligations.CheckFormed := by
  refine ⟨rfl, crc_concat, ?steps, ?published, fun _ => rfl, fun _ => checkedBody_eq_some_iff.mpr rfl,
    fun _ _ => checkedBody_eq_some_iff.mp, fun _ => ⟨rfl, rfl⟩, exists_replyBytes_eq_withCheck,
    fun _ => loadRecord_of_wrong_check⟩
  case steps =>
    intro r b
    rw [crcByte_eq_repeat, crcShift_eq]
  case published => decide +kernel

end Sys2Proof.Machine
end

section
/-! PROOFS. The promises of Inv in parts, each read from few fields of the state, and what keeps a part. -/

namespace Sys2Proof.Machine

/-! ## The parts -/

/-- The promises on the book: its shape, its pledges and their accounts (R24, R55, R56, R72, R75). -/
structure BookPromise (s : State) : Prop where
  book : BookKept s.cvu.book
  pledges : ∀ p ∈ s.cvu.book, PledgeInRange p
  accounted : PledgesAccounted s

/-- The promises on the phase and what goes with it (R55, R78, R80, R104, R105, R123, R161). -/
structure PhasePromise (s : State) : Prop where
  bookOnlyAwake : BookOnlyAwake s
  coverRecorded : CoverRecorded s
  closedMeansUp : ClosedMeansUp s
  loading : LoadingKept s

/-- The promises on the carrier link (R155, R157). -/
structure LinkPromise (c : CarrierLink) : Prop where
  backlog : c.backlog.length ≤ 2
  carrierFault : c.carrierFault = (c.lastCondition == some .fault)

/-- The promises on the configuration in force (R159, R162). -/
structure LoaderPromise (c : Loader) : Prop where
  image : ImageKept c.image
  clamps : c.clampCount ≤ 43

variable {s t : State}

theorem State.inv_iff :
    s.Inv ↔ BookPromise s ∧ PhasePromise s ∧ RestClockKept s.rsq.restClock ∧ ViewKept s.own s.pvt ∧
      QueueKept s.lif.queue ∧ LinkPromise s.clp ∧ EstimateKept s ∧ LoaderPromise s.cfl :=
  ⟨fun h => ⟨⟨h.book, h.pledges, h.accounted⟩, ⟨h.bookOnlyAwake, h.coverRecorded, h.closedMeansUp, h.loading⟩,
      h.restClock, h.view, h.queue, ⟨h.backlog, h.carrierFault⟩, h.estimate, ⟨h.image, h.clamps⟩⟩,
    fun ⟨book, phase, clock, view, queue, link, estimate, loader⟩ =>
      { book := book.book, pledges := book.pledges, accounted := book.accounted
        bookOnlyAwake := phase.bookOnlyAwake, coverRecorded := phase.coverRecorded
        closedMeansUp := phase.closedMeansUp, loading := phase.loading, restClock := clock, view := view
        queue := queue, backlog := link.backlog, carrierFault := link.carrierFault, estimate := estimate
        image := loader.image, clamps := loader.clamps }⟩

theorem State.Inv.bookPromise (h : s.Inv) : BookPromise s := (State.inv_iff.mp h).1

theorem State.Inv.phasePromise (h : s.Inv) : PhasePromise s := (State.inv_iff.mp h).2.1

/-! ## What keeps a part -/

/-- The counters that account for the pledges (R75). -/
def countsPledges : Counter → Bool
  | .granted | .removed _ => true
  | _ => false

/-- The counters of the pledges are the same in both states. -/
def PledgeCountsSame (s t : State) : Prop := ∀ c, countsPledges c = true → t.count c = s.count c

/-- No operation on the way of a used SAMPLE counts pledges. -/
theorem not_raised_of_countsPledges {c : Counter} (h : countsPledges c = true) : raisedByUsedSample c = false := by
  cases c <;> simp [countsPledges] at h <;> rfl

theorem PledgeCountsSame.of_raised (same : ∀ {c}, raisedByUsedSample c = false → t.count c = s.count c) :
    PledgeCountsSame s t := fun _ h => same (not_raised_of_countsPledges h)

theorem PledgeCountsSame.trans {u : State} (first : PledgeCountsSame s t) (second : PledgeCountsSame t u) :
    PledgeCountsSame s u := fun c h => (second c h).trans (first c h)

theorem PledgeCountsSame.of_acc (same : t.acc = s.acc) : PledgeCountsSame s t :=
  fun c _ => State.count_eq_of_acc same c

theorem PledgeCountsSame.bump {d : Counter} (other : countsPledges d = false) : PledgeCountsSame s (s.bump d) := by
  intro c h
  rw [State.count_bump, if_neg (by rintro rfl; simp [h] at other)]

theorem PledgeCountsSame.removals (h : PledgeCountsSame s t) : t.removals = s.removals := by
  unfold State.removals
  exact congrArg List.sum (List.map_congr_left fun c _ => h (.removed c) rfl)

/-- The accounts of the book read its length and the counters of the pledges alone. -/
theorem PledgesAccounted.congr (h : PledgesAccounted s) (length : t.cvu.book.length = s.cvu.book.length)
    (counts : PledgeCountsSame s t) : PledgesAccounted t := by
  intro isOpen
  rw [counts.removals, length, counts .granted rfl]
  refine h ⟨?_, fun c hc => ?_⟩
  · rw [← counts .granted rfl]
    exact isOpen.1
  · rw [← counts (.removed c) rfl]
    exact isOpen.2 c hc

theorem BookPromise.congr (h : BookPromise s) (book : t.cvu.book = s.cvu.book) (counts : PledgeCountsSame s t) :
    BookPromise t where
  book := book ▸ h.book
  pledges := book ▸ h.pledges
  accounted := h.accounted.congr (by rw [book]) counts

/-- The phase and the cover kept, what goes with them has to be said of the window and of the loader alone. -/
theorem PhasePromise.of_phase (h : PhasePromise s) (phase : t.rsq.phase = s.rsq.phase) (cover : t.rsq.cover = s.rsq.cover)
    (book : t.cvu.book ≠ [] → s.cvu.book ≠ []) (own : t.own = s.own) (closed : ClosedMeansUp s → ClosedMeansUp t)
    (loading : LoadingKept s → LoadingKept t) : PhasePromise t where
  bookOnlyAwake := fun some => phase.trans (h.bookOnlyAwake (book some))
  coverRecorded :=
    { held := by simpa only [phase, cover] using h.coverRecorded.held
      cleared := by simpa only [phase, cover] using h.coverRecorded.cleared
      other := by simpa only [cover, own] using h.coverRecorded.other }
  closedMeansUp := closed h.closedMeansUp
  loading := loading h.loading

theorem PhasePromise.congr (h : PhasePromise s) (phase : t.rsq.phase = s.rsq.phase) (cover : t.rsq.cover = s.rsq.cover)
    (book : t.cvu.book ≠ [] → s.cvu.book ≠ []) (isOpen : t.plu.windowOpen = s.plu.windowOpen) (cfl : t.cfl = s.cfl)
    (estimator : t.lde.state = s.lde.state) : PhasePromise t :=
  h.of_phase phase cover book (by rw [State.own, State.own, cfl])
    (fun h => by simpa only [ClosedMeansUp, phase, isOpen] using h)
    (fun h => by simpa only [LoadingKept, phase, cfl, estimator] using h)

theorem ViewKept.congr {own : Nat} {v w : PeerView} (h : ViewKept own v) (slots : w.slots = v.slots)
    (pointer : w.pointer = v.pointer) {own' : Nat} (number : own' = own) : ViewKept own' w :=
  number ▸ h.of_slots slots pointer

theorem EstimateKept.congr (h : EstimateKept s) (state : t.lde.state = s.lde.state) (demand : t.lde.demand = s.lde.demand)
    (level : t.lde.level = s.lde.level) (cfl : t.cfl = s.cfl) : EstimateKept t := by
  simpa only [EstimateKept, State.image, state, demand, level, cfl] using h

/-- An operation keeps Inv when of each part it leaves what the part reads, or keeps the part. -/
theorem State.Inv.step (h : s.Inv)
    (book : t.cvu.book = s.cvu.book ∧ t.acc = s.acc ∨ (BookPromise s → BookPromise t))
    (phase :
      t.rsq.phase = s.rsq.phase ∧ t.rsq.cover = s.rsq.cover ∧ t.cvu.book = s.cvu.book ∧
          t.plu.windowOpen = s.plu.windowOpen ∧ t.cfl = s.cfl ∧ t.lde.state = s.lde.state ∨
        (PhasePromise s → PhasePromise t))
    (clock :
      t.rsq.restClock.measured = s.rsq.restClock.measured ∨
        (RestClockKept s.rsq.restClock → RestClockKept t.rsq.restClock))
    (view :
      t.pvt.slots = s.pvt.slots ∧ t.pvt.pointer = s.pvt.pointer ∧ t.cfl = s.cfl ∨
        (ViewKept s.own s.pvt → ViewKept t.own t.pvt))
    (queue : t.lif.queue = s.lif.queue ∨ (QueueKept s.lif.queue → QueueKept t.lif.queue))
    (link : t.clp = s.clp ∨ (LinkPromise s.clp → LinkPromise t.clp))
    (estimate :
      t.lde.state = s.lde.state ∧ t.lde.demand = s.lde.demand ∧ t.lde.level = s.lde.level ∧ t.cfl = s.cfl ∨
        (EstimateKept s → EstimateKept t))
    (loader : t.cfl = s.cfl ∨ (LoaderPromise s.cfl → LoaderPromise t.cfl)) : t.Inv := by
  rw [State.inv_iff] at h ⊢
  obtain ⟨hBook, hPhase, hClock, hView, hQueue, hLink, hEstimate, hLoader⟩ := h
  refine ⟨?_, ?_, ?_, ?_, ?_, ?_, ?_, ?_⟩
  · exact book.elim (fun ⟨book, acc⟩ => hBook.congr book (.of_acc acc)) fun kept => kept hBook
  · refine phase.elim (fun ⟨phase, cover, book, isOpen, cfl, state⟩ => ?_) fun kept => kept hPhase
    exact hPhase.congr phase cover (fun some => book ▸ some) isOpen cfl state
  · exact clock.elim (fun same => le_of_eq_of_le same hClock) fun kept => kept hClock
  · refine view.elim (fun ⟨slots, pointer, cfl⟩ => ?_) fun kept => kept hView
    exact hView.congr slots pointer (by rw [State.own, State.own, cfl])
  · exact queue.elim (fun same => same ▸ hQueue) fun kept => kept hQueue
  · exact link.elim (fun same => same ▸ hLink) fun kept => kept hLink
  · exact estimate.elim (fun ⟨state, demand, level, cfl⟩ => hEstimate.congr state demand level cfl) fun kept => kept hEstimate
  · exact loader.elim (fun same => same ▸ hLoader) fun kept => kept hLoader

/-- An operation that leaves everything Inv reads keeps it. -/
theorem State.Inv.same (h : s.Inv)
    (same :
      t.cvu.book = s.cvu.book ∧ t.acc = s.acc ∧ t.rsq.phase = s.rsq.phase ∧ t.rsq.cover = s.rsq.cover ∧
        t.rsq.restClock.measured = s.rsq.restClock.measured ∧ t.plu.windowOpen = s.plu.windowOpen ∧
        t.pvt.slots = s.pvt.slots ∧ t.pvt.pointer = s.pvt.pointer ∧ t.lif.queue = s.lif.queue ∧ t.clp = s.clp ∧
        t.lde.state = s.lde.state ∧ t.lde.demand = s.lde.demand ∧ t.lde.level = s.lde.level ∧ t.cfl = s.cfl) : t.Inv := by
  obtain ⟨book, acc, phase, cover, clock, isOpen, slots, pointer, queue, link, state, demand, level, cfl⟩ := same
  exact h.step (.inl ⟨book, acc⟩) (.inl ⟨phase, cover, book, isOpen, cfl, state⟩) (.inl clock)
    (.inl ⟨slots, pointer, cfl⟩) (.inl queue) (.inl link) (.inl ⟨state, demand, level, cfl⟩) (.inl cfl)

theorem doWhen_keeps {P : State → Prop} {work : State → State} (b : Bool) (h : P s) (kept : P (work s)) :
    P (doWhen b work s) := by
  cases b
  · exact h
  · exact kept

/-! ## Time, counts and notices -/

theorem State.Inv.elapse (h : s.Inv) (after : Micros) : (s.elapse after).Inv := by
  apply h.step
  case book => exact .inr fun h => h.congr rfl (.of_raised fun _ => rfl)
  case clock => exact .inr fun h => h.over after
  all_goals simp

theorem State.Inv.bump (h : s.Inv) {c : Counter} (other : countsPledges c = false) : (s.bump c).Inv := by
  apply h.step
  case book => exact .inr fun h => h.congr rfl (.bump other)
  all_goals simp

theorem State.Inv.offer (h : s.Inv) (n : Notice) : (s.offer n).Inv := by
  apply h.step
  case book => exact .inr fun h => h.congr (by simp) (.of_raised fun c => State.count_offer c s n)
  case queue => exact .inr fun h => h.offer n
  all_goals simp

end Sys2Proof.Machine
end

section
/-! PROOFS. Inv under the operations of the sequencer, of the conditions and of the view. -/

namespace Sys2Proof.Machine

variable {s t : State}

/-! ## Wakes and conditions -/

theorem PhasePromise.wake (h : PhasePromise s) (cause : WakeCause) : PhasePromise (s.wake cause) where
  bookOnlyAwake := h.bookOnlyAwake.wake cause
  coverRecorded := h.coverRecorded.wake cause
  closedMeansUp := h.closedMeansUp.wake cause
  loading := by simpa [LoadingKept, (s.wake_phase_iff cause).2.1] using h.loading

theorem State.Inv.wake (h : s.Inv) (cause : WakeCause) : (s.wake cause).Inv := by
  apply h.step
  case book => exact .inr fun h => h.congr (by simp) (.of_raised fun c => State.count_wake c s cause)
  case phase => exact .inr fun h => h.wake cause
  case queue => exact .inr fun h => h.wake cause
  all_goals simp

theorem State.Inv.formValues (h : s.Inv) : s.formValues.Inv := h.same (by simp)

theorem State.Inv.formTerms (h : s.Inv) : s.formTerms.Inv := by
  rcases s.formTerms_cases with same | woken
  · exact same ▸ h.formValues
  · exact woken ▸ h.formValues.wake .rouse

theorem State.Inv.rouseAtEntry (h : s.Inv) : s.rouseAtEntry.Inv := doWhen_keeps _ h (h.wake .rouse)

theorem State.Inv.setCondition (h : s.Inv) (old new : Bool) {write : State → State} (kept : (write s).Inv) :
    (s.setCondition old new write).Inv := by
  unfold State.setCondition
  split
  · exact h
  · exact kept.formTerms

theorem State.Inv.setLinkLost (h : s.Inv) (b : Bool) : (s.setLinkLost b).Inv := h.setCondition _ _ (h.same (by simp))

theorem State.Inv.setNoCover (h : s.Inv) (b : Bool) : (s.setNoCover b).Inv := h.setCondition _ _ (h.same (by simp))

theorem State.Inv.setUnsettled (h : s.Inv) (b : Bool) : (s.setUnsettled b).Inv := by
  have written : (s.onRsq fun q => { q with unsettled := b }).Inv := h.same (by simp)
  exact h.setCondition _ _ (doWhen_keeps _ written (written.bump rfl))

theorem State.Inv.endRecentRecall (h : s.Inv) : s.endRecentRecall.Inv := h.setCondition _ _ (h.same (by simp))

theorem State.Inv.formIsolated (h : s.Inv) : s.formIsolated.Inv := by
  unfold State.formIsolated
  exact h.setCondition _ _ (h.same (by simp))

theorem State.Inv.formSettled (h : s.Inv) : s.formSettled.Inv := by
  unfold State.formSettled
  split
  · exact State.Inv.setUnsettled (h.same (by simp)) _
  · exact h

/-! ## The phases -/

/-- A move to AWAKE without a cover, of a station that is past LOADING, keeps what goes with the phase. -/
theorem PhasePromise.to_awake (h : PhasePromise s) (up : s.rsq.phase ≠ .loading) (phase : t.rsq.phase = .awake)
    (cover : t.rsq.cover = none) (cfl : t.cfl = s.cfl) : PhasePromise t where
  bookOnlyAwake := fun _ => phase
  coverRecorded := ⟨by simp [phase], fun _ => cover, by simp [cover]⟩
  closedMeansUp := by simp [ClosedMeansUp, phase]
  loading := by simpa [LoadingKept, phase, cfl, up] using h.loading.1

/-- A move between phases past LOADING that have a cover recorded, of a station without pledges, keeps what goes with the
phase; only a phase that needs no window may come while it is CLOSED. -/
theorem PhasePromise.to_covered (h : PhasePromise s) (up : s.rsq.phase ≠ .loading) (book : t.cvu.book = [])
    (phase : t.rsq.phase = .seeking ∨ t.rsq.phase = .draining ∨ t.rsq.phase = .standby ∨ t.rsq.phase = .deep)
    {cover : Nat} (recorded : t.rsq.cover = some cover) (other : cover ≠ t.own ∧ cover ≤ 59)
    (isOpen : t.plu.windowOpen = true) (cfl : t.cfl = s.cfl) : PhasePromise t where
  bookOnlyAwake := fun some => absurd book some
  coverRecorded :=
    { held := by simp [recorded]
      cleared := by rcases phase with is | is | is | is <;> simp [is]
      other := by rintro c hc; rw [recorded, Option.some.injEq] at hc; exact hc ▸ other }
  closedMeansUp := by simp [ClosedMeansUp, isOpen]
  loading := by
    have out : t.rsq.phase ≠ .loading := by rcases phase with is | is | is | is <;> simp [is]
    simpa [LoadingKept, out, cfl, up] using h.loading.1

/-- Between two phases that ask for a recorded cover, the cover, the window and the loader kept. -/
theorem PhasePromise.to_deeper (h : PhasePromise s)
    (from_ : s.rsq.phase = .seeking ∨ s.rsq.phase = .draining ∨ s.rsq.phase = .standby ∨ s.rsq.phase = .deep)
    (phase : t.rsq.phase = .seeking ∨ t.rsq.phase = .draining ∨ t.rsq.phase = .standby ∨ t.rsq.phase = .deep)
    (cover : t.rsq.cover = s.rsq.cover) (cvu : t.cvu = s.cvu) (plu : t.plu.windowOpen = s.plu.windowOpen)
    (cfl : t.cfl = s.cfl) : PhasePromise t := by
  obtain ⟨c, recorded⟩ := Option.ne_none_iff_exists'.mp (h.coverRecorded.held from_)
  have up : s.rsq.phase ≠ .loading := by rcases from_ with is | is | is | is <;> simp [is]
  refine h.to_covered up ?_ phase (cover.trans recorded) ?_ ?_ cfl
  · rw [cvu]
    by_contra some
    rcases from_ with is | is | is | is <;> simpa [is] using h.bookOnlyAwake some
  · simpa [State.own, cfl] using h.coverRecorded.other c recorded
  · rw [plu]
    by_contra closed
    rcases from_ with is | is | is | is <;> simpa [is] using h.closedMeansUp (by simpa using closed)

theorem State.Inv.startRestGuard (h : s.Inv) : s.startRestGuard.Inv := h.same (by simp)

theorem QueueKept.resumeToCover (h : QueueKept s.lif.queue) : QueueKept s.resumeToCover.lif.queue := by
  unfold State.resumeToCover
  split
  · exact h.offer _
  · exact h

theorem State.Inv.failDrain (h : s.Inv) (draining : s.rsq.phase = .draining) : s.failDrain.Inv := by
  apply h.step
  case book => exact .inr fun h => h.congr (by simp) (.of_raised fun c => State.count_failDrain c s)
  case phase =>
    exact .inr fun h => h.to_awake (by simp [draining]) (by simp [State.failDrain]) (by simp [State.failDrain]) (by simp)
  case queue =>
    refine .inr fun h => ?_
    simpa [State.failDrain] using QueueKept.resumeToCover (s := s.onRsq fun q => { q with drainTimer := none }) h
  all_goals simp

theorem State.Inv.completeWake (h : s.Inv) (up : s.rsq.phase ≠ .loading) : s.completeWake.Inv := by
  have awake : (s.resumeToCover.onRsq fun q => { q with cover := none, phase := .awake }).Inv := by
    apply h.step
    case book => exact .inr fun h => h.congr (by simp) (.of_raised fun c => by simp [State.count_resumeToCover c s])
    case phase => exact .inr fun h => h.to_awake up (by simp) (by simp) (by simp)
    case queue => exact .inr fun h => h.resumeToCover
    all_goals simp
  unfold State.completeWake
  split
  · exact awake.startRestGuard
  · exact awake

theorem State.Inv.abandonAsk (h : s.Inv) : s.abandonAsk.Inv := by
  unfold State.abandonAsk
  split
  next seeking =>
    refine State.Inv.bump ?_ rfl
    apply h.step
    case phase => exact .inr fun h => h.to_awake (by simp [seeking]) (by simp) (by simp) (by simp)
    all_goals simp
  next => exact h

theorem State.Inv.enterStandby (h : s.Inv) (draining : s.rsq.phase = .draining) : s.enterStandby.Inv := by
  refine State.Inv.rouseAtEntry (State.Inv.formSettled (State.Inv.bump ?_ rfl))
  apply h.step
  case phase =>
    exact .inr fun h => h.to_deeper (by simp [draining]) (by simp) (by simp) (by simp) (by simp) (by simp)
  case clock => exact .inr fun _ => .started _
  case view => exact .inr fun h => h.clearSeen
  all_goals simp

theorem State.Inv.enterDeep (h : s.Inv) (standby : s.rsq.phase = .standby) : s.enterDeep.Inv := by
  have entered : ((s.onRsq fun q => { q with phase := .deep, settled := false, unsettled := false, doze := 0 }).bump
      .deepEntries).Inv := by
    refine State.Inv.bump ?_ rfl
    apply h.step
    case phase =>
      exact .inr fun h => h.to_deeper (by simp [standby]) (by simp) (by simp) (by simp) (by simp) (by simp)
    all_goals simp
  unfold State.enterDeep
  dsimp only
  split
  · exact entered.formValues.rouseAtEntry
  · exact entered.rouseAtEntry

theorem State.Inv.carrierStep (h : s.Inv) (condition : CarrierCondition) : (s.carrierStep condition).Inv := by
  unfold State.carrierStep
  split
  case h_1 => exact h.same (by simp)
  case h_2 draining => exact h.enterStandby draining
  case h_3 draining => exact h.failDrain draining
  case h_4 standby =>
    split
    · exact h.enterDeep standby
    · exact h
  case h_5 waking => exact h.completeWake (by simp [waking])
  case h_6 warming => exact h.completeWake (by simp [warming])
  case h_7 => exact h

/-- A drain starts: from SEEKING, with a cover recorded (R91). -/
theorem State.Inv.startDrain (h : s.Inv) (seeking : s.rsq.phase = .seeking) : s.startDrain.Inv := by
  have draining : ((s.onRsq fun q =>
      { q with
        phase := .draining, askWait := none, drainStep := .drainOrdered
        drainTimer := some (s.clock + s.drainLength), omissions := 0, wakeCause := none }).bump .grantsReceived).Inv := by
    refine State.Inv.bump ?_ rfl
    apply h.step
    case phase =>
      exact .inr fun h => h.to_deeper (by simp [seeking]) (by simp) (by simp) (by simp) (by simp) (by simp)
    all_goals simp
  unfold State.startDrain
  dsimp only
  split_ifs
  · exact draining.rouseAtEntry
  · exact draining.wake .orphan

theorem State.Inv.takeMiss (h : s.Inv) (seeking : s.rsq.phase = .seeking) : s.takeMiss.Inv := by
  unfold State.takeMiss
  refine State.Inv.bump ?_ rfl
  split
  · apply h.step
    case phase => exact .inr fun h => h.to_awake (by simp [seeking]) (by simp) (by simp) (by simp)
    case view => exact .inr fun h => h.miss _
    all_goals simp
  · apply h.step
    case phase => exact .inr fun h => h.to_awake (by simp [seeking]) (by simp) (by simp) (by simp)
    all_goals simp

theorem State.Inv.coverBeacon (h : s.Inv) (b : Heard) : (s.coverBeacon b).Inv := by
  unfold State.coverBeacon
  dsimp only
  split_ifs
  · exact h.wake .orphan
  · exact h.same (by simp)
  · exact State.Inv.wake (h.same (by simp)) .orphan
  · exact h.same (by simp)
  · exact h

theorem State.Inv.standbyBeaconWork (h : s.Inv) : s.standbyBeaconWork.Inv := by
  have counted : s.countSettle.Inv := by
    unfold State.countSettle
    split_ifs
    · exact State.Inv.formSettled (h.same (by simp))
    · exact h
  have woken : s.countSettle.settleWake.Inv := by
    unfold State.settleWake
    split_ifs
    · exact counted.wake .settle
    · exact counted
  unfold State.standbyBeaconWork State.decideDeep
  split_ifs
  · exact State.Inv.bump (woken.same (by simp)) rfl
  · exact woken

theorem State.Inv.placeBeacon (h : s.Inv) : s.placeBeacon.Inv := by
  unfold State.placeBeacon
  dsimp only
  split_ifs
  · exact (State.Inv.bump (h.same (by simp)) rfl).offer .beacon
  · exact h.same (by simp)
  · exact h.offer .beacon

/-! ## Attempts -/

/-- The tests of eligibility as far as the promises need them: the window open and no pledge held (R81). -/
theorem State.readyToRest_open (ready : s.readyToRest = true) : s.plu.windowOpen = true ∧ s.cvu.book = [] := by
  simp only [State.readyToRest, Bool.and_eq_true, List.isEmpty_iff] at ready
  obtain ⟨⟨⟨⟨⟨⟨⟨-, isOpen⟩, -⟩, -⟩, -⟩, empty⟩, -⟩, -⟩ := ready
  exact ⟨isOpen, empty⟩

theorem State.Inv.startAttempt (h : s.Inv) (awake : s.rsq.phase = .awake) (isOpen : s.plu.windowOpen = true)
    (empty : s.cvu.book = []) {cover : Nat} (carrier : cover ≠ s.own ∧ cover ≤ 59) (amount : Nat) :
    (s.startAttempt cover amount).Inv := by
  apply h.step
  case book =>
    exact .inr fun h => h.congr (by simp) (.of_raised fun c => State.count_startAttempt c s cover amount)
  case phase =>
    refine .inr fun h => h.to_covered (cover := cover) (by simp [awake]) (by simpa using empty)
      (.inl (by simp [State.startAttempt])) (by simp [State.startAttempt]) ?_ (by simpa using isOpen) (by simp)
    simpa [State.own] using carrier
  case queue =>
    refine .inr fun h => ?_
    simpa [State.startAttempt] using QueueKept.offer (s := s.onRsq fun q => { q with tag := q.tag + 1, cover := some cover })
      (.coverAsk cover (s.rsq.tag + 1) amount) h
  all_goals simp

theorem State.Inv.evaluateEligibility (h : s.Inv) (awake : s.rsq.phase = .awake) : s.evaluateEligibility.Inv := by
  unfold State.evaluateEligibility
  dsimp only
  split
  next ready =>
    obtain ⟨isOpen, empty⟩ := State.readyToRest_open ready
    split
    next e chosen =>
      split
      · have stays := (s.setCondition_phase s.rsq.noCover false
          (write := fun s => s.onRsq fun q => { q with noCover := false }) rfl).1 awake
        obtain ⟨below, other⟩ := h.view.carriers e (PeerView.chooseCover_mem chosen).1
        exact (h.setNoCover false).startAttempt stays (by simpa using isOpen) (by simpa using empty)
          ⟨by simpa [State.own] using other, below⟩ _
      · exact h.setNoCover true
    next => exact h.setNoCover true
  next => exact h.setNoCover false

end Sys2Proof.Machine
end

section
/-! PROOFS. Inv under the operations of the Cover Unit: recalls, removals, grants and lapse, with the accounts of
the pledges. -/

namespace Sys2Proof.Machine

variable {s t : State}

/-! ## Counts made for each item of a list -/

/-- A counter raised for each item of a list; an empty list raises none (R168). -/
theorem State.count_bumpFor {α : Type} (c d : Counter) (l : List α) (s : State) :
    (State.bumpFor c l s).count d =
      if d = c ∧ l ≠ [] then min Config.counterLimit (s.count d + l.length) else s.count d := by
  induction l generalizing s with
  | nil => simp [State.bumpFor]
  | cons x rest ih =>
    rw [State.bumpFor, ih, State.count_bump]
    by_cases own : d = c
    · cases rest with
      | nil => simp [own, saturatingSucc]
      | cons y rest => simp [own, saturatingSucc]; omega
    · simp [own]

/-- Without saturation the removals under the seven causes rise by what is counted under one of them (R75). -/
theorem State.removals_bumpFor {α : Type} (cause : RemovalCause) (l : List α) (s : State)
    (isOpen : (State.bumpFor (.removed cause) l s).count (.removed cause) < Config.counterLimit) :
    (State.bumpFor (.removed cause) l s).removals = s.removals + l.length := by
  rcases l.eq_nil_or_concat with rfl | ⟨_, _, rfl⟩
  · rfl
  · rw [State.count_bumpFor, if_pos ⟨rfl, by simp⟩] at isOpen
    cases cause <;> simp [State.removals, allCauses, State.count_bumpFor] <;> simp at isOpen <;> omega

/-! ## The accounts of the pledges -/

/-- Pledges leave the book, and each is counted under one cause (R75). -/
theorem PledgesAccounted.removed {α : Type} (h : PledgesAccounted s) (cause : RemovalCause) (l : List α)
    (length : t.cvu.book.length + l.length = s.cvu.book.length)
    (counts : PledgeCountsSame (State.bumpFor (.removed cause) l s) t) : PledgesAccounted t := by
  rintro ⟨granted, causes⟩
  have same : t.count .granted = s.count .granted := by
    rw [counts .granted rfl, State.count_bumpFor, if_neg (by simp)]
  have raised : t.removals = s.removals + l.length := by
    rw [counts.removals]
    refine State.removals_bumpFor cause l s ?_
    rw [← counts (.removed cause) rfl]
    exact causes cause (by cases cause <;> decide)
  have before : PledgeCountsOpen s := by
    refine ⟨same ▸ granted, fun c hc => ?_⟩
    have := causes c hc
    rw [counts (.removed c) rfl, State.count_bumpFor] at this
    split at this <;> omega
  have := h before
  omega

/-- A pledge joins the book, and is counted as granted (R75). -/
theorem PledgesAccounted.granted (h : PledgesAccounted s) (length : t.cvu.book.length = s.cvu.book.length + 1)
    (counts : PledgeCountsSame (s.bump .granted) t) : PledgesAccounted t := by
  rintro ⟨granted, causes⟩
  have removed (c : RemovalCause) : t.count (.removed c) = s.count (.removed c) := by
    rw [counts (.removed c) rfl, State.count_bump, if_neg (by simp)]
  have raised : t.count .granted = saturatingSucc Config.counterLimit (s.count .granted) := by
    rw [counts .granted rfl, State.count_bump_same]
  rw [raised] at granted ⊢
  unfold saturatingSucc at *
  have before : PledgeCountsOpen s := ⟨by omega, fun c hc => removed c ▸ causes c hc⟩
  have := h before
  have removals : t.removals = s.removals := by simp [State.removals, removed]
  omega

/-- With one pledge a leaner, a removal takes one pledge (R55). -/
theorem BookKept.length_filter {book : List Pledge} (h : BookKept book) {p : Pledge} (held : p ∈ book) :
    (book.filter (·.leaner != p.leaner)).length + 1 = book.length := by
  have once : (book.map (·.leaner)).count p.leaner = 1 :=
    List.count_eq_one_of_mem h.oneEach (List.mem_map_of_mem held)
  have split := List.length_eq_countP_add_countP (fun q : Pledge => q.leaner != p.leaner) (l := book)
  have taken : book.countP (fun q => ¬(q.leaner != p.leaner) = true) = 1 := by
    rw [← once, List.count, List.countP_map]
    exact List.countP_congr fun q _ => by simp
  rw [List.countP_eq_length_filter, taken] at split
  exact split.symm

/-! ## Recalls -/

/-- A change of one leaner's pledge that leaves what it holds keeps the ranges (R72). -/
theorem pledgesInRange_changePledge {book : List Pledge} (h : ∀ p ∈ book, PledgeInRange p) {f : Pledge → Pledge}
    (kept : ∀ p, PledgeInRange p → PledgeInRange (f p)) (leaner : Nat) :
    ∀ p ∈ changePledge leaner f book, PledgeInRange p := by
  intro p hp
  obtain ⟨q, hq, rfl⟩ := List.mem_map.mp hp
  split
  · exact kept q (h q hq)
  · exact h q hq

theorem changePledge_eq_nil {leaner : Nat} {f : Pledge → Pledge} {book : List Pledge} :
    changePledge leaner f book = [] ↔ book = [] := List.map_eq_nil_iff

/-- A change of one leaner's pledge that leaves what it holds keeps the promises, when it keeps the book. -/
theorem State.Inv.changePledge (h : s.Inv) {leaner : Nat} {f : Pledge → Pledge}
    (kept : BookKept (changePledge leaner f s.cvu.book)) (range : ∀ p, PledgeInRange p → PledgeInRange (f p)) :
    (s.onCvu fun c => { c with book := Machine.changePledge leaner f c.book }).Inv := by
  apply h.step
  case book =>
    refine .inr fun h => ⟨kept, pledgesInRange_changePledge h.pledges range leaner, ?_⟩
    exact h.accounted.congr (by simp [Machine.changePledge]) (.of_acc rfl)
  case phase => exact .inr fun h => h.congr rfl rfl (by simp [changePledge_eq_nil]) rfl rfl rfl
  all_goals simp

theorem State.Inv.sendRecall (h : s.Inv) (p : Pledge) : (s.sendRecall p).Inv := by
  have sent : ((s.offer (.recall p.leaner p.tag)).bump .recallsSent).Inv := (h.offer _).bump rfl
  unfold State.sendRecall
  exact sent.same (by simp)

theorem State.Inv.startRecall (h : s.Inv) {counted : Counter} (other : countsPledges counted = false)
    (none : s.cvu.calling = false) : (s.startRecall counted).Inv := by
  unfold State.startRecall
  split
  next => exact h
  next p chosen =>
    refine State.Inv.bump (State.Inv.sendRecall (h.changePledge (h.book.call p.leaner ?_ none) ?_) p) other
    · exact fun _ => rfl
    · exact fun _ range => range

theorem State.Inv.continuousCheck (h : s.Inv) : s.continuousCheck.Inv := by
  unfold State.continuousCheck
  split
  next starts => exact h.startRecall rfl starts.2.2
  next => exact h

theorem State.Inv.overloadTest (h : s.Inv) : s.overloadTest.Inv := by
  unfold State.overloadTest
  split
  next starts => exact h.startRecall rfl starts.2.2.1
  next => exact h

theorem State.Inv.coverStage (h : s.Inv) : s.coverStage.Inv := by
  have decayed : (s.onCvu fun c => { c with book := c.book.map (decayPledge s.profile.shift) }).Inv := by
    apply h.step
    case book =>
      refine .inr fun h => ⟨h.book.map (by simp) (by simp), ?_, h.accounted.congr (by simp) (.of_acc rfl)⟩
      rintro p held
      obtain ⟨q, is, rfl⟩ := List.mem_map.mp held
      exact (h.pledges q is).decay _
    case phase => exact .inr fun h => h.congr rfl rfl (by simp) rfl rfl rfl
    all_goals simp
  unfold State.coverStage
  dsimp only
  split
  · exact decayed.continuousCheck
  · exact decayed.overloadTest

/-! ## Removals -/

theorem State.Inv.endCall (h : s.Inv) (cause : RemovalCause) : (s.endCall cause).Inv := by
  have stopped : (s.onCvu fun c => { c with recallTimer := none }).Inv := h.same (by simp)
  unfold State.endCall
  refine State.Inv.continuousCheck (doWhen_keeps _ stopped ?_)
  unfold State.startRecallGuard
  split
  · exact stopped
  · exact h.same (by simp)

/-- Fewer pledges, each removal counted under its cause, keep the promises. -/
theorem State.Inv.removed {α : Type} (h : s.Inv) (cause : RemovalCause) (l : List α) {book : List Pledge}
    (kept : BookKept book) (pledges : ∀ p ∈ book, PledgeInRange p) (some : book ≠ [] → s.cvu.book ≠ [])
    (length : book.length + l.length = s.cvu.book.length) :
    (State.bumpFor (.removed cause) l (s.onCvu fun c => { c with book := book })).Inv := by
  apply h.step
  case book =>
    refine .inr fun h => ⟨by simpa using kept, by simpa using pledges, ?_⟩
    refine h.accounted.removed cause l (by simpa using length) fun c _ => ?_
    simp [State.count_bumpFor]
  case phase => exact .inr fun h => h.congr (by simp) (by simp) (by simpa using some) (by simp) (by simp) (by simp)
  all_goals simp

theorem State.Inv.removePledge (h : s.Inv) {p : Pledge} (held : p ∈ s.cvu.book) (cause : RemovalCause) :
    (s.removePledge p cause).Inv := by
  have sub : (s.cvu.book.filter (·.leaner != p.leaner)).Sublist s.cvu.book := List.filter_sublist
  have removed := h.removed cause [p] (h.book.sublist sub) (fun q hq => h.pledges q (sub.subset hq))
    (fun _ => List.ne_nil_of_mem held) (h.book.length_filter held)
  exact doWhen_keeps _ removed (removed.endCall cause)

theorem State.Inv.replaceFor (h : s.Inv) (asker : Nat) : (s.replaceFor asker).Inv := by
  unfold State.replaceFor
  split
  next p found => exact h.removePledge (CoverUnit.pledgeOf_some found).1 _
  next => exact h

theorem State.Inv.leanerLost (h : s.Inv) (leaner : Nat) : (s.leanerLost leaner).Inv := by
  unfold State.leanerLost
  split
  next p found => exact h.removePledge (CoverUnit.pledgeOf_some found).1 _
  next => exact h

theorem State.Inv.takeResume (h : s.Inv) (sender : Nat) (tag : BitVec 8) : (s.takeResume sender tag).Inv := by
  unfold State.takeResume
  split
  next p found => exact h.removePledge (List.mem_of_find?_eq_some found) _
  next => exact h.bump rfl

theorem State.Inv.leanerBeacon (h : s.Inv) (b : Heard) : (s.leanerBeacon b).Inv := by
  unfold State.leanerBeacon
  split
  next => exact h
  next p found =>
    split
    · exact h.removePledge (CoverUnit.pledgeOf_some found).1 _
    · exact h.changePledge (h.book.change _ (by simp) (by simp)) fun p hp => hp.follow _

theorem State.Inv.recallTimeout (h : s.Inv) : s.recallTimeout.Inv := by
  unfold State.recallTimeout
  split
  next => exact h.same (by simp)
  next p called =>
    split
    · refine State.Inv.sendRecall (h.changePledge (h.book.change p.leaner ?_ ?_) ?_) p
      · exact fun _ => rfl
      · exact fun _ is => is
      · exact fun _ range => range
    · exact h.removePledge (CoverUnit.called_some called).1 _

theorem State.Inv.lapsePledges (h : s.Inv) : s.lapsePledges.Inv := by
  have aged : BookKept (s.cvu.book.map agePledge) := h.book.map (by simp) (by simp)
  have sub : ((s.cvu.book.map agePledge).filter fun p => !lapses p).Sublist (s.cvu.book.map agePledge) :=
    List.filter_sublist
  have partition : ((s.cvu.book.map agePledge).filter fun p => !lapses p).length +
      ((s.cvu.book.map agePledge).filter lapses).length = s.cvu.book.length := by
    have split := List.length_eq_length_filter_add (l := s.cvu.book.map agePledge) lapses
    rw [List.length_map] at split
    omega
  refine h.removed .lapsed _ (aged.sublist sub) (fun p hp => ?_) (fun some empty => some (by simp [empty])) partition
  obtain ⟨q, held, rfl⟩ := List.mem_map.mp (sub.subset hp)
  exact (h.pledges q held).age

theorem State.Inv.reportRemoval (h : s.Inv) (station : Nat) : (s.reportRemoval station).Inv := by
  unfold State.reportRemoval
  split
  · exact doWhen_keeps _ h (h.wake .orphan)
  · exact h.leanerLost station

theorem State.Inv.reportRemovals (h : s.Inv) (stations : List Nat) : (s.reportRemovals stations).Inv := by
  induction stations generalizing s with
  | nil => exact h
  | cons station rest ih => exact ih (h.reportRemoval station)

/-! ## Asks -/

theorem State.denyReason_none {sector : BitVec 3} {amount : Nat} (granted : s.denyReason sector amount = none) :
    s.rsq.phase = .awake ∧ s.cvu.book.length < 6 := by
  unfold State.denyReason at granted
  split_ifs at granted with _ _ _ _ _ awake full
  exact ⟨not_not.mp awake, Nat.lt_of_not_le full⟩

theorem State.Inv.grantAsk (h : s.Inv) {asker : Nat} (tag : BitVec 8) {amount : Nat} (awake : s.rsq.phase = .awake)
    (room : s.cvu.book.length < 6) (new : ∀ p ∈ s.cvu.book, p.leaner ≠ asker) (carrier : asker ≤ 59)
    (range : 1 ≤ amount ∧ amount ≤ 4095) : (s.grantAsk asker tag amount).Inv := by
  apply h.step
  case book =>
    refine .inr fun h => ⟨?_, fun p hp => ?_, ?_⟩
    · simpa [State.grantAsk] using h.book.grant tag amount room new
    · rcases (by simpa [State.grantAsk] using hp : p ∈ s.cvu.book ∨ p = newPledge asker tag amount) with held | rfl
      · exact h.pledges p held
      · exact .new tag range carrier
    · refine h.accounted.granted (by simp [State.grantAsk]) fun c counts => ?_
      simp [State.grantAsk, State.count_bump, State.count_offer (not_raised_of_countsPledges counts)]
  case phase =>
    refine .inr fun h => ⟨fun _ => by simpa using awake, ?_, ?_, ?_⟩
    · obtain ⟨held, cleared, other⟩ := h.coverRecorded
      exact ⟨by simpa using held, by simpa using cleared, by simpa [State.own] using other⟩
    · simpa [ClosedMeansUp] using h.closedMeansUp
    · simpa [LoadingKept] using h.loading
  case queue =>
    refine .inr fun h => ?_
    simpa [State.grantAsk] using QueueKept.offer (s := s.onCvu _) (.coverGrant asker tag amount) h
  all_goals simp

theorem State.Inv.denyAsk (h : s.Inv) (asker : Nat) (tag : BitVec 8) (reason : DenyReason) :
    (s.denyAsk asker tag reason).Inv := (h.offer _).bump rfl

end Sys2Proof.Machine
end

section
/-! PROOFS. Inv under what arrives on the line: asks, beacons, clashes, and the notices at the leaner. -/

namespace Sys2Proof.Machine

variable {s t : State}

/-! ## The leaners of the book -/

/-- The leaners of the book, oldest grant first. -/
def CoverUnit.leaners (c : CoverUnit) : List Nat := c.book.map (·.leaner)

theorem leaners_changePledge {f : Pledge → Pledge} (same : ∀ p, (f p).leaner = p.leaner) (leaner : Nat)
    (book : List Pledge) : (changePledge leaner f book).map (·.leaner) = book.map (·.leaner) := by
  rw [changePledge, List.map_map]
  refine List.map_congr_left fun p _ => ?_
  simp only [Function.comp_apply]
  split
  · exact same p
  · rfl

/-- A recall takes no leaner from the book (R72). -/
theorem State.startRecall_leaners (counted : Counter) (s : State) : (s.startRecall counted).cvu.leaners = s.cvu.leaners := by
  cases chosen : chooseRecall s.cvu.book with
  | none => rw [State.startRecall_none counted chosen]
  | some p =>
    rw [State.startRecall_cvu counted chosen]
    exact leaners_changePledge (f := fun p => { p with state := .called, attempts := 1 }) (fun _ => rfl) p.leaner s.cvu.book

theorem State.continuousCheck_leaners (s : State) : s.continuousCheck.cvu.leaners = s.cvu.leaners := by
  unfold State.continuousCheck
  split
  · exact s.startRecall_leaners _
  · rfl

theorem State.endCall_leaners (cause : RemovalCause) (s : State) : (s.endCall cause).cvu.leaners = s.cvu.leaners := by
  rw [State.endCall, State.continuousCheck_leaners]
  cases guardsRecall cause
  · rfl
  · rw [doWhen, if_pos rfl, CoverUnit.leaners, State.startRecallGuard_book]
    rfl

/-- A removal takes its leaner from the book, and no other (R75). -/
theorem State.removePledge_leaners (p : Pledge) (cause : RemovalCause) (s : State) :
    (s.removePledge p cause).cvu.leaners = s.cvu.leaners.filter (· != p.leaner) := by
  have taken : (((s.onCvu fun c => { c with book := c.book.filter (·.leaner != p.leaner) }).bump
      (.removed cause))).cvu.leaners = s.cvu.leaners.filter (· != p.leaner) := by
    simp [CoverUnit.leaners, List.filter_map, Function.comp_def]
  unfold State.removePledge
  cases p.state == .called
  · exact taken
  · rw [doWhen, if_pos rfl, State.endCall_leaners, taken]

/-- After the replacement no pledge is held for the asker (R58). -/
theorem State.replaceFor_leaners (asker : Nat) (s : State) :
    (s.replaceFor asker).cvu.leaners = s.cvu.leaners.filter (· != asker) := by
  unfold State.replaceFor
  split
  next p found => rw [State.removePledge_leaners, (CoverUnit.pledgeOf_some found).2]
  next none =>
    refine (List.filter_eq_self.mpr fun n hn => ?_).symm
    obtain ⟨p, held, rfl⟩ := List.mem_map.mp hn
    simpa using CoverUnit.pledgeOf_none none p held

theorem State.Inv.answerAsk (h : s.Inv) {asker : Nat} (sector : BitVec 3) (tag : BitVec 8) {amount : Nat}
    (carrier : asker ≤ 59) (range : 1 ≤ amount ∧ amount ≤ 4095) : (s.answerAsk asker sector tag amount).Inv := by
  have replaced : ((s.bump .asksReceived).replaceFor asker).Inv := State.Inv.replaceFor (h.bump rfl) asker
  unfold State.answerAsk
  dsimp only
  split
  next reason _ => exact replaced.denyAsk asker tag reason
  next granted =>
    obtain ⟨awake, room⟩ := State.denyReason_none granted
    refine replaced.grantAsk tag awake room (fun p held is => ?_) carrier range
    have mem : p.leaner ∈ ((s.bump .asksReceived).replaceFor asker).cvu.leaners := List.mem_map_of_mem held
    simp [State.replaceFor_leaners, is] at mem

theorem carrier_le {sender : BitVec 6} (carrier : ¬fromMaintenance sender = true) : sender.toNat ≤ 59 := by
  simp [fromMaintenance] at carrier
  omega

theorem State.Inv.takeAsk (h : s.Inv) (sender : BitVec 6) (sector : BitVec 3) (tag : BitVec 8) (amount : BitVec 16) :
    (s.takeAsk sender sector tag amount).Inv := by
  unfold State.takeAsk
  split_ifs with maintenance
  · exact h
  · exact h.bump rfl
  · exact h.answerAsk sector tag (carrier_le maintenance) (takenAmount_range amount)

/-! ## Beacons -/

theorem State.Inv.handOn (h : s.Inv) (b : Heard) : (s.handOn b).Inv := ((h.leanerBeacon b).coverBeacon b).formSettled

theorem State.Inv.stored (h : s.Inv) {v : PeerView} (kept : ViewKept s.own v) (b : Heard) : (s.stored v b).Inv := by
  have written : (s.onPvt fun _ => v).Inv := by
    apply h.step
    case view => exact .inr fun _ => kept
    all_goals simp
  exact written.formIsolated.handOn b

theorem State.Inv.storeBeacon (h : s.Inv) {b : Heard} (carrier : b.station ≤ 59 ∧ b.station ≠ s.own) :
    (s.storeBeacon b).Inv := by
  have kept (v : PeerView) (result : (s.pvt.store s.own s.pinned b).view = some v) : ViewKept s.own v :=
    h.view.store carrier result
  unfold State.storeBeacon
  split
  next v is => exact h.stored (kept v (by rw [is]; rfl)) b
  next v is => exact h.stored (kept v (by rw [is]; rfl)) b
  next v is =>
    exact State.Inv.stored (h.bump rfl) (by simpa [State.own] using kept v (by rw [is]; rfl)) b
  next => exact State.Inv.bump (h.same (by simp)) rfl

theorem State.Inv.otherSector (h : s.Inv) (sender : Nat) : (s.otherSector sender).Inv := by
  have removed : ((s.onPvt fun v => v.remove sender).bump .otherSectorRemovals).Inv := by
    refine State.Inv.bump ?_ rfl
    apply h.step
    case view => exact .inr fun h => h.remove sender
    all_goals simp
  unfold State.otherSector
  split
  · exact (removed.formIsolated.reportRemoval sender).formSettled
  · exact h

theorem State.Inv.hearBeacon (h : s.Inv) {sender : BitVec 6} (other : sender ≠ s.cfl.station) (sector : BitVec 3)
    (b : BeaconFields) : (s.hearBeacon sender sector b).Inv := by
  unfold State.hearBeacon
  split
  · exact h
  next maintenance =>
    split
    · exact h
    split
    next => exact h.bump rfl
    next heard read =>
      obtain ⟨-, -, -, -, -, rfl⟩ := (readBeacon_eq_some_iff _ _ _).mp read
      split
      · exact h.otherSector _
      · exact h.storeBeacon ⟨carrier_le maintenance, fun is => other (BitVec.eq_of_toNat_eq is)⟩

theorem State.Inv.ageView (h : s.Inv) : s.ageView.Inv := by
  have bumpFor {s : State} (h : s.Inv) (l : List Nat) : (State.bumpFor .ageRemovals l s).Inv := by
    induction l generalizing s with
    | nil => exact h
    | cons _ rest ih => exact ih (h.bump rfl)
  have aged : (s.onPvt PeerView.ageAll).Inv := by
    apply h.step
    case view => exact .inr fun h => h.ageAll
    all_goals simp
  exact ((bumpFor aged _).formIsolated).reportRemovals _

theorem State.Inv.beaconTimeWork (h : s.Inv) : s.beaconTimeWork.Inv := by
  have next : s.nextBeacon.Inv := h.same (by simp)
  exact next.ageView.lapsePledges.standbyBeaconWork.placeBeacon

/-! ## Clash and arrivals -/

theorem State.Inv.takeClash (h : s.Inv) : s.takeClash.Inv := by
  have counted : (s.bump .clashFrames).Inv := h.bump rfl
  have set : ((s.bump .clashFrames).onLif fun l => { l with clash := true }).Inv := counted.same (by simp)
  unfold State.takeClash State.raiseClash
  split
  · exact counted
  · exact ((set.formTerms.abandonAsk).wake .clash).continuousCheck

theorem State.Inv.receive {work : State → State} (h : s.Inv) (kept : ∀ t : State, t.Inv → (work t).Inv) :
    (State.receive work s).Inv := by
  unfold State.receive
  split
  · exact kept _ (h.same (by simp))
  · exact h

theorem State.Inv.arrive {work : State → State} (h : s.Inv) (sender : BitVec 6) (kind : Kind)
    (kept : ∀ t : State, t.Inv → sender ≠ t.cfl.station → (work t).Inv) : (State.arrive sender kind work s).Inv := by
  refine h.receive fun t h => ?_
  split_ifs with own _
  · exact h.takeClash
  · exact h.bump rfl
  · exact kept _ (h.bump rfl) (by simpa using own)

/-! ## Notices at the leaner -/

theorem State.Inv.answerLateGrant (h : s.Inv) (sender : Nat) (tag : BitVec 8) : (s.answerLateGrant sender tag).Inv :=
  State.Inv.bump (h.offer _) rfl

theorem State.Inv.takeGrant (h : s.Inv) (sender : BitVec 6) (tag : BitVec 8) : (s.takeGrant sender tag).Inv := by
  unfold State.takeGrant
  split
  · exact h
  split
  case h_1 seeking =>
    split
    · exact h.startDrain seeking
    · exact h.answerLateGrant _ tag
  case h_7 => exact h.answerLateGrant _ tag
  case h_8 => exact h
  case h_9 => exact h
  all_goals
    split
    · exact h
    · exact h.answerLateGrant _ tag

theorem State.Inv.countDeny (h : s.Inv) (reason : Byte) : (s.countDeny reason).Inv := by
  unfold State.countDeny
  split
  · exact h.bump rfl
  · exact h

theorem State.Inv.takeDeny (h : s.Inv) (sender : Nat) (tag : BitVec 8) (reason : Byte) :
    (s.takeDeny sender tag reason).Inv := by
  unfold State.takeDeny
  split
  next matching => exact (h.countDeny reason).takeMiss (by simpa using matching.1)
  next => exact h

theorem State.Inv.answerRecall (h : s.Inv) (sender : Nat) (tag : BitVec 8) : (s.answerRecall sender tag).Inv :=
  State.Inv.bump (h.offer _) rfl

theorem State.Inv.takeRecall (h : s.Inv) (sender : BitVec 6) (tag : BitVec 8) : (s.takeRecall sender tag).Inv := by
  have counted : (s.bump .recallsReceived).Inv := h.bump rfl
  unfold State.takeRecall
  dsimp only
  split
  · exact h
  split
  case h_1 => exact counted.answerRecall _ tag
  case h_2 => exact counted.answerRecall _ tag
  case h_6 | h_7 =>
    split
    · exact counted
    · exact counted.answerRecall _ tag
  case h_8 => exact h
  case h_9 => exact h
  all_goals
    split
    · exact counted.wake .recall
    · exact counted.answerRecall _ tag

end Sys2Proof.Machine
end

section
/-! PROOFS. Each command as its time and its work, and what a step keeps when time and every work keep it. -/

namespace Sys2Proof.Machine

/-- The work of a command, in the state its time leads to: what its meaning hands to State.event, or does itself where a
reset is concerned (R166). -/
def commandWork : Instr → State → State
  | .powerOn _ straps => State.powerUp straps
  | .readComplete _ record => State.endRead (State.leaveLoading (loadRecord record))
  | .readAbsent _ => State.endRead fun s => (s.bump .readsAbsent).leaveLoading (fallback 0)
  | .readTimerExpiry _ =>
    State.expiring (·.cfl.readTimer) (State.endRead fun s => (s.bump .readsTimedOut).leaveLoading (fallback 0))
  | .validSample _ u n condition => fun s =>
    ((s.portStage condition).sampleStages u n condition (s.rsq.phase == .awake)).replyToSample
  | .linkBadRecord _ => State.bump .linkBadRecords
  | .unrecognizedRecord _ => fun s =>
    (s.bump .unrecognizedRecords).queueReply { recognized := false, phase := s.rsq.phase, order := s.rsq.order }
  | .replySent _ => fun s =>
    if s.clp.backlog = [] then s else (s.onClp fun c => { c with backlog := c.backlog.drop 1 }).bump .repliesSent
  | .linkWatchExpiry _ =>
    State.expiring (·.clp.watch) fun s =>
      ((s.onClp fun c => { c with link := .lost, watch := none }).bump .linkLosses).loseLink
  | .transmissionAttempt _ => fun s =>
    if s.canAttempt then s.onLif fun l => { l with receiver := .inFrame, queue := startAttempt s.composeBeacon l.queue }
    else s
  | .contentionLoss _ => fun s =>
    if s.lif.attempting then (s.onLif fun l => { l with queue := endAttempt l.queue }).bump .contentionLosses else s
  | .abandon _ => fun s =>
    match s.lif.drivenEntry with
    | none => s
    | some e =>
      if 4 ≤ e.abandons + 1 then
        ((s.onLif fun l => { l with queue := removeDriven l.queue }).bump .abandons).bump (.abandonDiscards e.notice.kind)
      else (s.onLif fun l => { l with queue := abandonAttempt l.queue }).bump .abandons
  | .attemptComplete _ => fun s =>
    match s.lif.drivenEntry with
    | none => s
    | some e => (s.onLif fun l => { l with receiver := .waiting, queue := removeDriven l.queue }).bump (.sent e.notice.kind)
  | .frameDiscarded _ why => State.receive (State.bump (faultCounter why))
  | .clashFrame _ => State.receive State.takeClash
  | .frameIgnored _ frame => State.receive (State.ignoreFrame frame)
  | .beacon _ sender sector fields => State.arrive sender .beacon (State.hearBeacon sender sector fields)
  | .coverAsk _ sender sector tag amount => State.arrive sender .coverAsk (State.takeAsk sender sector tag amount)
  | .resume _ sender tag => State.arrive sender .resume (State.takeResume sender.toNat tag)
  | .coverGrant _ sender tag _ => State.arrive sender .coverGrant (State.takeGrant sender tag)
  | .coverDeny _ sender tag reason _ => State.arrive sender .coverDeny (State.takeDeny sender.toNat tag reason)
  | .recall _ sender tag => State.arrive sender .recall (State.takeRecall sender tag)
  | .windowOpen _ sender duration mask =>
    State.arrive sender .window (State.masked mask (State.openWindow (takenMinutes duration)))
  | .windowClose _ sender mask => State.arrive sender .window (State.masked mask State.takeClose)
  | .windowTimerExpiry _ => State.expiring (·.plu.windowTimer) (State.closeWindow .closingsByExpiry)
  | .flags _ sender actions mask => State.arrive sender .flags (State.masked mask (State.takeFlags actions))
  | .profile _ sender number mask => State.arrive sender .profile (State.masked mask (State.takeProfile number))
  | .askStatus _ sender page clear => State.arrive sender .askStatus (State.answerStatus sender.toNat page clear)
  | .restart _ sender straps => State.arrive sender .restart (State.lineRestart straps)
  | .statusArrival _ sender => State.arrive sender .status fun s => s
  | .ownBeaconTime _ => State.expiring (·.lif.beaconTimer) State.beaconTimeWork
  | .askWaitExpiry _ =>
    State.expiring (·.rsq.askWait) fun s =>
      if s.rsq.phase = .seeking then (s.bump .askWaitExpiries).takeMiss else s.onRsq fun q => { q with askWait := none }
  | .backoffExpiry _ => State.expiring (·.rsq.backoff) fun s => s.onRsq fun q => { q with backoff := none }
  | .drainTimerExpiry _ =>
    State.expiring (·.rsq.drainTimer) fun s =>
      if s.rsq.phase = .draining then s.failDrain else s.onRsq fun q => { q with drainTimer := none }
  | .recallTimerExpiry _ => State.expiring (·.cvu.recallTimer) State.recallTimeout
  | .recallGuardExpiry _ => State.expiring (·.cvu.recallGuard) fun s => s.onCvu fun c => { c with recallGuard := none }
  | .restGuardExpiry _ =>
    State.expiring (·.rsq.restGuard) fun s => (s.onRsq fun q => { q with restGuard := none }).endRecentRecall
  | .heldInReset _ => State.enterReset
  | .lineIdle _ => fun s => if s.rsq.phase = .loading ∨ s.lif.attempting = true then s else s.lineIdles

/-- The two commands that act on a device held in reset as well (R166). -/
def actsInReset : Instr → Bool
  | .powerOn _ _ | .heldInReset _ => true
  | _ => false

variable {s t : State}

theorem exec_event {i : Instr} (h : actsInReset i = false) (s : State) :
    exec i s = s.event (commandTime i) (commandWork i) := by
  cases i with
  | powerOn => cases h
  | heldInReset => cases h
  | _ => rfl

theorem exec_reset {i : Instr} (h : actsInReset i = true) (s : State) :
    exec i s = .next (commandWork i (s.elapse (commandTime i))) := by
  cases i with
  | powerOn => rfl
  | heldInReset => rfl
  | _ => cases h

/-- A command is its time and then its work; on a device held in reset its time alone, unless it is of a reset (R166). -/
theorem exec_eq (i : Instr) (s : State) :
    exec i s =
      .next (if s.held && !actsInReset i then s.elapse (commandTime i) else commandWork i (s.elapse (commandTime i))) := by
  cases h : actsInReset i with
  | false =>
    rw [exec_event h, State.event, Bool.not_false, Bool.and_true]
    rfl
  | true => simp [exec_reset h]

/-- A command of a device out of reset does its work. -/
theorem exec_live (i : Instr) (out : s.held = false) :
    exec i s = .next (commandWork i (s.elapse (commandTime i))) := by
  rw [exec_eq, out, Bool.false_and, if_neg Bool.false_ne_true]

/-- What time keeps, and every work, a step keeps; it must not read the commands waiting. On a device held in reset only the
commands of the resets work. -/
theorem step_keeps {P : State → Prop} (waiting : ∀ (s : State) (l : List Instr), P s → P { s with pending := l })
    (time : ∀ (s : State) (after : Micros), P s → P (s.elapse after))
    (work : ∀ (s : State) (i : Instr), (s.held = true → actsInReset i = true) → P s → P (commandWork i s)) (h : P s)
    (taken : step s = .next t) : P t := by
  unfold step at taken
  split at taken
  next i rest _ =>
    rw [exec_eq, Host.Outcome.next.injEq] at taken
    have begun := time _ (commandTime i) (waiting s rest h)
    subst taken
    split
    · exact begun
    next works =>
      have out (held : s.held = true) : actsInReset i = true := by simpa [held] using works
      exact work _ i out begun
  next =>
    rw [Host.Outcome.next.injEq] at taken
    exact taken ▸ waiting s _ h

end Sys2Proof.Machine
end

section
/-! PROOFS. Inv under the carrier link, the night window, the resets and the load, and so under every step. -/

namespace Sys2Proof.Machine

variable {s t : State}

/-! ## The carrier link -/

theorem State.Inv.queueReply (h : s.Inv) (r : Reply) : (s.queueReply r).Inv := by
  unfold State.queueReply
  split
  next room =>
    apply h.step
    case link => exact .inr fun h => ⟨by simpa using room, h.carrierFault⟩
    all_goals simp
  next => exact h.bump rfl

theorem State.Inv.replyToSample (h : s.Inv) : s.replyToSample.Inv := by
  have ordered : (s.onClp fun c => { c with currentOrder := s.rsq.order }).Inv := by
    apply h.step
    case link => exact .inr fun h => ⟨h.backlog, h.carrierFault⟩
    all_goals simp
  exact ordered.queueReply _

/-- The condition of a SAMPLE is recorded and CARRIER_FAULT follows it (R157). -/
theorem State.Inv.recordCondition (h : s.Inv) (watch : Timer) (condition : CarrierCondition) :
    ((s.onClp fun c => { c with watch := watch, lastCondition := some condition }).setCarrierFault
      (condition == .fault)).Inv := by
  unfold State.setCarrierFault State.setCondition
  split
  next same =>
    apply h.step
    case link => exact .inr fun h => ⟨h.backlog, by simpa using same⟩
    all_goals simp
  next =>
    have written : ((s.onClp fun c => { c with watch := watch, lastCondition := some condition }).onClp fun c =>
        { c with carrierFault := condition == .fault }).Inv := by
      apply h.step
      case link => exact .inr fun h => ⟨h.backlog, by simp⟩
      all_goals simp
    exact State.Inv.formTerms (doWhen_keeps _ written (written.bump rfl))

theorem State.Inv.portStage (h : s.Inv) (condition : CarrierCondition) : (s.portStage condition).Inv := by
  have up : ((s.bump .validSamples).onClp fun c => { c with link := .up }).Inv := by
    have counted : (s.bump .validSamples).Inv := h.bump rfl
    apply counted.step
    case link => exact .inr fun h => ⟨h.backlog, h.carrierFault⟩
    all_goals simp
  unfold State.portStage
  dsimp only
  split
  · exact State.Inv.recordCondition (State.Inv.setLinkLost (up.bump rfl) false) _ condition
  · exact up.recordCondition _ condition

/-- One smoothing step toward a target stays below what bounds both (R7). -/
theorem smoothed_le {demand target bound : Nat} (k : Nat) (below : demand ≤ bound) (aim : target ≤ bound) :
    smoothed demand target k ≤ bound := by
  have moved := smoothed_eq demand target k
  rcases Nat.lt_or_ge demand target with under | above
  · have := (smoothingStep_below k under).2
    omega
  · have := (smoothingStep_above k above).1
    omega

theorem EstimateKept.demand_le (h : EstimateKept s) : s.lde.demand.getD 0 ≤ 16 * s.image.capacity := by
  unfold EstimateKept at h
  split at h
  · simp [h.1]
  · obtain ⟨d, is, -, bound⟩ := h
    simpa [is] using bound
  · obtain ⟨d, is, -, bound⟩ := h
    simpa [is] using bound

theorem EstimateKept.useSample (h : EstimateKept s) (u : BitVec 10) (n : BitVec 11) (arrivedAwake : Bool) :
    EstimateKept (s.useSample u n arrivedAwake) := by
  have target : 16 * instantDemand (clampUtilisation u) s.image.capacity ≤ 16 * s.image.capacity :=
    Nat.mul_le_mul_left 16 (instantDemand_le u s.image.capacity)
  refine ⟨_, rfl, rfl, ?_⟩
  unfold LoadEstimator.nextDemand
  split
  · exact target
  · exact target
  · exact smoothed_le _ h.demand_le target

theorem State.Inv.useSample (h : s.Inv) (u : BitVec 10) (n : BitVec 11) (arrivedAwake : Bool)
    (up : s.rsq.phase ≠ .loading) : (s.useSample u n arrivedAwake).Inv := by
  apply h.step
  case phase => exact .inr fun h => h.of_phase rfl rfl id rfl id fun loading => ⟨loading.1, fun is => absurd is up⟩
  case estimate => exact .inr fun h => h.useSample u n arrivedAwake
  all_goals simp

theorem State.Inv.sampleStages (h : s.Inv) (u : BitVec 10) (n : BitVec 11) (condition : CarrierCondition)
    (arrivedAwake : Bool) : (s.sampleStages u n condition arrivedAwake).Inv := by
  unfold State.sampleStages
  split
  · exact h
  next up =>
    split
    · have read := ((h.useSample u n arrivedAwake up).coverStage).carrierStep condition
      unfold State.eligibilityStage
      split
      next awake => exact read.evaluateEligibility awake.2
      next => exact read
    · exact State.Inv.carrierStep (h.bump rfl) condition

theorem State.Inv.loseLink (h : s.Inv) : s.loseLink.Inv := by
  have blinded : (s.onLde fun e => { e with quiet := 0, state := if e.state = .tracking then .blind else e.state }).Inv := by
    apply h.step
    case phase =>
      refine .inr fun h => h.of_phase rfl rfl id rfl id fun loading => ⟨loading.1, fun is => ?_⟩
      simp [loading.2 is]
    case estimate =>
      refine .inr fun h => ?_
      unfold EstimateKept at h ⊢
      cases is : s.lde.state <;> simpa [is, State.image] using h
    all_goals simp
  unfold State.loseLink
  split
  · exact h
  · exact ((blinded.setLinkLost true).abandonAsk).continuousCheck

/-! ## The night window -/

theorem State.Inv.masked {work : State → State} (h : s.Inv) (mask : BitVec 8) (kept : ∀ t : State, t.Inv → (work t).Inv) :
    (State.masked mask work s).Inv := by
  unfold State.masked
  split
  · exact kept s h
  · exact h.bump rfl

theorem State.Inv.openWindow (h : s.Inv) (minutes : Nat) : (s.openWindow minutes).Inv := by
  have timed : ((s.bump .windowsTaken).onPlu fun p => { p with windowTimer := some (s.clock + minutes * minute) }).Inv := by
    have counted : (s.bump .windowsTaken).Inv := h.bump rfl
    exact counted.same (by simp)
  unfold State.openWindow
  dsimp only
  split
  · exact timed
  · refine State.Inv.bump ?_ rfl
    apply timed.step
    case phase =>
      exact .inr fun h => h.of_phase (by simp) (by simp) (by simp) (by simp [State.own]) (fun _ closed => by simp at closed) id
    case view => exact .inr fun h => h.forgive
    all_goals simp

theorem State.abandonAsk_of_ne (h : s.rsq.phase ≠ .seeking) : s.abandonAsk = s := if_neg h

/-- A wake leads every station but one in SEEKING to a phase that needs no window. -/
theorem State.wake_up (cause : WakeCause) (h : s.rsq.phase ≠ .seeking) :
    (s.wake cause).rsq.phase = .loading ∨ (s.wake cause).rsq.phase = .awake ∨ (s.wake cause).rsq.phase = .waking ∨
      (s.wake cause).rsq.phase = .warming ∨ (s.wake cause).rsq.phase = .mute := by
  cases is : s.rsq.phase with
  | seeking => exact absurd is h
  | draining => simp [State.wake_draining cause is]
  | standby =>
    rw [(State.wake_resting cause (.inl is)).1]
    split <;> simp
  | deep => simp [(State.wake_resting cause (.inr is)).1, is]
  | _ => simp [State.wake_ignored cause, is]

theorem PhasePromise.closeWindow (h : PhasePromise s) (counted : Counter) : PhasePromise
    (((s.onPlu fun p => { p with windowOpen := false, windowTimer := none }).bump counted).abandonAsk.wake .close) := by
  generalize is : (s.onPlu fun p => { p with windowOpen := false, windowTimer := none }).bump counted = closed
  have rsq : closed.rsq = s.rsq := by simp [← is]
  have cvu : closed.cvu = s.cvu := by simp [← is]
  have cfl : closed.cfl = s.cfl := by simp [← is]
  have lde : closed.lde = s.lde := by simp [← is]
  by_cases seeking : closed.rsq.phase = .seeking
  · have phase : closed.abandonAsk.rsq.phase = .awake ∧ closed.abandonAsk.rsq.cover = none := by
      simp [State.abandonAsk, seeking]
    rw [State.wake_ignored .close (by simp [phase]) (by simp [phase]) (by simp [phase])]
    exact h.to_awake (by simp [← rsq, seeking]) phase.1 phase.2 (by simp [cfl])
  · rw [State.abandonAsk_of_ne seeking]
    have book : BookOnlyAwake closed := by simpa [BookOnlyAwake, rsq, cvu] using h.bookOnlyAwake
    have cover : CoverRecorded closed := by
      obtain ⟨held, cleared, other⟩ := h.coverRecorded
      exact ⟨by simpa [rsq] using held, by simpa [rsq] using cleared, by simpa [rsq, State.own, cfl] using other⟩
    exact
      { bookOnlyAwake := book.wake .close
        coverRecorded := cover.wake .close
        closedMeansUp := fun _ => State.wake_up .close seeking
        loading := by simpa [LoadingKept, (closed.wake_phase_iff .close).2.1, rsq, cfl, lde] using h.loading }

theorem State.count_abandonAsk {c : Counter} (other : c ≠ .abandonedAsks) (s : State) :
    s.abandonAsk.count c = s.count c := by
  unfold State.abandonAsk
  split
  · rw [State.count_bump, if_neg other]
    rfl
  · rfl

theorem State.Inv.closeWindow (h : s.Inv) {counted : Counter} (other : countsPledges counted = false) :
    (s.closeWindow counted).Inv := by
  refine State.Inv.continuousCheck ?_
  apply h.step
  case book =>
    refine .inr fun h => h.congr (by simp) fun c counts => ?_
    rw [State.count_wake (not_raised_of_countsPledges counts), State.count_abandonAsk (by rintro rfl; cases counts)]
    exact PledgeCountsSame.bump other c counts
  case phase => exact .inr fun h => h.closeWindow counted
  case queue => exact .inr fun h => QueueKept.wake (by simpa using h) .close
  all_goals simp

theorem State.Inv.takeClose (h : s.Inv) : s.takeClose.Inv := by
  have counted : (s.bump .windowsTaken).Inv := h.bump rfl
  exact doWhen_keeps _ counted (counted.closeWindow rfl)

theorem State.Inv.takeProfile (h : s.Inv) (number : Byte) : (s.takeProfile number).Inv := by
  have taken : (s.bump .profilesTaken).Inv := h.bump rfl
  unfold State.takeProfile
  dsimp only
  split_ifs
  · exact h.bump rfl
  · exact taken
  · have numbered : (((s.bump .profilesTaken).onPlu fun p =>
        { p with activeProfile := BitVec.ofNat 2 number.toNat }).zeroQuiet).Inv := taken.same (by simp)
    exact numbered.formTerms.bump rfl

theorem State.Inv.takeFlags (h : s.Inv) (actions : FlagActions) : (s.takeFlags actions).Inv := by
  have counted : (s.bump .flagsTaken).Inv := h.bump rfl
  exact State.Inv.formTerms (counted.same (by simp))

end Sys2Proof.Machine
end

section
/-! PROOFS. Inv under the resets and the load, and so under every step: what O58 states. -/

namespace Sys2Proof.Machine

variable {s t : State}

/-! ## The image that takes force -/

theorem le_clampTo (low high n : Nat) : low ≤ clampTo low high n := Nat.le_max_left _ _

theorem clampTo_le {low high : Nat} (n : Nat) (h : low ≤ high) : clampTo low high n ≤ high :=
  Nat.max_le.mpr ⟨h, Nat.min_le_left _ _⟩

theorem changed_le (a b : Nat) : changed a b ≤ 1 := by
  unfold changed
  split <;> omega

/-- The user limit is a byte, which no clamp changes (13.5); the other fields are clamped into their ranges (R126). -/
theorem ProfileKept.clamp {p : Profile} (users : p.userLimit ≤ 255) : ProfileKept (clampProfile p) where
  quietLimit := clampTo_le _ (by decide)
  userLimit := users
  quietDwell := ⟨le_clampTo _ _ _, clampTo_le _ (by decide)⟩
  margin := clampTo_le _ (by decide)
  ceiling := ⟨le_clampTo _ _ _, clampTo_le _ (by decide)⟩
  wakeLevel := ⟨le_clampTo _ _ _, clampTo_le _ (Nat.add_le_add_right (clampTo_le _ (by decide)) 5)⟩
  shift := ⟨le_clampTo _ _ _, clampTo_le _ (by decide)⟩
  deepDwell := clampTo_le _ (by decide)
  recallGuard := clampTo_le _ (by decide)
  restGuard := clampTo_le _ (by decide)
  awakeFloor := ⟨le_clampTo _ _ _, clampTo_le _ (by decide)⟩

theorem byteAt_le (record : List Byte) (i : Nat) : byteAt record i ≤ 255 := Nat.le_of_lt_succ (record.getD i 0).isLt

theorem Profiles.get_kept {p : Profiles} (p0 : ProfileKept p.p0) (p1 : ProfileKept p.p1) (p2 : ProfileKept p.p2)
    (p3 : ProfileKept p.p3) (n : BitVec 2) : ProfileKept (Profiles.get p n) := by
  unfold Profiles.get
  split
  · exact p0
  · exact p1
  · exact p2
  · exact p3

theorem factoryProfile_kept : ProfileKept Config.factoryProfile := by
  constructor <;> decide

theorem fallbackImage_kept (sector : BitVec 3) : ImageKept (Config.fallbackImage sector) where
  capacity := by simp [Config.fallbackImage]
  standbyAllowance := by simp [Config.fallbackImage]
  deepAllowance := by simp [Config.fallbackImage]
  drainLimit := by simp [Config.fallbackImage]
  profiles :=
    Profiles.get_kept factoryProfile_kept factoryProfile_kept factoryProfile_kept factoryProfile_kept

/-- A record's image that is not config-bad lies in its ranges once clamped (R126, R162). -/
theorem clampImage_kept (record : List Byte) (role : Role) (capacity : (rawImage record role).capacity ≠ 0) :
    ImageKept (clampImage (rawImage record role)) where
  capacity := ⟨Nat.pos_of_ne_zero capacity, Nat.le_of_lt_succ (Nat.mod_lt _ (by decide))⟩
  standbyAllowance := ⟨le_clampTo _ _ _, clampTo_le _ (by decide)⟩
  deepAllowance := ⟨le_clampTo _ _ _, clampTo_le _ (by decide)⟩
  drainLimit := ⟨le_clampTo _ _ _, clampTo_le _ (by decide)⟩
  profiles :=
    Profiles.get_kept (.clamp (byteAt_le _ _)) (.clamp (byteAt_le _ _)) (.clamp (byteAt_le _ _)) (.clamp (byteAt_le _ _))

theorem profileClamps_le (p q : Profile) : profileClamps p q ≤ 10 := by
  unfold profileClamps
  linarith [changed_le p.quietLimit q.quietLimit, changed_le p.quietDwell q.quietDwell, changed_le p.margin q.margin,
    changed_le p.ceiling q.ceiling, changed_le p.wakeLevel q.wakeLevel, changed_le p.shift q.shift,
    changed_le p.deepDwell q.deepDwell, changed_le p.recallGuard q.recallGuard, changed_le p.restGuard q.restGuard,
    changed_le p.awakeFloor q.awakeFloor]

/-- Of 43 fields each is clamped at most once (R162). -/
theorem imageClamps_le (m n : Image) : imageClamps m n ≤ 43 := by
  unfold imageClamps
  linarith [changed_le m.standbyAllowance n.standbyAllowance, changed_le m.deepAllowance n.deepAllowance,
    changed_le m.drainLimit n.drainLimit, profileClamps_le m.profiles.p0 n.profiles.p0,
    profileClamps_le m.profiles.p1 n.profiles.p1, profileClamps_le m.profiles.p2 n.profiles.p2,
    profileClamps_le m.profiles.p3 n.profiles.p3]

/-- What takes force at the exit from LOADING lies in its ranges (R159). -/
structure LoadedKept (l : Loaded) : Prop where
  image : ImageKept l.image
  clamps : l.clampCount ≤ 43

theorem LoadedKept.fallback (sector : BitVec 3) : LoadedKept (fallback sector) := ⟨fallbackImage_kept sector, Nat.zero_le _⟩

theorem LoadedKept.record (record : List Byte) : LoadedKept (loadRecord record) := by
  unfold loadRecord
  split
  · split
    next body _ =>
      unfold loadBody
      split
      · exact .fallback _
      · split
        · exact .fallback _
        · dsimp only
          split
          · exact .fallback _
          next role _ capacity => exact ⟨clampImage_kept body role capacity, imageClamps_le _ _⟩
    · exact .fallback _
  · exact .fallback _

/-! ## The exit from LOADING -/

/-- The exit leads to MUTE, AWAKE or WARMING (R165). -/
theorem State.exitPhase_cases (s : State) : s.exitPhase = .mute ∨ s.exitPhase = .awake ∨ s.exitPhase = .warming := by
  unfold State.exitPhase
  split_ifs <;> simp

/-- A station out of LOADING that needs no cover and holds no pledge keeps what goes with the phase. -/
theorem PhasePromise.up (phase : t.rsq.phase = .mute ∨ t.rsq.phase = .awake ∨ t.rsq.phase = .warming)
    (cover : t.rsq.cover = none) (book : t.cvu.book = []) (load : t.cfl.load = .done) : PhasePromise t where
  bookOnlyAwake := fun some => absurd book some
  coverRecorded := ⟨by rcases phase with is | is | is <;> simp [is], fun _ => cover, by simp [cover]⟩
  closedMeansUp := by rcases phase with is | is | is <;> simp [ClosedMeansUp, is]
  loading := by rcases phase with is | is | is <;> simp [LoadingKept, is, load]

theorem State.Inv.leaveLoading (h : s.Inv) (loading : s.rsq.phase = .loading) {loaded : Loaded} (kept : LoadedKept loaded) :
    (s.leaveLoading loaded).Inv := by
  have empty : s.cvu.book = [] := by
    by_contra some
    simpa [loading] using h.bookOnlyAwake some
  have cover : s.rsq.cover = none := h.coverRecorded.cleared (.inl loading)
  have unseeded := h.loading.2 loading
  generalize is : (s.onCfl fun c =>
    { c with image := loaded.image, configBad := loaded.configBad, clampCount := loaded.clampCount, load := .done
             readTimer := none }) = inForce
  have phases := inForce.exitPhase_cases
  have timed : ((inForce.onRsq fun q => { q with phase := inForce.exitPhase, wakeCause := none }).onLif fun l =>
      { l with
        receiver := .waiting
        beaconTimer := if inForce.exitPhase = .mute then none else some (s.clock + inForce.stagger) }).Inv := by
    subst is
    apply h.step
    case phase => exact .inr fun _ => .up phases cover empty rfl
    case view => exact .inr id
    case estimate => exact .inr fun h => by simpa [EstimateKept, unseeded] using h
    case loader => exact .inr fun _ => ⟨kept.image, kept.clamps⟩
    all_goals simp
  have counted := doWhen_keeps (P := State.Inv) loaded.configBad (timed.bump (c := .loadingExits) rfl)
    (State.Inv.bump (timed.bump (c := .loadingExits) rfl) (c := .fallbackLoads) rfl)
  unfold State.leaveLoading
  dsimp only
  rw [is]
  exact State.Inv.formValues (counted.same (by simp))

theorem State.Inv.loadFallback (h : s.Inv) {counted : Counter} (other : countsPledges counted = false)
    (loading : s.rsq.phase = .loading) : ((s.bump counted).leaveLoading (Machine.fallback 0)).Inv :=
  State.Inv.leaveLoading (h.bump other) (by simpa using loading) (.fallback 0)

theorem State.Inv.endRead {work : State → State} (h : s.Inv) (kept : s.rsq.phase = .loading → (work s).Inv) :
    (State.endRead work s).Inv := by
  unfold State.endRead
  split
  next reading => exact kept (h.loading.1.mpr reading)
  next => exact h

/-! ## The resets -/

theorem BookPromise.empty (book : t.cvu.book = []) (accounted : PledgesAccounted t) : BookPromise t :=
  ⟨book ▸ .empty, by simp [book], accounted⟩

theorem PhasePromise.of_loading (phase : t.rsq.phase = .loading) (cover : t.rsq.cover = none) (book : t.cvu.book = [])
    (load : t.cfl.load = .reading) (estimator : t.lde.state = .unseeded) : PhasePromise t where
  bookOnlyAwake := fun some => absurd book some
  coverRecorded := ⟨by simp [phase], fun _ => cover, by simp [cover]⟩
  closedMeansUp := fun _ => .inl phase
  loading := ⟨by simp [phase, load], fun _ => estimator⟩

theorem QueueKept.empty : QueueKept [] := ⟨by decide, by decide, .nil, by decide⟩

theorem State.Inv.lineRestart (h : s.Inv) (straps : BitVec 6) : (s.lineRestart straps).Inv := by
  apply h.step
  case book =>
    refine .inr fun h => .empty (by simp [State.lineRestart, State.emptyBook])
      (h.accounted.removed .restart s.cvu.book (by simp [State.lineRestart, State.emptyBook]) fun c counts => ?_)
    have other : c ≠ .lineRestarts := by rintro rfl; cases counts
    have kept : (s.lineRestart straps).count c = (s.emptyBook.bump .lineRestarts).count c := rfl
    rw [kept, State.count_bump, if_neg other, State.emptyBook, State.count_bumpFor, State.count_bumpFor]
    rfl
  case phase => exact .inr fun _ => .of_loading rfl rfl (by simp [State.lineRestart, State.emptyBook]) rfl rfl
  case clock => exact .inr fun _ => Nat.zero_le _
  case view => exact .inr fun _ => .empty _
  case queue => exact .inr fun _ => .empty
  case link => exact .inl (by simp [State.lineRestart])
  case estimate => exact .inr fun _ => ⟨rfl, rfl⟩
  case loader =>
    exact .inr fun h => ⟨by simpa [State.lineRestart] using h.image, by simpa [State.lineRestart] using h.clamps⟩

theorem State.powerOn_inv (clock : Micros) (straps : BitVec 6) : (State.powerOn clock straps).Inv := by
  refine State.inv_iff.mpr ⟨.empty rfl ?_, .of_loading rfl rfl rfl rfl rfl, Nat.zero_le _, .empty _,
    .empty, ⟨Nat.zero_le _, rfl⟩, ⟨rfl, rfl⟩, ⟨fallbackImage_kept 0, Nat.zero_le _⟩⟩
  intro _
  simp [State.removals, allCauses, State.count, Accounting.count, State.powerOn]

theorem State.Inv.pending (h : s.Inv) (l : List Instr) : State.Inv { s with pending := l } := h.same (by simp)

theorem State.powerUp_inv (straps : BitVec 6) (s : State) : (s.powerUp straps).Inv := (State.powerOn_inv _ _).pending _

theorem State.enterReset_inv (s : State) : s.enterReset.Inv := by
  apply (s.powerUp_inv s.cfl.station).step
  case phase => exact .inr fun h => h.of_phase rfl rfl id rfl id id
  case link => exact .inr fun h => ⟨h.backlog, h.carrierFault⟩
  case view => exact .inr id
  case estimate => exact .inr id
  case loader => exact .inr fun h => ⟨h.image, h.clamps⟩
  all_goals simp [State.enterReset]

/-! ## Status and the line -/

/-- The clear leaves the granted count at what the book holds, and no removal counted (R172). -/
theorem PledgesAccounted.clearCounters (s : State) : PledgesAccounted s.clearCounters := by
  intro _
  have book : s.clearCounters.cvu = s.cvu := rfl
  simp [State.removals, allCauses, State.count_clearCounters, book]

theorem State.Inv.answerStatus (h : s.Inv) (asker : Nat) (page : BitVec 3) (clear : Bool) :
    (s.answerStatus asker page clear).Inv := by
  unfold State.answerStatus
  dsimp only
  split
  · have advanced : (s.onAcc fun a => a.advance page.toNat).Inv := by
      apply h.step
      case book =>
        refine .inr fun h => h.congr rfl fun c _ => ?_
        unfold State.onAcc Accounting.advance
        dsimp only
        split <;> rfl
      all_goals simp
    refine State.Inv.offer (doWhen_keeps _ advanced ?_) _
    apply advanced.step
    case book => exact .inr fun h => ⟨h.book, h.pledges, .clearCounters _⟩
    all_goals simp [State.clearCounters]
  · exact State.Inv.offer (h.bump rfl) _

theorem State.Inv.ignoreFrame (h : s.Inv) (f : Frame) : (s.ignoreFrame f).Inv := by
  unfold State.ignoreFrame
  split
  · exact h.takeClash
  · exact h.bump rfl
  · exact h
  · exact h.bump rfl
  · exact h.bump rfl
  · exact h

theorem State.Inv.lineIdles (h : s.Inv) : s.lineIdles.Inv := by
  have idle : (s.onLif fun l => { l with receiver := .idle }).Inv := h.same (by simp)
  exact doWhen_keeps _ idle (idle.bump rfl)

/-- An operation on the queue that keeps it keeps the promises. -/
theorem State.Inv.onLif (h : s.Inv) {f : LineInterface → LineInterface} (kept : QueueKept (f s.lif).queue) :
    (s.onLif f).Inv := by
  apply h.step
  case queue => exact .inr fun _ => kept
  all_goals simp

theorem State.Inv.expiring {work : State → State} (h : s.Inv) (timer : State → Timer) (kept : (work s).Inv) :
    (State.expiring timer work s).Inv := by
  unfold State.expiring
  split
  · exact kept
  · exact h

/-! ## Every command -/

theorem State.canAttempt_quiet (h : s.canAttempt = true) : s.lif.queue.any Entry.driven = false := by
  simp only [State.canAttempt, LineInterface.attempting, Bool.and_eq_true, Bool.not_eq_true'] at h
  exact h.2

theorem State.Inv.commandWork (h : s.Inv) (i : Instr) : (commandWork i s).Inv := by
  cases i with
  | powerOn _ straps => exact s.powerUp_inv straps
  | readComplete _ record => exact h.endRead fun loading => h.leaveLoading loading (.record record)
  | readAbsent =>
    dsimp only [Machine.commandWork]
    refine h.endRead fun loading => ?_
    exact h.loadFallback rfl loading
  | readTimerExpiry =>
    dsimp only [Machine.commandWork]
    refine h.expiring _ (h.endRead fun loading => ?_)
    exact h.loadFallback rfl loading
  | validSample _ u n condition => exact ((h.portStage condition).sampleStages u n condition _).replyToSample
  | linkBadRecord => exact h.bump rfl
  | unrecognizedRecord => exact State.Inv.queueReply (h.bump rfl) _
  | replySent =>
    dsimp only [Machine.commandWork]
    split
    · exact h
    · have sent : (s.onClp fun c => { c with backlog := c.backlog.drop 1 }).Inv := by
        apply h.step
        case link => exact .inr fun h => ⟨(List.drop_sublist 1 _).length_le.trans h.backlog, h.carrierFault⟩
        all_goals simp
      exact sent.bump rfl
  | linkWatchExpiry =>
    have lost : (s.onClp fun c => { c with link := .lost, watch := none }).Inv := by
      apply h.step
      case link => exact .inr fun h => ⟨h.backlog, h.carrierFault⟩
      all_goals simp
    dsimp only [Machine.commandWork]
    refine h.expiring _ (State.Inv.loseLink ?_)
    exact lost.bump rfl
  | transmissionAttempt =>
    dsimp only [Machine.commandWork]
    split
    next starts => exact h.onLif (h.queue.startAttempt (State.canAttempt_quiet starts))
    next => exact h
  | contentionLoss =>
    dsimp only [Machine.commandWork]
    split
    · exact State.Inv.bump (h.onLif h.queue.endAttempt) rfl
    · exact h
  | abandon =>
    dsimp only [Machine.commandWork]
    split
    next => exact h
    next =>
      split
      · exact State.Inv.bump (State.Inv.bump (h.onLif h.queue.removeDriven) rfl) rfl
      · exact State.Inv.bump (h.onLif h.queue.abandonAttempt) rfl
  | attemptComplete =>
    dsimp only [Machine.commandWork]
    split
    next => exact h
    next => exact State.Inv.bump (h.onLif h.queue.removeDriven) rfl
  | frameDiscarded _ why => exact h.receive fun t h => h.bump (by cases why <;> rfl)
  | clashFrame => exact h.receive fun t h => h.takeClash
  | frameIgnored _ frame => exact h.receive fun t h => h.ignoreFrame frame
  | beacon _ sender sector fields => exact h.arrive sender _ fun t h other => h.hearBeacon other sector fields
  | coverAsk _ sender sector tag amount => exact h.arrive sender _ fun t h _ => h.takeAsk sender sector tag amount
  | resume _ sender tag => exact h.arrive sender _ fun t h _ => h.takeResume _ tag
  | coverGrant _ sender tag _ => exact h.arrive sender _ fun t h _ => h.takeGrant sender tag
  | coverDeny _ sender tag reason _ => exact h.arrive sender _ fun t h _ => h.takeDeny _ tag reason
  | windowOpen _ sender duration mask => exact h.arrive sender _ fun t h _ => h.masked mask fun t h => h.openWindow _
  | windowClose _ sender mask => exact h.arrive sender _ fun t h _ => h.masked mask fun t h => h.takeClose
  | windowTimerExpiry =>
    dsimp only [Machine.commandWork]
    refine h.expiring _ ?_
    exact h.closeWindow rfl
  | flags _ sender actions mask => exact h.arrive sender _ fun t h _ => h.masked mask fun t h => h.takeFlags actions
  | profile _ sender number mask => exact h.arrive sender _ fun t h _ => h.masked mask fun t h => h.takeProfile number
  | askStatus _ sender page clear => exact h.arrive sender _ fun t h _ => h.answerStatus _ page clear
  | restart _ sender straps => exact h.arrive sender _ fun t h _ => h.lineRestart straps
  | statusArrival _ sender => exact h.arrive sender _ fun t h _ => h
  | ownBeaconTime =>
    dsimp only [Machine.commandWork]
    refine h.expiring _ ?_
    exact h.beaconTimeWork
  | askWaitExpiry =>
    dsimp only [Machine.commandWork]
    refine h.expiring _ ?_
    split
    next seeking => exact State.Inv.takeMiss (h.bump rfl) (by simpa using seeking)
    next => exact h.same (by simp)
  | backoffExpiry =>
    dsimp only [Machine.commandWork]
    refine h.expiring _ ?_
    exact h.same (by simp)
  | drainTimerExpiry =>
    dsimp only [Machine.commandWork]
    refine h.expiring _ ?_
    split
    next draining => exact h.failDrain draining
    next => exact h.same (by simp)
  | recallTimerExpiry =>
    dsimp only [Machine.commandWork]
    refine h.expiring _ ?_
    exact h.recallTimeout
  | recallGuardExpiry =>
    dsimp only [Machine.commandWork]
    refine h.expiring _ ?_
    exact h.same (by simp)
  | restGuardExpiry =>
    dsimp only [Machine.commandWork]
    refine h.expiring _ ?_
    exact State.Inv.endRecentRecall (h.same (by simp))
  | heldInReset => exact s.enterReset_inv
  | lineIdle =>
    dsimp only [Machine.commandWork]
    split
    · exact h
    · exact h.lineIdles
  | _ _ sender tag =>
    -- The RECALL: its constructor bears the name of a Lean command and cannot be written here.
    exact h.arrive sender _ fun t h _ => h.takeRecall sender tag

theorem State.Inv.stepped (h : s.Inv) (taken : Machine.step s = .next t) : t.Inv :=
  step_keeps (P := State.Inv) (fun _ l h => h.pending l) (fun _ after h => h.elapse after) (fun _ i _ h => h.commandWork i)
    h taken

/-- Settles O58: the parts of Inv are kept by each operation of the model, and so by the work of every command. -/
theorem stepKeepsInv : Obligations.StepKeepsInv := fun _ _ h taken => h.stepped taken

end Sys2Proof.Machine
end

section
/-! PROOFS. Each timer runs exactly while what it times goes on, under the operations of the blocks. -/

namespace Sys2Proof.Machine

/-- The timers of TimersRun but the link watch, of which a condition is left open: between two steps of the port's work the
link is up and its watch not yet started (R158). -/
structure TimersRunWith (W : CarrierLink → Bool → Prop) (s : State) : Prop where
  recallTimer : s.cvu.recallTimer.isSome = s.cvu.calling
  askWait : s.rsq.askWait.isSome = (s.rsq.phase == .seeking)
  drain : s.rsq.drainTimer.isSome = (s.rsq.phase == .draining)
  restGuard : s.rsq.restGuard.isSome = s.rsq.recentRecall
  window : s.plu.windowTimer.isSome = s.plu.windowOpen
  beacon : s.lif.beaconTimer.isSome = (s.rsq.phase != .loading && s.rsq.phase != .mute)
  watch : W s.clp s.held
  read : s.cfl.readTimer.isSome = (s.cfl.load == .reading && !s.held)

/-- The link watch runs but while the link is lost or the device held in reset (R158, R166). -/
def WatchRuns (c : CarrierLink) (held : Bool) : Prop := c.watch.isSome = (c.link != .lost && !held)

variable {W : CarrierLink → Bool → Prop} {s t : State}

theorem timersRun_iff : TimersRun s ↔ TimersRunWith WatchRuns s :=
  ⟨fun ⟨call, ask, drain, guard, window, beacon, watch, read⟩ => ⟨call, ask, drain, guard, window, beacon, watch, read⟩,
    fun ⟨call, ask, drain, guard, window, beacon, watch, read⟩ => ⟨call, ask, drain, guard, window, beacon, watch, read⟩⟩

/-! ## What keeps the timers -/

theorem TimersRunWith.rewatch {V : CarrierLink → Bool → Prop} (h : TimersRunWith W s) (watch : V s.clp s.held) :
    TimersRunWith V s := { h with watch := watch }

/-- An operation keeps the timers when it keeps each with what it times. -/
theorem TimersRunWith.step (h : TimersRunWith W s)
    (call : s.cvu.recallTimer.isSome = s.cvu.calling → t.cvu.recallTimer.isSome = t.cvu.calling)
    (ask : s.rsq.askWait.isSome = (s.rsq.phase == .seeking) → t.rsq.askWait.isSome = (t.rsq.phase == .seeking))
    (drain : s.rsq.drainTimer.isSome = (s.rsq.phase == .draining) →
      t.rsq.drainTimer.isSome = (t.rsq.phase == .draining))
    (guard : s.rsq.restGuard.isSome = s.rsq.recentRecall → t.rsq.restGuard.isSome = t.rsq.recentRecall)
    (window : s.plu.windowTimer.isSome = s.plu.windowOpen → t.plu.windowTimer.isSome = t.plu.windowOpen)
    (beacon : s.lif.beaconTimer.isSome = (s.rsq.phase != .loading && s.rsq.phase != .mute) →
      t.lif.beaconTimer.isSome = (t.rsq.phase != .loading && t.rsq.phase != .mute))
    (watch : W s.clp s.held → W t.clp t.held)
    (read : s.cfl.readTimer.isSome = (s.cfl.load == .reading && !s.held) →
      t.cfl.readTimer.isSome = (t.cfl.load == .reading && !t.held)) : TimersRunWith W t :=
  ⟨call h.recallTimer, ask h.askWait, drain h.drain, guard h.restGuard, window h.window, beacon h.beacon,
    watch h.watch, read h.read⟩

/-- An operation that leaves each timer and what it times keeps them. -/
theorem TimersRunWith.same (h : TimersRunWith W s)
    (same :
      t.cvu.recallTimer = s.cvu.recallTimer ∧ t.cvu.book = s.cvu.book ∧ t.rsq.askWait = s.rsq.askWait ∧
        t.rsq.drainTimer = s.rsq.drainTimer ∧ t.rsq.phase = s.rsq.phase ∧ t.rsq.restGuard = s.rsq.restGuard ∧
        t.rsq.recentRecall = s.rsq.recentRecall ∧ t.plu.windowTimer = s.plu.windowTimer ∧
        t.plu.windowOpen = s.plu.windowOpen ∧ t.lif.beaconTimer = s.lif.beaconTimer ∧ t.clp = s.clp ∧ t.cfl = s.cfl ∧
        t.held = s.held) : TimersRunWith W t := by
  obtain ⟨recallTimer, book, ask, drain, phase, guard, recent, window, isOpen, beacon, clp, cfl, held⟩ := same
  apply h.step
  case call => simp [CoverUnit.calling, recallTimer, book]
  all_goals simp [ask, drain, phase, guard, recent, window, isOpen, beacon, clp, cfl, held]

theorem TimersRunWith.bump (h : TimersRunWith W s) (c : Counter) : TimersRunWith W (s.bump c) := h.same (by simp)

theorem TimersRunWith.offer (h : TimersRunWith W s) (n : Notice) : TimersRunWith W (s.offer n) := h.same (by simp)

theorem TimersRunWith.bumpFor {α : Type} (h : TimersRunWith W s) (c : Counter) (l : List α) :
    TimersRunWith W (State.bumpFor c l s) := h.same (by simp)

/-- A move between phases past LOADING and MUTE keeps the timers, when it keeps the ask wait and the drain timer in step with
it. -/
theorem TimersRunWith.move (h : TimersRunWith W s) (cvu : t.cvu = s.cvu)
    (ask : t.rsq.askWait.isSome ↔ t.rsq.phase = .seeking) (drain : t.rsq.drainTimer.isSome ↔ t.rsq.phase = .draining)
    (guard : s.rsq.restGuard.isSome = s.rsq.recentRecall → t.rsq.restGuard.isSome = t.rsq.recentRecall)
    (window : t.plu.windowTimer = s.plu.windowTimer ∧ t.plu.windowOpen = s.plu.windowOpen)
    (beacon : t.lif.beaconTimer = s.lif.beaconTimer)
    (up : (t.rsq.phase = .loading ↔ s.rsq.phase = .loading) ∧ (t.rsq.phase = .mute ↔ s.rsq.phase = .mute))
    (link : t.clp = s.clp) (load : t.cfl = s.cfl) (held : t.held = s.held) : TimersRunWith W t where
  recallTimer := cvu ▸ h.recallTimer
  askWait := Bool.eq_iff_iff.mpr (ask.trans beq_iff_eq.symm)
  drain := Bool.eq_iff_iff.mpr (drain.trans beq_iff_eq.symm)
  restGuard := guard h.restGuard
  window := by rw [window.1, window.2, h.window]
  beacon := by
    rw [beacon, h.beacon, bne, bne, bne, bne, beq_eq_beq.mpr up.1, beq_eq_beq.mpr up.2]
  watch := by
    rw [link, held]
    exact h.watch
  read := by rw [load, held, h.read]

theorem TimersRunWith.askWait_none (h : TimersRunWith W s) (other : s.rsq.phase ≠ .seeking) : s.rsq.askWait = none := by
  simpa [beq_eq_false_iff_ne.mpr other] using h.askWait

theorem TimersRunWith.drainTimer_none (h : TimersRunWith W s) (other : s.rsq.phase ≠ .draining) :
    s.rsq.drainTimer = none := by
  simpa [beq_eq_false_iff_ne.mpr other] using h.drain

/-! ## Wakes and conditions -/

theorem TimersRunWith.formValues (h : TimersRunWith W s) : TimersRunWith W s.formValues := h.same (by simp)

theorem State.startRestGuard_guarded (h : s.rsq.restGuard.isSome = s.rsq.recentRecall) :
    s.startRestGuard.rsq.restGuard.isSome = s.startRestGuard.rsq.recentRecall := by
  unfold State.startRestGuard
  dsimp only
  split_ifs with none set
  · exact h
  · simp [set]
  · simp

theorem TimersRunWith.startRestGuard (h : TimersRunWith W s) : TimersRunWith W s.startRestGuard := by
  apply h.step
  case guard => exact State.startRestGuard_guarded
  all_goals simp

theorem TimersRunWith.abortDrain (h : TimersRunWith W s) (draining : s.rsq.phase = .draining) (cause : WakeCause) :
    TimersRunWith W (s.abortDrain cause) := by
  have awake : TimersRunWith W (((s.onRsq fun q =>
      { q with drainTimer := none, wakeCause := some cause }).resumeToCover).onRsq fun q =>
        { q with cover := none, phase := .awake }) :=
    h.move (by simp) (by simp [h.askWait_none (by simp [draining])]) (by simp) (by simp) (by simp) (by simp)
      (by simp [draining])
      (by simp) (by simp) (by simp)
  unfold State.abortDrain
  dsimp only
  split
  · exact awake.startRestGuard
  · exact awake

theorem TimersRunWith.leaveRest (h : TimersRunWith W s) (resting : s.rsq.phase = .standby ∨ s.rsq.phase = .deep)
    (cause : WakeCause) :
    TimersRunWith W (s.leaveRest cause) := by
  have left (next : Phase) (is : next = .waking ∨ next = .warming) :
      TimersRunWith W (s.onRsq fun q =>
        { q with
          phase := next, wakeCause := some cause, restClock := { q.restClock with mode := .stopped }
          settled := false, unsettled := false }) := by
    have ask := h.askWait_none (by rcases resting with p | p <;> simp [p])
    have drain := h.drainTimer_none (by rcases resting with p | p <;> simp [p])
    refine h.move rfl ?_ ?_ id ⟨rfl, rfl⟩ rfl ?_ rfl rfl rfl
    · rcases is with rfl | rfl <;> simp [ask]
    · rcases is with rfl | rfl <;> simp [drain]
    · rcases resting with p | p <;> rcases is with rfl | rfl <;> simp [p]
  unfold State.leaveRest
  dsimp only
  split
  · exact TimersRunWith.formValues (left _ (by split <;> simp))
  · exact left _ (by split <;> simp)

theorem TimersRunWith.countWake (h : TimersRunWith W s) (cause : WakeCause) :
    TimersRunWith W (s.countWake cause) := h.same (by simp)

theorem TimersRunWith.wake (h : TimersRunWith W s) (cause : WakeCause) : TimersRunWith W (s.wake cause) := by
  unfold State.wake
  split
  case h_1 draining => exact (h.countWake cause).abortDrain (by simpa using draining) cause
  case h_2 standby => exact (h.countWake cause).leaveRest (by simp [standby]) cause
  case h_3 deep => exact (h.countWake cause).leaveRest (by simp [deep]) cause
  all_goals exact h

theorem TimersRunWith.formTerms (h : TimersRunWith W s) :
    TimersRunWith W s.formTerms := doWhen_keeps _ h.formValues (h.formValues.wake .rouse)

theorem TimersRunWith.rouseAtEntry (h : TimersRunWith W s) :
    TimersRunWith W s.rouseAtEntry := doWhen_keeps _ h (h.wake .rouse)

theorem TimersRunWith.setCondition (h : TimersRunWith W s) (old new : Bool) {write : State → State}
    (kept : TimersRunWith W (write s)) :
    TimersRunWith W (s.setCondition old new write) := by
  unfold State.setCondition
  split
  · exact h
  · exact kept.formTerms

theorem TimersRunWith.setLinkLost (h : TimersRunWith W s) (b : Bool) :
    TimersRunWith W (s.setLinkLost b) := h.setCondition _ _ (h.same (by simp))

theorem TimersRunWith.setCarrierFault (h : TimersRunWith WatchRuns s) (b : Bool) :
    TimersRunWith WatchRuns (s.setCarrierFault b) := by
  have written : TimersRunWith WatchRuns (s.onClp fun c => { c with carrierFault := b }) := by
    apply h.step
    case watch => exact id
    all_goals simp
  exact h.setCondition _ _ (doWhen_keeps _ written (written.bump _))

theorem TimersRunWith.setNoCover (h : TimersRunWith W s) (b : Bool) :
    TimersRunWith W (s.setNoCover b) := h.setCondition _ _ (h.same (by simp))

theorem TimersRunWith.setUnsettled (h : TimersRunWith W s) (b : Bool) : TimersRunWith W (s.setUnsettled b) := by
  have written : TimersRunWith W (s.onRsq fun q => { q with unsettled := b }) := h.same (by simp)
  exact h.setCondition _ _ (doWhen_keeps _ written (written.bump _))

/-- The rest guard runs out with RECENT_RECALL (R99). -/
theorem TimersRunWith.restGuardEnds (h : TimersRunWith W s) :
    TimersRunWith W (s.onRsq fun q => { q with restGuard := none }).endRecentRecall := by
  unfold State.endRecentRecall State.setCondition
  split
  next clear =>
    apply h.step
    case guard => exact fun _ => by simpa using clear.symm
    all_goals simp
  next =>
    refine TimersRunWith.formTerms ?_
    apply h.step <;> simp

theorem TimersRunWith.formIsolated (h : TimersRunWith W s) : TimersRunWith W s.formIsolated := by
  unfold State.formIsolated
  exact h.setCondition _ _ (h.same (by simp))

theorem TimersRunWith.formSettled (h : TimersRunWith W s) : TimersRunWith W s.formSettled := by
  unfold State.formSettled
  split
  · exact TimersRunWith.setUnsettled (h.same (by simp)) _
  · exact h

/-! ## The phases -/

theorem TimersRunWith.failDrain (h : TimersRunWith W s) (draining : s.rsq.phase = .draining) : TimersRunWith W s.failDrain :=
  h.move (by simp) (by simp [State.failDrain, h.askWait_none (by simp [draining])]) (by simp [State.failDrain])
    (by simp) (by simp)
    (by simp) (by simp [State.failDrain, draining]) (by simp) (by simp) (by simp)

theorem TimersRunWith.completeWake (h : TimersRunWith W s) (returning : s.rsq.phase = .waking ∨ s.rsq.phase = .warming) :
    TimersRunWith W s.completeWake := by
  have ask := h.askWait_none (by rcases returning with p | p <;> simp [p])
  have drain := h.drainTimer_none (by rcases returning with p | p <;> simp [p])
  have awake : TimersRunWith W (s.resumeToCover.onRsq fun q => { q with cover := none, phase := .awake }) :=
    h.move (by simp) (by simp [ask]) (by simp [drain]) (by simp) (by simp) (by simp)
      (by rcases returning with p | p <;> simp [p]) (by simp) (by simp) (by simp)
  unfold State.completeWake
  split
  · exact awake.startRestGuard
  · exact awake

theorem TimersRunWith.abandonAsk (h : TimersRunWith W s) : TimersRunWith W s.abandonAsk := by
  unfold State.abandonAsk
  split
  next seeking =>
    exact h.move (by simp) (by simp) (by simp [h.drainTimer_none (by simp [seeking])]) (by simp) (by simp) (by simp)
      (by simp [seeking])
      (by simp) (by simp) (by simp)
  next => exact h

theorem TimersRunWith.enterStandby (h : TimersRunWith W s) (draining : s.rsq.phase = .draining) :
    TimersRunWith W s.enterStandby := by
  have ask := h.askWait_none (by simp [draining])
  refine TimersRunWith.rouseAtEntry (TimersRunWith.formSettled (TimersRunWith.bump ?_ _))
  exact h.move rfl (by simp [ask]) (by simp) id ⟨rfl, rfl⟩ rfl (by simp [draining]) rfl rfl rfl

theorem TimersRunWith.enterDeep (h : TimersRunWith W s) (standby : s.rsq.phase = .standby) :
    TimersRunWith W s.enterDeep := by
  have ask := h.askWait_none (by simp [standby])
  have drain := h.drainTimer_none (by simp [standby])
  have entered : TimersRunWith W ((s.onRsq fun q =>
      { q with phase := .deep, settled := false, unsettled := false, doze := 0 }).bump .deepEntries) :=
    h.move (by simp) (by simp [ask]) (by simp [drain]) (by simp) (by simp) (by simp) (by simp [standby]) (by simp) (by simp)
      (by simp)
  unfold State.enterDeep
  dsimp only
  split
  · exact entered.formValues.rouseAtEntry
  · exact entered.rouseAtEntry

theorem TimersRunWith.carrierStep (h : TimersRunWith W s) (condition : CarrierCondition) :
    TimersRunWith W (s.carrierStep condition) := by
  unfold State.carrierStep
  split
  case h_1 => exact h.same (by simp)
  case h_2 draining => exact h.enterStandby draining
  case h_3 draining => exact h.failDrain draining
  case h_4 standby =>
    split
    · exact h.enterDeep standby
    · exact h
  case h_5 waking => exact h.completeWake (.inl waking)
  case h_6 warming => exact h.completeWake (.inr warming)
  case h_7 => exact h

theorem TimersRunWith.startDrain (h : TimersRunWith W s) (seeking : s.rsq.phase = .seeking) :
    TimersRunWith W s.startDrain := by
  have draining : TimersRunWith W ((s.onRsq fun q =>
      { q with
        phase := .draining, askWait := none, drainStep := .drainOrdered
        drainTimer := some (s.clock + s.drainLength), omissions := 0, wakeCause := none }).bump .grantsReceived) :=
    h.move (by simp) (by simp) (by simp) (by simp) (by simp) (by simp) (by simp [seeking]) (by simp) (by simp) (by simp)
  unfold State.startDrain
  dsimp only
  split_ifs
  · exact draining.rouseAtEntry
  · exact draining.wake .orphan

theorem TimersRunWith.takeMiss (h : TimersRunWith W s) (seeking : s.rsq.phase = .seeking) : TimersRunWith W s.takeMiss := by
  have drain := h.drainTimer_none (by simp [seeking])
  unfold State.takeMiss
  refine TimersRunWith.bump ?_ _
  split <;>
    exact h.move rfl (by simp) (by simp [State.startBackoff, drain]) id ⟨rfl, rfl⟩ rfl
      (by simp [State.startBackoff, seeking]) rfl rfl rfl

theorem TimersRunWith.startAttempt (h : TimersRunWith W s) (awake : s.rsq.phase = .awake) (cover amount : Nat) :
    TimersRunWith W (s.startAttempt cover amount) := by
  have drain := h.drainTimer_none (by simp [awake])
  exact h.move (by simp) (by simp [State.startAttempt]) (by simp [State.startAttempt, drain])
    (by simp) (by simp) (by simp) (by simp [State.startAttempt, awake]) (by simp) (by simp) (by simp)

theorem TimersRunWith.evaluateEligibility (h : TimersRunWith W s) (awake : s.rsq.phase = .awake) :
    TimersRunWith W s.evaluateEligibility := by
  unfold State.evaluateEligibility
  dsimp only
  split
  · split
    · split
      · have stays := (s.setCondition_phase s.rsq.noCover false
          (write := fun s => s.onRsq fun q => { q with noCover := false }) rfl).1 awake
        exact (h.setNoCover false).startAttempt stays _ _
      · exact h.setNoCover true
    · exact h.setNoCover true
  · exact h.setNoCover false

theorem TimersRunWith.coverBeacon (h : TimersRunWith W s) (b : Heard) : TimersRunWith W (s.coverBeacon b) := by
  unfold State.coverBeacon
  dsimp only
  split_ifs
  · exact h.wake .orphan
  · exact h.same (by simp)
  · exact TimersRunWith.wake (h.same (by simp)) .orphan
  · exact h.same (by simp)
  · exact h

theorem TimersRunWith.standbyBeaconWork (h : TimersRunWith W s) : TimersRunWith W s.standbyBeaconWork := by
  have counted : TimersRunWith W s.countSettle := by
    unfold State.countSettle
    split_ifs
    · exact TimersRunWith.formSettled (h.same (by simp))
    · exact h
  have woken : TimersRunWith W s.countSettle.settleWake := by
    unfold State.settleWake
    split_ifs
    · exact counted.wake .settle
    · exact counted
  unfold State.standbyBeaconWork State.decideDeep
  split_ifs
  · exact TimersRunWith.bump (woken.same (by simp)) _
  · exact woken

theorem TimersRunWith.placeBeacon (h : TimersRunWith W s) : TimersRunWith W s.placeBeacon := by
  unfold State.placeBeacon
  dsimp only
  split_ifs
  · exact TimersRunWith.offer (TimersRunWith.bump (h.same (by simp)) _) .beacon
  · exact h.same (by simp)
  · exact h.offer .beacon

end Sys2Proof.Machine
end

section
/-! PROOFS. The recall timer with the call it times, and every other timer of a command: what O60 states. -/

namespace Sys2Proof.Machine

variable {W : CarrierLink → Bool → Prop} {s t : State}

/-! ## The call -/

/-- Two pledges of a kept book that are both CALLED are one (R72). -/
theorem BookKept.called_unique {book : List Pledge} (h : BookKept book) {p q : Pledge} (hp : p ∈ book) (hq : q ∈ book)
    (calledP : p.state = .called) (calledQ : q.state = .called) : p = q := by
  have memP : p ∈ book.filter (·.state == .called) := List.mem_filter.mpr ⟨hp, by simp [calledP]⟩
  have memQ : q ∈ book.filter (·.state == .called) := List.mem_filter.mpr ⟨hq, by simp [calledQ]⟩
  obtain ⟨r, is⟩ | empty : (∃ r, book.filter (·.state == .called) = [r]) ∨ book.filter (·.state == .called) = [] := by
    rcases Nat.le_one_iff_eq_zero_or_eq_one.mp h.oneCalled with none | one
    · exact .inr (List.length_eq_zero_iff.mp none)
    · exact .inl (List.length_eq_one_iff.mp one)
  · rw [is, List.mem_singleton] at memP memQ
    exact memP.trans memQ.symm
  · simp [empty] at memP

/-- Two pledges of a kept book for one leaner are one (R55). -/
theorem BookKept.leaner_unique {book : List Pledge} (h : BookKept book) {p q : Pledge} (hp : p ∈ book) (hq : q ∈ book)
    (same : p.leaner = q.leaner) : p = q := List.inj_on_of_nodup_map h.oneEach hp hq same

theorem CoverUnit.calling_iff {c : CoverUnit} : c.calling = true ↔ ∃ p ∈ c.book, p.state = .called := by
  simp [CoverUnit.calling]

/-- The removal of the CALLED pledge ends the call; any other removal leaves it (R74). -/
theorem BookKept.calling_filter {c : CoverUnit} (h : BookKept c.book) {p : Pledge} (held : p ∈ c.book) :
    (c.book.filter (·.leaner != p.leaner)).any (·.state == .called) = (c.calling && p.state != .called) := by
  rw [Bool.eq_iff_iff]
  simp only [List.any_eq_true, List.mem_filter, Bool.and_eq_true, CoverUnit.calling_iff, bne_iff_ne, beq_iff_eq]
  constructor
  · rintro ⟨q, ⟨memQ, other⟩, called⟩
    exact ⟨⟨q, memQ, called⟩, fun calledP => other (congrArg Pledge.leaner (h.called_unique memQ held called calledP))⟩
  · rintro ⟨⟨q, memQ, called⟩, notP⟩
    exact ⟨q, ⟨memQ, fun same => notP (h.leaner_unique memQ held same ▸ called)⟩, called⟩

theorem BookKept.calling_removed {c : CoverUnit} (h : BookKept c.book) {p : Pledge} (held : p ∈ c.book)
    (timer guard : Timer) :
    CoverUnit.calling { book := c.book.filter (·.leaner != p.leaner), recallTimer := timer, recallGuard := guard } =
      (c.calling && p.state != .called) := h.calling_filter held

/-- A change of one leaner's pledge that leaves whether it is CALLED leaves whether one is (R72). -/
theorem calling_changePledge {f : Pledge → Pledge} (same : ∀ p, (f p).state = .called ↔ p.state = .called) (leaner : Nat)
    (book : List Pledge) : (changePledge leaner f book).any (·.state == .called) = book.any (·.state == .called) := by
  rw [changePledge, List.any_map]
  congr 1
  funext p
  rw [Bool.eq_iff_iff, Function.comp_apply, beq_iff_eq, beq_iff_eq]
  split
  · exact same p
  · rfl

/-! ## The operations of the Cover Unit -/

/-- The sequencer's, the line's, the window's, the port's and the loader's timers stay; the recall timer and its call are
given. -/
theorem TimersRunWith.recalls (h : TimersRunWith W s) (call : t.cvu.recallTimer.isSome = t.cvu.calling) (rsq : t.rsq = s.rsq)
    (plu : t.plu = s.plu) (beacon : t.lif.beaconTimer = s.lif.beaconTimer) (clp : t.clp = s.clp) (cfl : t.cfl = s.cfl)
    (held : t.held = s.held) : TimersRunWith W t :=
  h.step (fun _ => call) (by simp [rsq]) (by simp [rsq]) (by simp [rsq]) (by simp [plu]) (by simp [beacon, rsq])
    (by simp [clp, held]) (by simp [cfl, held])

theorem State.startRecall_called {p : Pledge} (counted : Counter) (chosen : chooseRecall s.cvu.book = some p) :
    (s.startRecall counted).cvu.recallTimer.isSome = true ∧ (s.startRecall counted).cvu.calling = true := by
  rw [State.startRecall_cvu counted chosen, CoverUnit.calling_iff]
  refine ⟨rfl, { p with state := .called, attempts := 1 }, ?_, rfl⟩
  exact List.mem_map.mpr ⟨p, (chooseRecall_mem chosen).1, by simp⟩

theorem TimersRunWith.startRecall (h : TimersRunWith W s) (counted : Counter) : TimersRunWith W (s.startRecall counted) := by
  cases chosen : chooseRecall s.cvu.book with
  | none =>
    rw [State.startRecall_none counted chosen]
    exact h
  | some p =>
    obtain ⟨runs, calling⟩ := State.startRecall_called counted chosen
    exact h.recalls (by rw [runs, calling]) (by simp) (by simp) (by simp) (by simp) (by simp) (by simp)

theorem TimersRunWith.continuousCheck (h : TimersRunWith W s) : TimersRunWith W s.continuousCheck := by
  unfold State.continuousCheck
  split
  · exact h.startRecall _
  · exact h

theorem TimersRunWith.coverStage (h : TimersRunWith W s) : TimersRunWith W s.coverStage := by
  have decayed : TimersRunWith W (s.onCvu fun c => { c with book := c.book.map (decayPledge s.profile.shift) }) :=
    h.recalls (by simp [CoverUnit.calling, h.recallTimer, List.any_map, Function.comp_def]) rfl rfl rfl rfl rfl rfl
  unfold State.coverStage State.overloadTest
  dsimp only
  split_ifs
  · exact decayed.continuousCheck
  · exact decayed.startRecall _
  · exact decayed

theorem TimersRunWith.removePledge (h : TimersRunWith W s) (book : BookKept s.cvu.book) {p : Pledge} (held : p ∈ s.cvu.book)
    (cause : RemovalCause) : TimersRunWith W (s.removePledge p cause) := by
  unfold State.removePledge
  cases called : p.state == .called with
  | false =>
    have kept (timer guard : Timer) :=
      (book.calling_removed held timer guard).trans (by rw [bne, called, Bool.not_false, Bool.and_true])
    refine h.recalls ?_ (by simp [doWhen]) (by simp [doWhen]) (by simp [doWhen]) (by simp [doWhen]) (by simp [doWhen])
      (by simp [doWhen])
    simp [doWhen, kept, h.recallTimer]
  | true =>
    have gone (timer guard : Timer) :=
      (book.calling_removed held timer guard).trans (by rw [bne, called, Bool.not_true, Bool.and_false])
    have ended : TimersRunWith W (((s.onCvu fun c => { c with book := c.book.filter (·.leaner != p.leaner) }).bump
        (.removed cause)).onCvu fun c => { c with recallTimer := none }) :=
      h.recalls (by simp [gone]) (by simp) (by simp) (by simp) (by simp) (by simp) (by simp)
    refine TimersRunWith.continuousCheck (doWhen_keeps (guardsRecall cause) ended ?_)
    unfold State.startRecallGuard
    split
    · exact ended
    · apply ended.step
      case call => exact id
      all_goals simp

theorem TimersRunWith.replaceFor (h : TimersRunWith W s) (book : BookKept s.cvu.book) (asker : Nat) :
    TimersRunWith W (s.replaceFor asker) := by
  unfold State.replaceFor
  split
  next p found => exact h.removePledge book (CoverUnit.pledgeOf_some found).1 _
  next => exact h

theorem TimersRunWith.leanerLost (h : TimersRunWith W s) (book : BookKept s.cvu.book) (leaner : Nat) :
    TimersRunWith W (s.leanerLost leaner) := by
  unfold State.leanerLost
  split
  next p found => exact h.removePledge book (CoverUnit.pledgeOf_some found).1 _
  next => exact h

theorem TimersRunWith.takeResume (h : TimersRunWith W s) (book : BookKept s.cvu.book) (sender : Nat) (tag : BitVec 8) :
    TimersRunWith W (s.takeResume sender tag) := by
  unfold State.takeResume
  split
  next p found => exact h.removePledge book (List.mem_of_find?_eq_some found) _
  next => exact h.bump _

theorem TimersRunWith.takeAsk (h : TimersRunWith W s) (book : BookKept s.cvu.book) (sender : BitVec 6) (sector : BitVec 3)
    (tag : BitVec 8) (amount : BitVec 16) : TimersRunWith W (s.takeAsk sender sector tag amount) := by
  have replaced : TimersRunWith W ((s.bump .asksReceived).replaceFor sender.toNat) :=
    (h.bump .asksReceived).replaceFor (by simpa using book) _
  unfold State.takeAsk
  split
  · exact h
  · split
    · exact h.bump _
    · unfold State.answerAsk
      dsimp only
      split
      · exact (replaced.offer _).bump _
      · refine TimersRunWith.bump (TimersRunWith.offer ?_ _) _
        refine replaced.recalls ?_ rfl rfl rfl rfl rfl rfl
        have granted : ((newPledge sender.toNat tag (takenAmount amount)).state == .called) = false := rfl
        simpa [CoverUnit.calling, granted] using replaced.recallTimer

theorem TimersRunWith.leanerBeacon (h : TimersRunWith W s) (book : BookKept s.cvu.book) (b : Heard) :
    TimersRunWith W (s.leanerBeacon b) := by
  unfold State.leanerBeacon
  split
  next => exact h
  next p found =>
    split
    · exact h.removePledge book (CoverUnit.pledgeOf_some found).1 _
    · refine h.recalls ?_ rfl rfl rfl rfl rfl rfl
      exact h.recallTimer.trans (calling_changePledge (by simp) _ _).symm

theorem TimersRunWith.recallTimeout (h : TimersRunWith W s) (book : BookKept s.cvu.book) :
    TimersRunWith W s.recallTimeout := by
  unfold State.recallTimeout
  split
  next none => exact h.recalls (CoverUnit.called_none.mp none).symm rfl rfl rfl rfl rfl rfl
  next p called =>
    obtain ⟨held, is⟩ := CoverUnit.called_some called
    split
    · refine h.recalls ?_ (by simp) (by simp) (by simp) (by simp) (by simp) (by simp)
      rw [State.sendRecall_cvu]
      refine (Eq.trans ?_ (calling_changePledge (by simp) _ _).symm)
      exact (CoverUnit.calling_iff.mpr ⟨p, held, is⟩).symm
    · exact h.removePledge book held _

theorem TimersRunWith.lapsePledges (h : TimersRunWith W s) : TimersRunWith W s.lapsePledges := by
  have aged : TimersRunWith W (s.onCvu fun c => { c with book := (s.cvu.book.map agePledge).filter fun p => !lapses p }) := by
    refine h.recalls (h.recallTimer.trans ?_) rfl rfl rfl rfl rfl rfl
    simp only [CoverUnit.calling, State.onCvu, List.any_filter, List.any_map, Function.comp_def]
    congr 1
    funext p
    cases is : p.state <;> simp [lapses, is]
  exact aged.bumpFor _ _

theorem BookKept.leanerLost (h : BookKept s.cvu.book) (leaner : Nat) : BookKept (s.leanerLost leaner).cvu.book := by
  unfold State.leanerLost
  split
  · exact h.removePledge _ _
  · exact h

theorem BookKept.reportRemoval (h : BookKept s.cvu.book) (station : Nat) : BookKept (s.reportRemoval station).cvu.book := by
  unfold State.reportRemoval
  split
  · exact doWhen_keeps (P := fun s => BookKept s.cvu.book) _ h (by simpa using h)
  · exact h.leanerLost station

theorem TimersRunWith.reportRemoval (h : TimersRunWith W s) (book : BookKept s.cvu.book) (station : Nat) :
    TimersRunWith W (s.reportRemoval station) := by
  unfold State.reportRemoval
  split
  · exact doWhen_keeps _ h (h.wake .orphan)
  · exact h.leanerLost book station

theorem TimersRunWith.reportRemovals (h : TimersRunWith W s) (book : BookKept s.cvu.book) (stations : List Nat) :
    TimersRunWith W (s.reportRemovals stations) := by
  induction stations generalizing s with
  | nil => exact h
  | cons station rest ih => exact ih (h.reportRemoval book station) (book.reportRemoval station)

/-! ## Beacons -/

theorem TimersRunWith.stored (h : TimersRunWith W s) (book : BookKept s.cvu.book) (v : PeerView) (b : Heard) :
    TimersRunWith W (s.stored v b) := by
  have written : TimersRunWith W (s.onPvt fun _ => v) := h.same (by simp)
  exact ((written.formIsolated.leanerBeacon (by simpa using book) b).coverBeacon b).formSettled

theorem TimersRunWith.hearBeacon (h : TimersRunWith W s) (book : BookKept s.cvu.book) (sender : BitVec 6) (sector : BitVec 3)
    (b : BeaconFields) : TimersRunWith W (s.hearBeacon sender sector b) := by
  unfold State.hearBeacon
  split
  · exact h
  split
  · exact h
  split
  · exact h.bump _
  split
  · unfold State.otherSector
    split
    · have removed : TimersRunWith W ((s.onPvt fun v => v.remove sender.toNat).bump .otherSectorRemovals) :=
        TimersRunWith.bump (h.same (by simp)) _
      exact (removed.formIsolated.reportRemoval (by simpa using book) _).formSettled
    · exact h
  · unfold State.storeBeacon
    split
    · exact h.stored book _ _
    · exact h.stored book _ _
    · exact (h.bump _).stored (by simpa using book) _ _
    · exact TimersRunWith.bump (h.same (by simp)) _

theorem TimersRunWith.beaconTimeWork (h : TimersRunWith W s) (book : BookKept s.cvu.book) :
    TimersRunWith W s.beaconTimeWork := by
  have next : TimersRunWith W s.nextBeacon := by
    apply h.step
    all_goals simp [State.nextBeacon]
  have aged : TimersRunWith W ((s.nextBeacon).onPvt PeerView.ageAll) := next.same (by simp)
  have viewed : TimersRunWith W s.nextBeacon.ageView :=
    ((aged.bumpFor _ _).formIsolated).reportRemovals (by simpa using book) _
  exact viewed.lapsePledges.standbyBeaconWork.placeBeacon

/-! ## Arrivals -/

theorem TimersRunWith.takeClash (h : TimersRunWith W s) : TimersRunWith W s.takeClash := by
  have counted : TimersRunWith W (s.bump .clashFrames) := h.bump _
  unfold State.takeClash State.raiseClash
  split
  · exact counted
  · have set : TimersRunWith W ((s.bump .clashFrames).onLif fun l => { l with clash := true }) := counted.same (by simp)
    exact ((set.formTerms.abandonAsk).wake .clash).continuousCheck

theorem TimersRunWith.receive {work : State → State} (h : TimersRunWith W s)
    (kept : ∀ t : State, TimersRunWith W t → t.cvu = s.cvu → t.held = s.held → TimersRunWith W (work t)) :
    TimersRunWith W (State.receive work s) := by
  unfold State.receive
  split
  · exact kept _ (h.same (by simp)) rfl rfl
  · exact h

theorem TimersRunWith.arrive {work : State → State} (h : TimersRunWith W s) (sender : BitVec 6) (kind : Kind)
    (kept : ∀ t : State, TimersRunWith W t → t.cvu = s.cvu → t.held = s.held → TimersRunWith W (work t)) :
    TimersRunWith W (State.arrive sender kind work s) := by
  refine h.receive fun t h cvu held => ?_
  split_ifs
  · exact h.takeClash
  · exact h.bump _
  · exact kept _ (h.bump _) (by simpa using cvu) (by simpa using held)

theorem TimersRunWith.takeGrant (h : TimersRunWith W s) (sender : BitVec 6) (tag : BitVec 8) :
    TimersRunWith W (s.takeGrant sender tag) := by
  have late : TimersRunWith W (s.answerLateGrant sender.toNat tag) := (h.offer _).bump _
  unfold State.takeGrant
  split
  · exact h
  split
  case h_1 seeking =>
    split
    · exact h.startDrain seeking
    · exact late
  case h_7 => exact late
  case h_8 => exact h
  case h_9 => exact h
  all_goals
    split
    · exact h
    · exact late

theorem TimersRunWith.takeDeny (h : TimersRunWith W s) (sender : Nat) (tag : BitVec 8) (reason : Byte) :
    TimersRunWith W (s.takeDeny sender tag reason) := by
  unfold State.takeDeny State.countDeny
  split
  next matching =>
    split
    · exact (h.bump _).takeMiss (by simpa using matching.1)
    · exact h.takeMiss matching.1
  next => exact h

theorem TimersRunWith.takeRecall (h : TimersRunWith W s) (sender : BitVec 6) (tag : BitVec 8) :
    TimersRunWith W (s.takeRecall sender tag) := by
  have counted : TimersRunWith W (s.bump .recallsReceived) := h.bump _
  have answered : TimersRunWith W ((s.bump .recallsReceived).answerRecall sender.toNat tag) := (counted.offer _).bump _
  unfold State.takeRecall
  dsimp only
  split
  · exact h
  split
  case h_1 => exact answered
  case h_2 => exact answered
  case h_6 | h_7 =>
    split
    · exact counted
    · exact answered
  case h_8 => exact h
  case h_9 => exact h
  all_goals
    split
    · exact counted.wake .recall
    · exact answered

/-! ## The window, the profile and the flags -/

theorem TimersRunWith.masked {work : State → State} (h : TimersRunWith W s) (mask : BitVec 8)
    (kept : TimersRunWith W (work s)) :
    TimersRunWith W (State.masked mask work s) := by
  unfold State.masked
  split
  · exact kept
  · exact h.bump _

theorem TimersRunWith.openWindow (h : TimersRunWith W s) (minutes : Nat) : TimersRunWith W (s.openWindow minutes) := by
  unfold State.openWindow
  dsimp only
  split
  next already =>
    apply h.step
    case window => exact fun _ => by simpa using already.symm
    all_goals simp
  next => apply h.step <;> simp

theorem TimersRunWith.closeWindow (h : TimersRunWith W s) (counted : Counter) : TimersRunWith W (s.closeWindow counted) := by
  have closed : TimersRunWith W ((s.onPlu fun p => { p with windowOpen := false, windowTimer := none }).bump counted) := by
    apply h.step <;> simp
  exact ((closed.abandonAsk).wake .close).continuousCheck

theorem TimersRunWith.takeProfile (h : TimersRunWith W s) (number : Byte) : TimersRunWith W (s.takeProfile number) := by
  unfold State.takeProfile
  dsimp only
  split_ifs
  · exact h.bump _
  · exact h.bump _
  · have numbered : TimersRunWith W (((s.bump .profilesTaken).onPlu fun p =>
        { p with activeProfile := BitVec.ofNat 2 number.toNat }).zeroQuiet) := (h.bump .profilesTaken).same (by simp)
    exact numbered.formTerms.bump _

/-! ## The carrier link -/

/-- The backlog and the current order are no timer's. -/
theorem TimersRunWith.queueReply (h : TimersRunWith WatchRuns s) (r : Reply) : TimersRunWith WatchRuns (s.queueReply r) := by
  unfold State.queueReply
  split
  · apply h.step <;> simp [WatchRuns]
  · exact h.bump _

theorem TimersRunWith.replyToSample (h : TimersRunWith WatchRuns s) : TimersRunWith WatchRuns s.replyToSample := by
  have ordered : TimersRunWith WatchRuns (s.onClp fun c => { c with currentOrder := s.rsq.order }) := by
    apply h.step <;> simp [WatchRuns]
  exact ordered.queueReply _

theorem TimersRunWith.portStage (h : TimersRunWith WatchRuns s) (out : s.held = false) (condition : CarrierCondition) :
    TimersRunWith WatchRuns (s.portStage condition) := by
  have started {r : State} (h : TimersRunWith (fun c held => c.link = .up ∧ held = false) r) :
      TimersRunWith WatchRuns ((r.onClp fun c =>
        { c with watch := some (s.clock + Config.linkWatch), lastCondition := some condition }).setCarrierFault
          (condition == .fault)) := by
    obtain ⟨link, held⟩ := h.watch
    refine TimersRunWith.setCarrierFault (TimersRunWith.rewatch (W := fun _ _ => True) ?_ ?_) _
    · apply (h.rewatch (V := fun _ _ => True) trivial).step <;> simp
    · simp [WatchRuns, link, held]
  have up : TimersRunWith (fun c held => c.link = .up ∧ held = false)
      ((s.bump .validSamples).onClp fun c => { c with link := .up }) := by
    refine TimersRunWith.rewatch (W := fun _ _ => True) ?_ ⟨rfl, out⟩
    apply (h.rewatch (V := fun _ _ => True) trivial).step <;> simp
  unfold State.portStage
  dsimp only
  split
  · exact started ((up.bump _).setLinkLost false)
  · exact started up

theorem TimersRunWith.sampleStages (h : TimersRunWith W s) (u : BitVec 10) (n : BitVec 11) (condition : CarrierCondition)
    (arrivedAwake : Bool) : TimersRunWith W (s.sampleStages u n condition arrivedAwake) := by
  have used : TimersRunWith W (s.useSample u n arrivedAwake) := h.same (by simp)
  unfold State.sampleStages
  split
  · exact h
  · split
    · unfold State.eligibilityStage
      split
      next awake => exact (used.coverStage.carrierStep condition).evaluateEligibility awake.2
      next => exact used.coverStage.carrierStep condition
    · exact (h.bump _).carrierStep condition

theorem TimersRunWith.loseLink (h : TimersRunWith W s) : TimersRunWith W s.loseLink := by
  unfold State.loseLink
  split
  · exact h
  · have blinded : TimersRunWith W (s.onLde fun e =>
        { e with quiet := 0, state := if e.state = .tracking then .blind else e.state }) := h.same (by simp)
    exact ((blinded.setLinkLost true).abandonAsk).continuousCheck

/-! ## The load and the resets -/

theorem TimersRunWith.leaveLoading (h : TimersRunWith W s) (loading : s.rsq.phase = .loading) (loaded : Loaded) :
    TimersRunWith W (s.leaveLoading loaded) := by
  have ask := h.askWait_none (by simp [loading])
  have drain := h.drainTimer_none (by simp [loading])
  generalize is : (s.onCfl fun c =>
    { c with image := loaded.image, configBad := loaded.configBad, clampCount := loaded.clampCount, load := .done
             readTimer := none }) = inForce
  have timed : TimersRunWith W ((inForce.onRsq fun q => { q with phase := inForce.exitPhase, wakeCause := none }).onLif
      fun l =>
        { l with
          receiver := .waiting
          beaconTimer := if inForce.exitPhase = .mute then none else some (s.clock + inForce.stagger) }) := by
    have phases := inForce.exitPhase_cases
    subst is
    apply h.step
    case ask => rcases phases with p | p | p <;> simp [p, ask]
    case drain => rcases phases with p | p | p <;> simp [p, drain]
    case beacon => rcases phases with p | p | p <;> simp [p]
    all_goals simp
  unfold State.leaveLoading
  dsimp only
  rw [is]
  have counted := doWhen_keeps (P := TimersRunWith W) loaded.configBad (timed.bump .loadingExits)
    ((timed.bump .loadingExits).bump .fallbackLoads)
  exact TimersRunWith.formValues (counted.same (by simp))

theorem TimersRunWith.endRead {work : State → State} (h : TimersRunWith W s) (loading : LoadingKept s)
    (kept : s.rsq.phase = .loading → TimersRunWith W (work s)) : TimersRunWith W (State.endRead work s) := by
  unfold State.endRead
  split
  next reading => exact kept (loading.1.mpr reading)
  next => exact h

theorem TimersRunWith.lineRestart (h : TimersRunWith W s) (out : s.held = false) (straps : BitVec 6) :
    TimersRunWith W (s.lineRestart straps) where
  recallTimer := by simp [State.lineRestart, State.emptyBook, CoverUnit.calling]
  askWait := rfl
  drain := rfl
  restGuard := rfl
  window := rfl
  beacon := rfl
  watch := by simpa [State.lineRestart] using h.watch
  read := by simp [State.lineRestart, out]

theorem timersRun_powerUp (straps : BitVec 6) (s : State) : TimersRun (s.powerUp straps) :=
  ⟨rfl, rfl, rfl, rfl, rfl, rfl, rfl, rfl⟩

theorem timersRun_enterReset (s : State) : TimersRun s.enterReset := ⟨rfl, rfl, rfl, rfl, rfl, rfl, rfl, rfl⟩

/-! ## Status and the line -/

theorem TimersRunWith.answerStatus (h : TimersRunWith W s) (asker : Nat) (page : BitVec 3) (clear : Bool) :
    TimersRunWith W (s.answerStatus asker page clear) := by
  unfold State.answerStatus
  dsimp only
  split
  · have advanced : TimersRunWith W (s.onAcc fun a => a.advance page.toNat) := h.same (by simp)
    exact TimersRunWith.offer (doWhen_keeps _ advanced (advanced.same (by simp [State.clearCounters]))) _
  · exact (h.bump _).offer _

theorem TimersRunWith.ignoreFrame (h : TimersRunWith W s) (f : Frame) : TimersRunWith W (s.ignoreFrame f) := by
  unfold State.ignoreFrame
  split
  · exact h.takeClash
  · exact h.bump _
  · exact h
  · exact h.bump _
  · exact h.bump _
  · exact h

theorem TimersRunWith.onQueue (h : TimersRunWith W s) {f : LineInterface → LineInterface}
    (same : (f s.lif).beaconTimer = s.lif.beaconTimer) : TimersRunWith W (s.onLif f) := h.same (by simp [same])

theorem TimersRunWith.expiring {work : State → State} (h : TimersRunWith W s) (timer : State → Timer)
    (kept : TimersRunWith W (work s)) : TimersRunWith W (State.expiring timer work s) := by
  unfold State.expiring
  split
  · exact kept
  · exact h

/-! ## Every command -/

theorem TimersRunWith.commandWork (h : TimersRunWith WatchRuns s) (kept : s.Inv) (i : Instr)
    (out : s.held = true → actsInReset i = true) : TimersRunWith WatchRuns (commandWork i s) := by
  have book := kept.book
  cases i with
  | powerOn _ straps => exact timersRun_iff.mp (timersRun_powerUp straps s)
  | readComplete _ record => exact h.endRead kept.loading fun loading => h.leaveLoading loading _
  | readAbsent =>
    dsimp only [Machine.commandWork]
    refine h.endRead kept.loading fun loading => ?_
    exact (h.bump _).leaveLoading (by simpa using loading) _
  | readTimerExpiry =>
    dsimp only [Machine.commandWork]
    refine h.expiring _ (h.endRead kept.loading fun loading => ?_)
    exact (h.bump _).leaveLoading (by simpa using loading) _
  | validSample _ u n condition =>
    exact ((h.portStage (by simpa [actsInReset] using out) condition).sampleStages u n condition _).replyToSample
  | linkBadRecord => exact h.bump _
  | unrecognizedRecord => exact (h.bump _).queueReply _
  | replySent =>
    dsimp only [Machine.commandWork]
    split
    · exact h
    · refine TimersRunWith.bump ?_ _
      apply h.step <;> simp [WatchRuns]
  | linkWatchExpiry =>
    dsimp only [Machine.commandWork]
    refine h.expiring _ (TimersRunWith.loseLink (TimersRunWith.bump ?_ _))
    apply h.step <;> simp [WatchRuns]
  | transmissionAttempt =>
    dsimp only [Machine.commandWork]
    split
    · exact h.onQueue rfl
    · exact h
  | contentionLoss =>
    dsimp only [Machine.commandWork]
    split
    · exact (h.onQueue rfl).bump _
    · exact h
  | abandon =>
    dsimp only [Machine.commandWork]
    split
    next => exact h
    next =>
      split
      · exact ((h.onQueue rfl).bump _).bump _
      · exact (h.onQueue rfl).bump _
  | attemptComplete =>
    dsimp only [Machine.commandWork]
    split
    next => exact h
    next => exact (h.onQueue rfl).bump _
  | frameDiscarded _ why => exact h.receive fun t h _ _ => h.bump _
  | clashFrame => exact h.receive fun t h _ _ => h.takeClash
  | frameIgnored _ frame => exact h.receive fun t h _ _ => h.ignoreFrame frame
  | beacon _ sender sector fields =>
    exact h.arrive sender _ fun t h cvu _ => h.hearBeacon (cvu ▸ book) sender sector fields
  | coverAsk _ sender sector tag amount =>
    exact h.arrive sender _ fun t h cvu _ => h.takeAsk (cvu ▸ book) sender sector tag amount
  | resume _ sender tag => exact h.arrive sender _ fun t h cvu _ => h.takeResume (cvu ▸ book) _ tag
  | coverGrant _ sender tag _ => exact h.arrive sender _ fun t h _ _ => h.takeGrant sender tag
  | coverDeny _ sender tag reason _ => exact h.arrive sender _ fun t h _ _ => h.takeDeny _ tag reason
  | windowOpen _ sender duration mask => exact h.arrive sender _ fun t h _ _ => h.masked mask (h.openWindow _)
  | windowClose _ sender mask =>
    exact h.arrive sender _ fun t h _ _ => h.masked mask (doWhen_keeps _ (h.bump _) ((h.bump _).closeWindow _))
  | windowTimerExpiry =>
    dsimp only [Machine.commandWork]
    exact h.expiring _ (h.closeWindow _)
  | flags _ sender actions mask =>
    exact h.arrive sender _ fun t h _ _ => h.masked mask (TimersRunWith.formTerms (h.same (by simp)))
  | profile _ sender number mask => exact h.arrive sender _ fun t h _ _ => h.masked mask (h.takeProfile number)
  | askStatus _ sender page clear => exact h.arrive sender _ fun t h _ _ => h.answerStatus _ page clear
  | restart _ sender straps =>
    exact h.arrive sender _ fun t h _ held => h.lineRestart (held.trans (by simpa [actsInReset] using out)) straps
  | statusArrival _ sender => exact h.arrive sender _ fun t h _ _ => h
  | ownBeaconTime =>
    dsimp only [Machine.commandWork]
    exact h.expiring _ (h.beaconTimeWork book)
  | askWaitExpiry =>
    dsimp only [Machine.commandWork]
    refine h.expiring _ ?_
    split
    next seeking => exact (h.bump _).takeMiss (by simpa using seeking)
    next other =>
      apply h.step
      case ask => simp [other]
      all_goals simp
  | backoffExpiry =>
    dsimp only [Machine.commandWork]
    exact h.expiring _ (h.same (by simp))
  | drainTimerExpiry =>
    dsimp only [Machine.commandWork]
    refine h.expiring _ ?_
    split
    next draining => exact h.failDrain draining
    next other =>
      apply h.step
      case drain => simp [other]
      all_goals simp
  | recallTimerExpiry =>
    dsimp only [Machine.commandWork]
    exact h.expiring _ (h.recallTimeout book)
  | recallGuardExpiry =>
    dsimp only [Machine.commandWork]
    exact h.expiring _ (h.same (by simp))
  | restGuardExpiry =>
    dsimp only [Machine.commandWork]
    exact h.expiring _ h.restGuardEnds
  | heldInReset => exact timersRun_iff.mp (timersRun_enterReset s)
  | lineIdle =>
    dsimp only [Machine.commandWork]
    split
    · exact h
    · exact doWhen_keeps _ (h.onQueue rfl) ((h.onQueue rfl).bump _)
  | _ _ sender tag =>
    -- The RECALL: its constructor bears the name of a Lean command and cannot be written here.
    exact h.arrive sender _ fun t h _ _ => h.takeRecall sender tag

/-- Settles O60: each timer is kept in step with what it times by every operation, and so by the work of every command; a
device held in reset runs neither the watch nor the read timer, so no command but a reset works there. -/
theorem stepKeepsTimersRunning : Obligations.StepKeepsTimersRunning := by
  intro s t inv timers taken
  have kept : t.Inv ∧ TimersRunWith WatchRuns t :=
    step_keeps (P := fun s => s.Inv ∧ TimersRunWith WatchRuns s) (fun _ l h => ⟨h.1.pending l, h.2.same (by simp)⟩)
      (fun _ after h => ⟨h.1.elapse after, h.2.same (by simp)⟩)
      (fun _ i out h => ⟨h.1.commandWork i, h.2.commandWork h.1 i out⟩) ⟨inv, timersRun_iff.mp timers⟩ taken
  exact timersRun_iff.mpr kept.2

end Sys2Proof.Machine
end

section
/-! PROOFS. The term values, and the conditions and marks formed from the view, under the operations of the blocks. Between a
change of the view and the forming of settlement, settled and UNSETTLED may lag behind the view in STANDBY alone. -/

namespace Sys2Proof.Machine

variable {seen : Bool} {s t : State}

/-! ## The marks -/

/-- The conditions and marks of ConditionsFormed; those of settlement follow the view in STANDBY when `seen` says so. -/
structure MarksFormed (seen : Bool) (s : State) : Prop where
  isolated : s.pvt.isolated = (s.rsq.phase != .loading && s.rsq.phase != .mute && !s.pvt.entries.any viewFresh)
  outside : s.rsq.phase ≠ .standby → s.rsq.settled = false ∧ s.rsq.unsettled = false
  inside : seen = true → s.rsq.phase = .standby →
    s.rsq.settled = s.pvt.allSeen ∧ s.rsq.unsettled = (!s.pvt.allSeen && s.rsq.settleCount == Config.settleLimit)
  full : s.pvt.viewFull = true → s.pvt.hasFree = false

/-- The terms and the marks formed. -/
structure FormedAs (seen : Bool) (s : State) : Prop where
  terms : TermsFormed s
  marks : MarksFormed seen s

theorem conditionsFormed_iff : ConditionsFormed s ↔ MarksFormed true s := by
  constructor
  · rintro ⟨isolated, settled, unsettled, full⟩
    refine ⟨isolated, fun out => ?_, fun _ standby => ?_, full⟩
    · rw [settled, unsettled, beq_eq_false_iff_ne.mpr out]
      exact ⟨rfl, rfl⟩
    · rw [settled, unsettled, standby]
      exact ⟨rfl, rfl⟩
  · rintro ⟨isolated, outside, inside, full⟩
    by_cases standby : s.rsq.phase = .standby
    · obtain ⟨settled, unsettled⟩ := inside rfl standby
      exact ⟨isolated, by simp [settled, standby], by simp [unsettled, standby], full⟩
    · obtain ⟨settled, unsettled⟩ := outside standby
      exact ⟨isolated, by simp [settled, beq_eq_false_iff_ne.mpr standby], by
        simp [unsettled, beq_eq_false_iff_ne.mpr standby], full⟩

/-- The view shows the same to the conditions: whether an entry is FRESH, whether all are seen, whether a slot is free. -/
structure SameShown (v w : PeerView) : Prop where
  fresh : w.entries.any viewFresh = v.entries.any viewFresh
  allSeen : w.allSeen = v.allSeen
  free : w.hasFree = v.hasFree
  isolated : w.isolated = v.isolated
  full : w.viewFull = v.viewFull

theorem SameShown.of_eq {v w : PeerView} (same : w = v) : SameShown v w := same ▸ ⟨rfl, rfl, rfl, rfl, rfl⟩

theorem MarksFormed.lag (h : MarksFormed seen s) : MarksFormed false s := { h with inside := fun is => by simp at is }

theorem MarksFormed.congr (h : MarksFormed seen s) (phase : t.rsq.phase = s.rsq.phase) (shown : SameShown s.pvt t.pvt)
    (settled : t.rsq.settled = s.rsq.settled) (unsettled : t.rsq.unsettled = s.rsq.unsettled)
    (count : t.rsq.settleCount = s.rsq.settleCount) : MarksFormed seen t where
  isolated := by rw [shown.isolated, shown.fresh, phase, h.isolated]
  outside := by simpa only [phase, settled, unsettled] using h.outside
  inside := by simpa only [phase, settled, unsettled, count, shown.allSeen] using h.inside
  full := by simpa only [shown.full, shown.free] using h.full

/-- In a phase other than STANDBY, past LOADING and MUTE or not as before, settled and UNSETTLED are false. -/
theorem MarksFormed.move (h : MarksFormed seen s) (pvt : t.pvt = s.pvt) (out : t.rsq.phase ≠ .standby)
    (up : (t.rsq.phase = .loading ↔ s.rsq.phase = .loading) ∧ (t.rsq.phase = .mute ↔ s.rsq.phase = .mute))
    (settled : t.rsq.settled = false ∧ t.rsq.unsettled = false) {any : Bool} : MarksFormed any t where
  isolated := by rw [pvt, h.isolated, bne, bne, bne, bne, beq_eq_beq.mpr up.1, beq_eq_beq.mpr up.2]
  outside := fun _ => settled
  inside := fun _ is => absurd is out
  full := pvt ▸ h.full

theorem MarksFormed.formValues (h : MarksFormed seen s) : MarksFormed seen s.formValues :=
  h.congr (by simp) (.of_eq (by simp)) (by simp) (by simp) (by simp)

theorem MarksFormed.wake (h : MarksFormed seen s) (cause : WakeCause) : MarksFormed seen (s.wake cause) := by
  have up := s.wake_phase_iff cause
  by_cases draining : s.rsq.phase = .draining
  · refine h.move (by simp) (by simp [State.wake_draining cause draining]) ⟨up.2.1, up.2.2.1⟩ ?_
    rw [State.wake_of_draining cause draining]
    simpa using h.outside (by simp [draining])
  by_cases resting : s.rsq.phase = .standby ∨ s.rsq.phase = .deep
  · obtain ⟨phase, -, -, -, settled, unsettled⟩ := State.wake_resting cause resting
    refine h.move (by simp) ?_ ⟨up.2.1, up.2.2.1⟩ ⟨settled, unsettled⟩
    rw [phase]
    split_ifs <;> simp
  · rw [not_or] at resting
    rw [State.wake_ignored cause draining resting.1 resting.2]
    exact h

theorem MarksFormed.formTerms (h : MarksFormed seen s) : MarksFormed seen s.formTerms :=
  doWhen_keeps _ h.formValues (h.formValues.wake .rouse)

/-! ## The terms -/

/-- In LOADING both values are false (R131). -/
def LoadingQuiet (s : State) : Prop := s.rsq.phase = .loading → s.plu.hold = false ∧ s.plu.rouse = false

theorem TermsFormed.loadingQuiet (h : TermsFormed s) : LoadingQuiet s := fun loading => by
  simpa [TermsFormed, loading] using h

/-- A forming with its report leaves the terms formed, in LOADING too (R131, R132). -/
theorem LoadingQuiet.formTerms (h : LoadingQuiet s) : TermsFormed s.formTerms := by
  by_cases loading : s.rsq.phase = .loading
  · obtain ⟨hold, rouse⟩ := h loading
    have same : TermsFormed s := by simp [TermsFormed, loading, hold, rouse]
    rwa [same.formTerms]
  · exact termsFormed_formTerms loading

theorem TermsFormed.startRestGuard (h : TermsFormed s) (up : s.rsq.phase ≠ .loading) : TermsFormed s.startRestGuard := by
  unfold State.startRestGuard
  dsimp only
  split_ifs
  · exact h
  · exact h.congr .rfl (fun _ => rfl) rfl rfl rfl
  · exact termsFormed_formValues (by simpa using up)

theorem FormedAs.wake (h : FormedAs seen s) (cause : WakeCause) : FormedAs seen (s.wake cause) := by
  refine ⟨?_, h.marks.wake cause⟩
  by_cases recalled : cause = .recall
  · subst recalled
    rcases s.wake_cases .recall with ⟨draining, wake⟩ | ⟨resting, wake⟩ | ignored
    · rw [wake, State.abortDrain, if_pos rfl]
      refine TermsFormed.startRestGuard (h.terms.congr (by simp [draining]) (fun code => ?_) ?_ (by simp) (by simp)) (by simp)
      · exact State.condition_congr (by simp) (by simp) (by simp) (by simp) (by simp) (by simp) (by simp) (by simp) code
      · simp [State.profile, State.image]
    · rw [wake]
      exact (h.terms.countWake .recall).leaveRest .recall (by simpa using resting)
    · rw [ignored]
      exact h.terms
  · exact h.terms.wake recalled

/-! ## What keeps the forming -/

/-- An operation that leaves the phase, the suppliers of the conditions, the active profile and the values, and what the view
shows, keeps the forming. -/
theorem FormedAs.same (h : FormedAs seen s)
    (same :
      t.rsq.phase = s.rsq.phase ∧ t.rsq.settled = s.rsq.settled ∧ t.rsq.unsettled = s.rsq.unsettled ∧
        t.rsq.settleCount = s.rsq.settleCount ∧ t.rsq.noCover = s.rsq.noCover ∧
        t.rsq.recentRecall = s.rsq.recentRecall ∧ t.lde.linkLost = s.lde.linkLost ∧
        t.clp.carrierFault = s.clp.carrierFault ∧ t.lif.clash = s.lif.clash ∧ t.plu.flags = s.plu.flags ∧
        t.plu.activeProfile = s.plu.activeProfile ∧ t.plu.hold = s.plu.hold ∧ t.plu.rouse = s.plu.rouse ∧
        t.cfl.image = s.cfl.image)
    (shown : SameShown s.pvt t.pvt) : FormedAs seen t := by
  obtain ⟨phase, settled, unsettled, count, noCover, recalled, linkLost, fault, clash, flags, active, hold, rouse, image⟩ := same
  refine ⟨h.terms.congr (by rw [phase]) ?_ (by rw [State.profile, State.profile, State.image, State.image, image, active])
    hold rouse, h.marks.congr phase shown settled unsettled count⟩
  exact State.condition_congr linkLost fault noCover unsettled recalled clash shown.isolated flags

/-- An operation that leaves the view as well keeps the forming. -/
theorem FormedAs.keep (h : FormedAs seen s)
    (same :
      t.rsq.phase = s.rsq.phase ∧ t.rsq.settled = s.rsq.settled ∧ t.rsq.unsettled = s.rsq.unsettled ∧
        t.rsq.settleCount = s.rsq.settleCount ∧ t.rsq.noCover = s.rsq.noCover ∧
        t.rsq.recentRecall = s.rsq.recentRecall ∧ t.lde.linkLost = s.lde.linkLost ∧
        t.clp.carrierFault = s.clp.carrierFault ∧ t.lif.clash = s.lif.clash ∧ t.plu.flags = s.plu.flags ∧
        t.plu.activeProfile = s.plu.activeProfile ∧ t.plu.hold = s.plu.hold ∧ t.plu.rouse = s.plu.rouse ∧
        t.cfl.image = s.cfl.image ∧ t.pvt = s.pvt) : FormedAs seen t := by
  obtain ⟨phase, settled, unsettled, count, noCover, recalled, linkLost, fault, clash, flags, active, hold, rouse, image,
    pvt⟩ := same
  exact h.same ⟨phase, settled, unsettled, count, noCover, recalled, linkLost, fault, clash, flags, active, hold, rouse,
    image⟩ (.of_eq pvt)

theorem FormedAs.bump (h : FormedAs seen s) (c : Counter) : FormedAs seen (s.bump c) := h.keep (by simp)

theorem FormedAs.offer (h : FormedAs seen s) (n : Notice) : FormedAs seen (s.offer n) := h.keep (by simp)

theorem FormedAs.bumpFor {α : Type} (h : FormedAs seen s) (c : Counter) (l : List α) :
    FormedAs seen (State.bumpFor c l s) := h.keep (by simp)

/-- A move between phases past LOADING and MUTE, none of them STANDBY, keeps the forming: its settled and UNSETTLED are
false. -/
theorem FormedAs.move (h : FormedAs seen s) (out : s.rsq.phase ≠ .standby ∧ t.rsq.phase ≠ .standby)
    (up : (t.rsq.phase = .loading ↔ s.rsq.phase = .loading) ∧ (t.rsq.phase = .mute ↔ s.rsq.phase = .mute))
    (same :
      t.rsq.settled = s.rsq.settled ∧ t.rsq.unsettled = s.rsq.unsettled ∧ t.rsq.noCover = s.rsq.noCover ∧
        t.rsq.recentRecall = s.rsq.recentRecall ∧ t.lde.linkLost = s.lde.linkLost ∧
        t.clp.carrierFault = s.clp.carrierFault ∧ t.lif.clash = s.lif.clash ∧ t.plu.flags = s.plu.flags ∧
        t.plu.activeProfile = s.plu.activeProfile ∧ t.plu.hold = s.plu.hold ∧ t.plu.rouse = s.plu.rouse ∧
        t.cfl.image = s.cfl.image ∧ t.pvt = s.pvt) {any : Bool} : FormedAs any t := by
  obtain ⟨settled, unsettled, noCover, recalled, linkLost, fault, clash, flags, active, hold, rouse, image, pvt⟩ := same
  refine ⟨h.terms.congr up.1 ?_ (by rw [State.profile, State.profile, State.image, State.image, image, active])
    hold rouse, h.marks.move pvt out.2 up (by rw [settled, unsettled]; exact h.marks.outside out.1)⟩
  exact State.condition_congr linkLost fault noCover unsettled recalled clash (by rw [pvt]) flags

/-! ## Conditions -/

/-- Marks formed and the values false in LOADING: a forming completes both. -/
theorem MarksFormed.formAll (h : MarksFormed seen s) (quiet : LoadingQuiet s) : FormedAs seen s.formTerms :=
  ⟨quiet.formTerms, h.formTerms⟩

theorem FormedAs.setCondition (h : FormedAs seen s) (old new : Bool) {write : State → State}
    (marks : MarksFormed seen (write s)) (quiet : LoadingQuiet (write s)) : FormedAs seen (s.setCondition old new write) := by
  unfold State.setCondition
  split
  · exact h
  · exact marks.formAll quiet

theorem FormedAs.setLinkLost (h : FormedAs seen s) (b : Bool) : FormedAs seen (s.setLinkLost b) :=
  h.setCondition _ _ (h.marks.congr rfl (.of_eq rfl) rfl rfl rfl) h.terms.loadingQuiet

theorem FormedAs.setCarrierFault (h : FormedAs seen s) (b : Bool) : FormedAs seen (s.setCarrierFault b) := by
  refine h.setCondition _ _ ?_ ?_
  · cases b <;> exact h.marks.congr rfl (.of_eq rfl) rfl rfl rfl
  · cases b <;> exact h.terms.loadingQuiet

theorem FormedAs.setNoCover (h : FormedAs seen s) (b : Bool) : FormedAs seen (s.setNoCover b) :=
  h.setCondition _ _ (h.marks.congr rfl (.of_eq rfl) rfl rfl rfl) h.terms.loadingQuiet

theorem FormedAs.endRecentRecall (h : FormedAs seen s) : FormedAs seen s.endRecentRecall :=
  h.setCondition _ _ (h.marks.congr rfl (.of_eq rfl) rfl rfl rfl) h.terms.loadingQuiet

/-- ISOLATED is formed: with it the marks are those of the view as it stands (R53). -/
theorem FormedAs.formIsolated (terms : TermsFormed s)
    (marks : MarksFormed seen (s.onPvt fun v =>
      { v with isolated := !(s.rsq.phase == .loading || s.rsq.phase == .mute) && !s.pvt.entries.any viewFresh })) :
    FormedAs seen s.formIsolated := by
  unfold State.formIsolated State.setCondition
  dsimp only
  split
  next same =>
    rw [← same] at marks
    exact ⟨terms, marks⟩
  next => exact marks.formAll terms.loadingQuiet

/-- Settled and UNSETTLED are formed in STANDBY: with them the marks are those of the view as it stands (R107, R108). -/
theorem FormedAs.formSettled (h : FormedAs seen s) : FormedAs true s.formSettled := by
  unfold State.formSettled
  split
  next standby =>
    dsimp only
    generalize new : (!s.pvt.allSeen && s.rsq.settleCount == Config.settleLimit) = b
    have marks (bumped : State) (is : bumped = (s.onRsq fun q => { q with settled := s.pvt.allSeen, unsettled := b }) ∨
        bumped = (s.onRsq fun q => { q with settled := s.pvt.allSeen, unsettled := b }).bump .unsettledRaisings) :
        MarksFormed true bumped := by
      refine ⟨?_, ?_, ?_, ?_⟩
      · rcases is with rfl | rfl <;> simpa using h.marks.isolated
      · rcases is with rfl | rfl <;> simp [standby]
      · rcases is with rfl | rfl <;> simp [new]
      · rcases is with rfl | rfl <;> simpa using h.marks.full
    unfold State.setUnsettled State.setCondition
    split
    next same =>
      refine ⟨h.terms.congr .rfl (fun _ => rfl) rfl rfl rfl, marks _ (.inl ?_)⟩
      simp only [State.onRsq_rsq] at same
      rw [← same]
      rfl
    next =>
      refine MarksFormed.formAll (marks _ ?_) (by cases b <;> simp [doWhen, LoadingQuiet, standby])
      cases b
      · exact .inl rfl
      · exact .inr rfl
  next out => exact ⟨h.terms, { h.marks with inside := fun _ is => absurd is out }⟩

theorem FormedAs.rouseAtEntry (h : FormedAs seen s) : FormedAs seen s.rouseAtEntry := doWhen_keeps _ h (h.wake .rouse)

end Sys2Proof.Machine
end

section
/-! PROOFS. The terms, the conditions and the marks under every command: what O59 states. -/

namespace Sys2Proof.Machine

variable {seen : Bool} {s t : State}

/-! ## The phases -/

theorem FormedAs.startRestGuard (h : FormedAs seen s) (up : s.rsq.phase ≠ .loading) : FormedAs seen s.startRestGuard :=
  ⟨h.terms.startRestGuard up, h.marks.congr (by simp) (.of_eq (by simp)) (by simp) (by simp) (by simp)⟩

theorem FormedAs.failDrain (h : FormedAs seen s) (draining : s.rsq.phase = .draining) : FormedAs seen s.failDrain :=
  h.move (by simp [draining, State.failDrain]) (by simp [draining, State.failDrain]) (by simp)

theorem FormedAs.completeWake (h : FormedAs seen s) (returning : s.rsq.phase = .waking ∨ s.rsq.phase = .warming) :
    FormedAs seen s.completeWake := by
  have awake : FormedAs seen (s.resumeToCover.onRsq fun q => { q with cover := none, phase := .awake }) := by
    refine h.move ?_ ?_ (by simp)
    · rcases returning with is | is <;> simp [is]
    · rcases returning with is | is <;> simp [is]
  unfold State.completeWake
  split
  · exact awake.startRestGuard (by simp)
  · exact awake

theorem FormedAs.abandonAsk (h : FormedAs seen s) : FormedAs seen s.abandonAsk := by
  unfold State.abandonAsk
  split
  next seeking => exact h.move (by simp [seeking]) (by simp [seeking]) (by simp)
  next => exact h

/-- Clearing the seen-us marks leaves what ISOLATED and VIEW_FULL read (R51). -/
theorem PeerView.clearSeen_shown (v : PeerView) :
    v.clearSeen.entries.any viewFresh = v.entries.any viewFresh ∧ v.clearSeen.hasFree = v.hasFree := by
  constructor
  · rw [PeerView.entries_eq, PeerView.clearSeen, entries_map, List.any_map]
    rfl
  · simp only [PeerView.hasFree, PeerView.clearSeen, List.any_map]
    congr 1
    funext slot
    cases slot <;> rfl

/-- The entry into STANDBY: the marks of settlement are formed at once (R94, R107). -/
theorem FormedAs.enterStandby (h : FormedAs seen s) (draining : s.rsq.phase = .draining) : FormedAs true s.enterStandby := by
  refine FormedAs.rouseAtEntry (FormedAs.formSettled (seen := false) (FormedAs.bump ⟨?_, ?_⟩ _))
  · exact h.terms.congr (by simp [draining]) (State.condition_congr rfl rfl rfl rfl rfl rfl rfl rfl) rfl rfl rfl
  · obtain ⟨fresh, free⟩ := s.pvt.clearSeen_shown
    refine ⟨?_, by simp, by simp, ?_⟩
    · have isolated := h.marks.isolated
      rw [draining] at isolated
      exact isolated.trans (congrArg (fun b => !b) fresh.symm)
    · simpa [free] using h.marks.full

/-- The entry into DEEP: the terms are formed again when UNSETTLED ends with STANDBY (R95, R109). -/
theorem FormedAs.enterDeep (h : FormedAs seen s) (standby : s.rsq.phase = .standby) : FormedAs seen s.enterDeep := by
  have marks : MarksFormed seen ((s.onRsq fun q =>
      { q with phase := .deep, settled := false, unsettled := false, doze := 0 }).bump .deepEntries) :=
    h.marks.move (by simp) (by simp) (by simp [standby]) (by simp)
  unfold State.enterDeep
  dsimp only
  split
  next => exact FormedAs.rouseAtEntry ⟨termsFormed_formValues (by simp), marks.formValues⟩
  next settled =>
    refine FormedAs.rouseAtEntry ⟨h.terms.congr (by simp [standby]) ?_ (by simp [State.profile, State.image]) (by simp)
      (by simp), marks⟩
    have unsettled : s.rsq.unsettled = false := by simpa using settled
    exact State.condition_congr (by simp) (by simp) (by simp) (by simp [unsettled]) (by simp) (by simp) (by simp) (by simp)

theorem FormedAs.carrierStep (h : FormedAs true s) (condition : CarrierCondition) :
    FormedAs true (s.carrierStep condition) := by
  unfold State.carrierStep
  split
  case h_1 => exact h.keep (by simp)
  case h_2 draining => exact h.enterStandby draining
  case h_3 draining => exact h.failDrain draining
  case h_4 standby =>
    split
    · exact h.enterDeep standby
    · exact h
  case h_5 waking => exact h.completeWake (.inl waking)
  case h_6 warming => exact h.completeWake (.inr warming)
  case h_7 => exact h

theorem FormedAs.startDrain (h : FormedAs seen s) (seeking : s.rsq.phase = .seeking) : FormedAs seen s.startDrain := by
  have draining : FormedAs seen ((s.onRsq fun q =>
      { q with
        phase := .draining, askWait := none, drainStep := .drainOrdered
        drainTimer := some (s.clock + s.drainLength), omissions := 0, wakeCause := none }).bump .grantsReceived) :=
    h.move (by simp [seeking]) (by simp [seeking]) (by simp)
  unfold State.startDrain
  dsimp only
  split_ifs
  · exact draining.rouseAtEntry
  · exact draining.wake .orphan

/-- A change of entries that leaves their ages, phases and seen-us marks shows the same. -/
theorem SameShown.of_map {v : PeerView} {f : ViewEntry → ViewEntry}
    (same : ∀ e, (f e).age = e.age ∧ (f e).phase = e.phase ∧ (f e).seenUs = e.seenUs) {slots : List (Option ViewEntry)}
    (is : slots = v.slots.map (Option.map f)) : SameShown v { v with slots := slots } := by
  have entries : PeerView.entries { v with slots := slots } = v.entries.map f := by
    rw [PeerView.entries_eq, is, entries_map]
    rfl
  refine ⟨?_, ?_, ?_, rfl, rfl⟩
  · rw [entries, List.any_map]
    congr 1
    funext e
    simp [viewFresh, same e]
  · rw [PeerView.allSeen, entries, List.all_map]
    unfold PeerView.allSeen
    congr 1
    funext e
    simp [viewFresh, same e]
  · simp only [PeerView.hasFree, is, List.any_map]
    congr 1
    funext slot
    cases slot <;> rfl

theorem SameShown.miss (v : PeerView) (station : Nat) : SameShown v (v.miss station) := by
  refine .of_map (f := fun e => if e.station = station then missEntry e else e) (fun e => ?_) rfl
  split <;> simp [missEntry]

theorem SameShown.forgive (v : PeerView) : SameShown v v.forgive :=
  .of_map (f := fun e => { e with misses := 0, shunned := false }) (fun _ => ⟨rfl, rfl, rfl⟩) rfl

theorem FormedAs.takeMiss (h : FormedAs seen s) (seeking : s.rsq.phase = .seeking) : FormedAs seen s.takeMiss := by
  have moved {r : State} (h : FormedAs seen r) (seeking : r.rsq.phase = .seeking) : FormedAs seen
      (((r.onRsq fun q => { q with cover := none, phase := .awake, askWait := none }).startBackoff s.missBackoff).bump
        .misses) :=
    h.move (by simp [State.startBackoff, seeking]) (by simp [State.startBackoff, seeking]) (by simp [State.startBackoff])
  unfold State.takeMiss
  split
  next cover _ => exact moved (h.same (t := s.onPvt fun v => v.miss cover) (by simp) (.miss s.pvt cover)) seeking
  next => exact moved h seeking

theorem FormedAs.startAttempt (h : FormedAs seen s) (awake : s.rsq.phase = .awake) (cover amount : Nat) :
    FormedAs seen (s.startAttempt cover amount) :=
  h.move (by simp [State.startAttempt, awake]) (by simp [State.startAttempt, awake]) (by simp [State.startAttempt])

theorem FormedAs.evaluateEligibility (h : FormedAs seen s) (awake : s.rsq.phase = .awake) :
    FormedAs seen s.evaluateEligibility := by
  unfold State.evaluateEligibility
  dsimp only
  split
  · split
    · split
      · have stays := (s.setCondition_phase s.rsq.noCover false
          (write := fun s => s.onRsq fun q => { q with noCover := false }) rfl).1 awake
        exact (h.setNoCover false).startAttempt stays _ _
      · exact h.setNoCover true
    · exact h.setNoCover true
  · exact h.setNoCover false

theorem FormedAs.coverBeacon (h : FormedAs seen s) (b : Heard) : FormedAs seen (s.coverBeacon b) := by
  unfold State.coverBeacon
  dsimp only
  split_ifs
  · exact h.wake .orphan
  · exact h.keep (by simp)
  · exact FormedAs.wake (h.keep (by simp)) .orphan
  · exact h.keep (by simp)
  · exact h

/-! ## The Cover Unit and the reports -/

theorem FormedAs.continuousCheck (h : FormedAs seen s) : FormedAs seen s.continuousCheck := h.keep (by simp)

theorem FormedAs.reportRemoval (h : FormedAs seen s) (station : Nat) : FormedAs seen (s.reportRemoval station) := by
  unfold State.reportRemoval
  split
  · exact doWhen_keeps _ h (h.wake .orphan)
  · exact h.keep (by simp)

theorem FormedAs.reportRemovals (h : FormedAs seen s) (stations : List Nat) : FormedAs seen (s.reportRemovals stations) := by
  induction stations generalizing s with
  | nil => exact h
  | cons station rest ih => exact ih (h.reportRemoval station)

/-! ## The own beacon time -/

/-- A changed view, of which ISOLATED is still to be formed: the marks of settlement lag in STANDBY (R53). -/
theorem FormedAs.review (h : FormedAs seen s)
    (same :
      t.rsq = s.rsq ∧ t.lde = s.lde ∧ t.clp = s.clp ∧ t.lif = s.lif ∧ t.plu = s.plu ∧ t.cfl = s.cfl ∧
        t.pvt.isolated = s.pvt.isolated)
    (full : t.pvt.viewFull = true → t.pvt.hasFree = false) : FormedAs false t.formIsolated := by
  obtain ⟨rsq, lde, clp, lif, plu, cfl, isolated⟩ := same
  refine FormedAs.formIsolated ?_ ⟨?_, ?_, by simp, full⟩
  · refine h.terms.congr (by rw [rsq]) ?_ (by rw [State.profile, State.profile, State.image, State.image, cfl, plu])
      (by rw [plu]) (by rw [plu])
    exact State.condition_congr (by rw [lde]) (by rw [clp]) (by rw [rsq]) (by rw [rsq]) (by rw [rsq]) (by rw [lif])
      isolated (by rw [plu])
  · simp only [State.onPvt_pvt, State.onPvt_rsq, Bool.not_or, bne]
    rfl
  · simpa [rsq] using h.marks.outside

theorem PeerView.clearFull_full (v : PeerView) (full : v.clearFull.viewFull = true) : v.clearFull.hasFree = false := by
  unfold PeerView.clearFull at full ⊢
  split at full
  · cases full
  next none => rw [if_neg none]; simpa using none

theorem PeerView.clearFull_isolated (v : PeerView) : v.clearFull.isolated = v.isolated := by
  unfold PeerView.clearFull
  split <;> rfl

/-- Ageing that removes no entry frees no slot, and a removal that frees one clears VIEW_FULL (R44 to R46). -/
theorem PeerView.ageAll_full {v : PeerView} (full : v.viewFull = true → v.hasFree = false)
    (aged : v.ageAll.viewFull = true) : v.ageAll.hasFree = false := by
  unfold PeerView.ageAll at aged ⊢
  dsimp only at aged ⊢
  split at aged
  next kept =>
    rw [if_pos kept]
    have stay : ∀ slot ∈ ageSlots v.slots, slot.filter (fun e => !outlived e) = slot := by
      intro slot mem
      cases slot with
      | none => rfl
      | some e =>
        have entry : e ∈ (ageSlots v.slots).filterMap id := List.mem_filterMap.mpr ⟨some e, mem, rfl⟩
        have young : outlived e = false := by
          rw [List.isEmpty_iff, outlivedStations, List.map_eq_nil_iff, List.filter_eq_nil_iff] at kept
          simpa using kept e entry
        simp [Option.filter, young]
    have same : dropOutlived (ageSlots v.slots) = ageSlots v.slots := by
      rw [dropOutlived]
      exact (List.map_congr_left stay).trans (List.map_id' _)
    have free : (ageSlots v.slots).any (·.isNone) = v.slots.any (·.isNone) := by
      simp [ageSlots, List.any_map, Function.comp_def]
    rw [PeerView.hasFree, same, free]
    exact full aged
  next removed =>
    rw [if_neg removed]
    exact PeerView.clearFull_full _ aged

theorem PeerView.ageAll_isolated (v : PeerView) : v.ageAll.isolated = v.isolated := by
  unfold PeerView.ageAll
  dsimp only
  split
  · rfl
  · rw [PeerView.clearFull_isolated]

theorem FormedAs.ageView (h : FormedAs seen s) : FormedAs false s.ageView := by
  refine FormedAs.reportRemovals (h.review (by simp [PeerView.ageAll_isolated]) ?_) _
  simpa using PeerView.ageAll_full h.marks.full

theorem FormedAs.standbyBeaconWork (h : FormedAs seen s) : FormedAs true s.standbyBeaconWork := by
  have counted : FormedAs true s.countSettle := by
    unfold State.countSettle
    split_ifs with standby
    · refine FormedAs.formSettled (seen := false) ⟨h.terms.congr .rfl (fun _ => rfl) rfl rfl rfl, ?_⟩
      exact ⟨h.marks.isolated, h.marks.outside, by simp, h.marks.full⟩
    · exact ⟨h.terms, { h.marks with inside := fun _ is => absurd is standby }⟩
  have woken : FormedAs true s.countSettle.settleWake := by
    unfold State.settleWake
    split_ifs
    · exact counted.wake .settle
    · exact counted
  unfold State.standbyBeaconWork State.decideDeep
  split_ifs
  · exact FormedAs.bump (woken.keep (by simp)) _
  · exact woken

theorem FormedAs.placeBeacon (h : FormedAs seen s) : FormedAs seen s.placeBeacon := by
  unfold State.placeBeacon
  dsimp only
  split_ifs
  · exact FormedAs.offer (FormedAs.bump (h.keep (by simp)) _) .beacon
  · exact h.keep (by simp)
  · exact h.offer .beacon

theorem FormedAs.beaconTimeWork (h : FormedAs seen s) : FormedAs true s.beaconTimeWork := by
  have next : FormedAs seen s.nextBeacon := h.keep (by simp)
  have lapsed : FormedAs false s.nextBeacon.ageView.lapsePledges := next.ageView.keep (by simp)
  exact lapsed.standbyBeaconWork.placeBeacon

/-! ## Beacons -/

theorem PeerView.remove_full (v : PeerView) (station : Nat) (full : (v.remove station).viewFull = true) :
    (v.remove station).hasFree = false := PeerView.clearFull_full _ full

/-- With 16 slots, no free slot of lowest number means no free slot (R42). -/
theorem PeerView.hasFree_of_firstFree {v : PeerView} (sixteen : v.slots.length = 16) (none : v.firstFree = none) :
    v.hasFree = false := by
  rw [PeerView.hasFree, List.any_eq_false]
  intro slot mem
  obtain ⟨i, inTable, rfl⟩ := List.mem_iff_getElem.mp mem
  have taken := List.find?_eq_none.mp none i (List.mem_range.mpr (by omega))
  simpa [inTable] using taken

theorem PeerView.hasFree_set {v : PeerView} {i : Nat} {e : ViewEntry} (none : v.hasFree = false) :
    (v.slots.set i (some e)).any (·.isNone) = false := by
  rw [List.any_eq_false]
  intro slot mem
  rcases List.mem_or_eq_of_mem_set mem with held | rfl
  · rw [PeerView.hasFree, List.any_eq_false] at none
    exact none slot held
  · simp

/-- A stored beacon leaves ISOLATED to be formed, and frees no slot (R40, R42, R43). -/
theorem PeerView.store_marks {v w : PeerView} {own : Nat} {pinned : Nat → Bool} {b : Heard}
    (result : (v.store own pinned b).view = some w) :
    w.isolated = v.isolated ∧ w.viewFull = v.viewFull ∧ (v.hasFree = false → w.hasFree = false) := by
  unfold PeerView.store at result
  split at result
  · cases result
    refine ⟨rfl, rfl, fun none => ?_⟩
    rw [PeerView.hasFree] at none ⊢
    rw [changeEntry, List.any_map, ← none]
    congr 1
    funext slot
    cases slot <;> rfl
  · split at result
    · cases result
      exact ⟨rfl, rfl, PeerView.hasFree_set⟩
    · split at result
      · cases result
        exact ⟨rfl, rfl, PeerView.hasFree_set⟩
      · cases result

theorem FormedAs.handOn (h : FormedAs seen s) (b : Heard) : FormedAs true (s.handOn b) := by
  have handed : FormedAs seen (s.leanerBeacon b) := h.keep (by simp)
  exact (handed.coverBeacon b).formSettled

theorem FormedAs.stored (h : FormedAs seen s) {v : PeerView} {b : Heard}
    (result : (s.pvt.store s.own s.pinned b).view = some v) : FormedAs true (s.stored v b) := by
  obtain ⟨isolated, viewFull, free⟩ := PeerView.store_marks result
  refine FormedAs.handOn (h.review (by simpa using isolated) fun full => free (h.marks.full ?_)) b
  rw [← viewFull]
  exact full

theorem FormedAs.storeBeacon (h : FormedAs true s) (kept : ViewKept s.own s.pvt) (b : Heard) :
    FormedAs true (s.storeBeacon b) := by
  unfold State.storeBeacon
  split
  next v is => exact h.stored (by rw [is]; rfl)
  next v is => exact h.stored (by rw [is]; rfl)
  next v is => exact (h.bump .evictions).stored (congrArg Storing.view is)
  next dropped =>
    have free : s.pvt.hasFree = false := by
      unfold PeerView.store at dropped
      split at dropped
      · cases dropped
      · split at dropped
        · cases dropped
        next none => exact PeerView.hasFree_of_firstFree kept.sixteen none
    have terms : TermsFormed (s.onPvt fun v => { v with viewFull := true }) :=
      h.terms.congr .rfl (fun _ => rfl) rfl rfl rfl
    exact FormedAs.bump ⟨terms, h.marks.isolated, h.marks.outside, h.marks.inside, fun _ => free⟩ _

theorem FormedAs.otherSector (h : FormedAs true s) (sender : Nat) : FormedAs true (s.otherSector sender) := by
  unfold State.otherSector
  split
  · have reviewed : FormedAs false ((s.onPvt fun v => v.remove sender).bump .otherSectorRemovals).formIsolated :=
      h.review (by simp [PeerView.remove, PeerView.clearFull_isolated]) (by simpa using s.pvt.remove_full sender)
    exact (reviewed.reportRemoval sender).formSettled
  · exact h

theorem FormedAs.hearBeacon (h : FormedAs true s) (kept : ViewKept s.own s.pvt) (sender : BitVec 6) (sector : BitVec 3)
    (b : BeaconFields) : FormedAs true (s.hearBeacon sender sector b) := by
  unfold State.hearBeacon
  split
  · exact h
  split
  · exact h
  split
  · exact h.bump _
  split
  · exact h.otherSector _
  · exact h.storeBeacon kept _

/-! ## Arrivals -/

theorem FormedAs.takeClash (h : FormedAs seen s) : FormedAs seen s.takeClash := by
  have counted : FormedAs seen (s.bump .clashFrames) := h.bump _
  unfold State.takeClash State.raiseClash
  split
  · exact counted
  · have formed : FormedAs seen ((s.bump .clashFrames).onLif fun l => { l with clash := true }).formTerms :=
      MarksFormed.formAll (counted.marks.congr rfl (.of_eq rfl) rfl rfl rfl) counted.terms.loadingQuiet
    exact ((formed.abandonAsk).wake .clash).continuousCheck

theorem FormedAs.receive {work : State → State} (h : FormedAs true s)
    (kept : ∀ t : State, FormedAs true t → t.pvt = s.pvt → t.cfl = s.cfl → FormedAs true (work t)) :
    FormedAs true (State.receive work s) := by
  unfold State.receive
  split
  · exact kept _ (h.keep (by simp)) rfl rfl
  · exact h

theorem FormedAs.arrive {work : State → State} (h : FormedAs true s) (sender : BitVec 6) (kind : Kind)
    (kept : ∀ t : State, FormedAs true t → t.pvt = s.pvt → t.cfl = s.cfl → FormedAs true (work t)) :
    FormedAs true (State.arrive sender kind work s) := by
  refine h.receive fun t h pvt cfl => ?_
  split_ifs
  · exact h.takeClash
  · exact h.bump _
  · exact kept _ (h.bump _) (by simpa using pvt) (by simpa using cfl)

theorem FormedAs.takeGrant (h : FormedAs seen s) (sender : BitVec 6) (tag : BitVec 8) :
    FormedAs seen (s.takeGrant sender tag) := by
  have late : FormedAs seen (s.answerLateGrant sender.toNat tag) := (h.offer _).bump _
  unfold State.takeGrant
  split
  · exact h
  split
  case h_1 seeking =>
    split
    · exact h.startDrain seeking
    · exact late
  case h_7 => exact late
  case h_8 => exact h
  case h_9 => exact h
  all_goals
    split
    · exact h
    · exact late

theorem FormedAs.takeDeny (h : FormedAs seen s) (sender : Nat) (tag : BitVec 8) (reason : Byte) :
    FormedAs seen (s.takeDeny sender tag reason) := by
  unfold State.takeDeny State.countDeny
  split
  next matching =>
    split
    · exact (h.bump _).takeMiss (by simpa using matching.1)
    · exact h.takeMiss matching.1
  next => exact h

theorem FormedAs.takeRecall (h : FormedAs seen s) (sender : BitVec 6) (tag : BitVec 8) :
    FormedAs seen (s.takeRecall sender tag) := by
  have counted : FormedAs seen (s.bump .recallsReceived) := h.bump _
  have answered : FormedAs seen ((s.bump .recallsReceived).answerRecall sender.toNat tag) := (counted.offer _).bump _
  unfold State.takeRecall
  dsimp only
  split
  · exact h
  split
  case h_1 => exact answered
  case h_2 => exact answered
  case h_6 | h_7 =>
    split
    · exact counted
    · exact answered
  case h_8 => exact h
  case h_9 => exact h
  all_goals
    split
    · exact counted.wake .recall
    · exact answered

/-! ## The window, the profile and the flags -/

theorem FormedAs.masked {work : State → State} (h : FormedAs seen s) (mask : BitVec 8) (kept : FormedAs seen (work s)) :
    FormedAs seen (State.masked mask work s) := by
  unfold State.masked
  split
  · exact kept
  · exact h.bump _

theorem FormedAs.openWindow (h : FormedAs seen s) (minutes : Nat) : FormedAs seen (s.openWindow minutes) := by
  have timed : FormedAs seen ((s.bump .windowsTaken).onPlu fun p =>
      { p with windowTimer := some (s.clock + minutes * minute) }) := h.keep (by simp)
  unfold State.openWindow
  dsimp only
  split
  · exact timed
  · exact FormedAs.bump (timed.same (by simp) (.forgive _)) _

theorem FormedAs.closeWindow (h : FormedAs seen s) (counted : Counter) : FormedAs seen (s.closeWindow counted) := by
  have closed : FormedAs seen ((s.onPlu fun p => { p with windowOpen := false, windowTimer := none }).bump counted) :=
    h.keep (by simp)
  exact ((closed.abandonAsk).wake .close).continuousCheck

theorem FormedAs.takeProfile (h : FormedAs seen s) (number : Byte) : FormedAs seen (s.takeProfile number) := by
  have taken : FormedAs seen (s.bump .profilesTaken) := h.bump _
  unfold State.takeProfile
  dsimp only
  split_ifs
  · exact h.bump _
  · exact taken
  · refine FormedAs.bump (MarksFormed.formAll ?_ ?_) _
    · exact taken.marks.congr rfl (.of_eq rfl) rfl rfl rfl
    · exact taken.terms.loadingQuiet

theorem FormedAs.takeFlags (h : FormedAs seen s) (actions : FlagActions) : FormedAs seen (s.takeFlags actions) := by
  have taken : FormedAs seen (s.bump .flagsTaken) := h.bump _
  exact MarksFormed.formAll (taken.marks.congr rfl (.of_eq rfl) rfl rfl rfl) taken.terms.loadingQuiet

/-! ## The carrier link -/

theorem FormedAs.queueReply (h : FormedAs seen s) (r : Reply) : FormedAs seen (s.queueReply r) := by
  unfold State.queueReply
  split
  · exact h.keep (by simp)
  · exact h.bump _

theorem FormedAs.replyToSample (h : FormedAs seen s) : FormedAs seen s.replyToSample := by
  have ordered : FormedAs seen (s.onClp fun c => { c with currentOrder := s.rsq.order }) := h.keep (by simp)
  exact ordered.queueReply _

theorem FormedAs.portStage (h : FormedAs seen s) (condition : CarrierCondition) : FormedAs seen (s.portStage condition) := by
  have up : FormedAs seen ((s.bump .validSamples).onClp fun c => { c with link := .up }) := h.keep (by simp)
  unfold State.portStage
  dsimp only
  refine FormedAs.setCarrierFault ?_ _
  split
  · exact FormedAs.keep ((up.bump .linkReturns).setLinkLost false) (by simp)
  · exact up.keep (by simp)

theorem FormedAs.sampleStages (h : FormedAs true s) (u : BitVec 10) (n : BitVec 11) (condition : CarrierCondition)
    (arrivedAwake : Bool) : FormedAs true (s.sampleStages u n condition arrivedAwake) := by
  have used : FormedAs true (s.useSample u n arrivedAwake).coverStage := h.keep (by simp)
  unfold State.sampleStages
  split
  · exact h
  · split
    · unfold State.eligibilityStage
      split
      next awake => exact (used.carrierStep condition).evaluateEligibility awake.2
      next => exact used.carrierStep condition
    · exact (h.bump _).carrierStep condition

theorem FormedAs.loseLink (h : FormedAs seen s) : FormedAs seen s.loseLink := by
  unfold State.loseLink
  split
  · exact h
  · have blinded : FormedAs seen (s.onLde fun e =>
        { e with quiet := 0, state := if e.state = .tracking then .blind else e.state }) := h.keep (by simp)
    exact ((blinded.setLinkLost true).abandonAsk).continuousCheck

/-! ## The load and the resets -/

@[simp] theorem State.doWhen_bump_frame (b : Bool) (c : Counter) (s : State) :
    (doWhen b (State.bump c) s).rsq = s.rsq ∧ (doWhen b (State.bump c) s).pvt = s.pvt ∧
      (doWhen b (State.bump c) s).plu = s.plu ∧ (doWhen b (State.bump c) s).lif = s.lif ∧
      (doWhen b (State.bump c) s).cfl = s.cfl := by cases b <;> simp [doWhen]

/-- At the exit from LOADING ISOLATED and both terms are formed for the phase it leads to (R131, R165). -/
theorem FormedAs.leaveLoading (h : FormedAs seen s) (loading : s.rsq.phase = .loading) (loaded : Loaded) :
    FormedAs seen (s.leaveLoading loaded) := by
  have off := h.marks.outside (by simp [loading])
  have phases := State.exitPhase_cases (s.onCfl fun c =>
    { c with image := loaded.image, configBad := loaded.configBad, clampCount := loaded.clampCount, load := .done
             readTimer := none })
  unfold State.leaveLoading
  dsimp only
  generalize State.exitPhase _ = phase at phases
  have up : phase ≠ .loading ∧ phase ≠ .standby := by rcases phases with rfl | rfl | rfl <;> decide
  refine ⟨termsFormed_formValues (by simpa using up.1), MarksFormed.formValues ⟨?_, fun _ => by simpa using off, ?_, ?_⟩⟩
  · have fresh : (phase != .mute && !s.pvt.entries.any viewFresh) =
        (phase != .loading && phase != .mute && !s.pvt.entries.any viewFresh) := by
      rcases phases with rfl | rfl | rfl <;> rfl
    cases loaded.configBad <;> exact fresh
  · exact fun _ standby => absurd (by simpa using standby) up.2
  · cases loaded.configBad <;> exact h.marks.full

theorem FormedAs.endRead {work : State → State} (h : FormedAs seen s) (loading : LoadingKept s)
    (kept : s.rsq.phase = .loading → FormedAs seen (work s)) : FormedAs seen (State.endRead work s) := by
  unfold State.endRead
  split
  next reading => exact kept (loading.1.mpr reading)
  next => exact h

/-- A reset leaves the view empty and the terms as LOADING has them. -/
theorem FormedAs.of_loading (phase : t.rsq.phase = .loading) (values : t.plu.hold = false ∧ t.plu.rouse = false)
    (settled : t.rsq.settled = false ∧ t.rsq.unsettled = false) (view : t.pvt = emptyView) : FormedAs seen t where
  terms := by simp [TermsFormed, phase, values]
  marks := ⟨by rw [phase, view]; rfl, fun _ => settled, by simp [phase], by simp [view, emptyView]⟩

theorem FormedAs.lineRestart (straps : BitVec 6) (s : State) : FormedAs seen (s.lineRestart straps) :=
  .of_loading rfl ⟨rfl, rfl⟩ ⟨rfl, rfl⟩ rfl

/-! ## Status and the line -/

theorem FormedAs.answerStatus (h : FormedAs seen s) (asker : Nat) (page : BitVec 3) (clear : Bool) :
    FormedAs seen (s.answerStatus asker page clear) := by
  unfold State.answerStatus
  dsimp only
  split
  · have advanced : FormedAs seen (s.onAcc fun a => a.advance page.toNat) := h.keep (by simp)
    exact FormedAs.offer (doWhen_keeps _ advanced (advanced.keep (by simp [State.clearCounters]))) _
  · exact (h.bump _).offer _

theorem FormedAs.ignoreFrame (h : FormedAs seen s) (f : Frame) : FormedAs seen (s.ignoreFrame f) := by
  unfold State.ignoreFrame
  split
  · exact h.takeClash
  · exact h.bump _
  · exact h
  · exact h.bump _
  · exact h.bump _
  · exact h

theorem FormedAs.onQueue (h : FormedAs seen s) {f : LineInterface → LineInterface} (same : (f s.lif).clash = s.lif.clash) :
    FormedAs seen (s.onLif f) := h.keep (by simp [same])

theorem FormedAs.expiring {work : State → State} (h : FormedAs seen s) (timer : State → Timer)
    (kept : FormedAs seen (work s)) : FormedAs seen (State.expiring timer work s) := by
  unfold State.expiring
  split
  · exact kept
  · exact h

/-! ## Every command -/

theorem FormedAs.commandWork (h : FormedAs true s) (kept : s.Inv) (i : Instr) : FormedAs true (commandWork i s) := by
  cases i with
  | powerOn _ straps => exact .of_loading rfl ⟨rfl, rfl⟩ ⟨rfl, rfl⟩ rfl
  | readComplete _ record => exact h.endRead kept.loading fun loading => h.leaveLoading loading _
  | readAbsent =>
    dsimp only [Machine.commandWork]
    refine h.endRead kept.loading fun loading => ?_
    exact (h.bump _).leaveLoading (by simpa using loading) _
  | readTimerExpiry =>
    dsimp only [Machine.commandWork]
    refine h.expiring _ (h.endRead kept.loading fun loading => ?_)
    exact (h.bump _).leaveLoading (by simpa using loading) _
  | validSample _ u n condition => exact ((h.portStage condition).sampleStages u n condition _).replyToSample
  | linkBadRecord => exact h.bump _
  | unrecognizedRecord => exact (h.bump _).queueReply _
  | replySent =>
    dsimp only [Machine.commandWork]
    split
    · exact h
    · exact FormedAs.bump (h.keep (by simp)) _
  | linkWatchExpiry =>
    dsimp only [Machine.commandWork]
    exact h.expiring _ (FormedAs.loseLink (FormedAs.bump (h.keep (by simp)) _))
  | transmissionAttempt =>
    dsimp only [Machine.commandWork]
    split
    · exact h.onQueue rfl
    · exact h
  | contentionLoss =>
    dsimp only [Machine.commandWork]
    split
    · exact (h.onQueue rfl).bump _
    · exact h
  | abandon =>
    dsimp only [Machine.commandWork]
    split
    next => exact h
    next =>
      split
      · exact ((h.onQueue rfl).bump _).bump _
      · exact (h.onQueue rfl).bump _
  | attemptComplete =>
    dsimp only [Machine.commandWork]
    split
    next => exact h
    next => exact (h.onQueue rfl).bump _
  | frameDiscarded _ why => exact h.receive fun t h _ _ => h.bump _
  | clashFrame => exact h.receive fun t h _ _ => h.takeClash
  | frameIgnored _ frame => exact h.receive fun t h _ _ => h.ignoreFrame frame
  | beacon _ sender sector fields =>
    refine h.arrive sender _ fun t h pvt cfl => h.hearBeacon ?_ sender sector fields
    rw [State.own, cfl, pvt]
    exact kept.view
  | coverAsk _ sender sector tag amount => exact h.arrive sender _ fun t h _ _ => h.keep (by simp)
  | resume _ sender tag => exact h.arrive sender _ fun t h _ _ => h.keep (by simp)
  | coverGrant _ sender tag _ => exact h.arrive sender _ fun t h _ _ => h.takeGrant sender tag
  | coverDeny _ sender tag reason _ => exact h.arrive sender _ fun t h _ _ => h.takeDeny _ tag reason
  | windowOpen _ sender duration mask => exact h.arrive sender _ fun t h _ _ => h.masked mask (h.openWindow _)
  | windowClose _ sender mask =>
    exact h.arrive sender _ fun t h _ _ => h.masked mask (doWhen_keeps _ (h.bump _) ((h.bump _).closeWindow _))
  | windowTimerExpiry =>
    dsimp only [Machine.commandWork]
    exact h.expiring _ (h.closeWindow _)
  | flags _ sender actions mask => exact h.arrive sender _ fun t h _ _ => h.masked mask (h.takeFlags actions)
  | profile _ sender number mask => exact h.arrive sender _ fun t h _ _ => h.masked mask (h.takeProfile number)
  | askStatus _ sender page clear => exact h.arrive sender _ fun t h _ _ => h.answerStatus _ page clear
  | restart _ sender straps => exact h.arrive sender _ fun t _ _ _ => .lineRestart straps t
  | statusArrival _ sender => exact h.arrive sender _ fun t h _ _ => h
  | ownBeaconTime =>
    dsimp only [Machine.commandWork]
    exact h.expiring _ h.beaconTimeWork
  | askWaitExpiry =>
    dsimp only [Machine.commandWork]
    refine h.expiring _ ?_
    split
    next seeking => exact (h.bump _).takeMiss (by simpa using seeking)
    next => exact h.keep (by simp)
  | backoffExpiry =>
    dsimp only [Machine.commandWork]
    exact h.expiring _ (h.keep (by simp))
  | drainTimerExpiry =>
    dsimp only [Machine.commandWork]
    refine h.expiring _ ?_
    split
    next draining => exact h.failDrain draining
    next => exact h.keep (by simp)
  | recallTimerExpiry =>
    dsimp only [Machine.commandWork]
    exact h.expiring _ (h.keep (by simp))
  | recallGuardExpiry =>
    dsimp only [Machine.commandWork]
    exact h.expiring _ (h.keep (by simp))
  | restGuardExpiry =>
    dsimp only [Machine.commandWork]
    exact h.expiring _ (FormedAs.endRecentRecall (h.keep (by simp)))
  | heldInReset => exact .of_loading rfl ⟨rfl, rfl⟩ ⟨rfl, rfl⟩ rfl
  | lineIdle =>
    dsimp only [Machine.commandWork]
    split
    · exact h
    · exact doWhen_keeps _ (h.onQueue rfl) ((h.onQueue rfl).bump _)
  | _ _ sender tag =>
    -- The RECALL: its constructor bears the name of a Lean command and cannot be written here.
    exact h.arrive sender _ fun t h _ _ => h.takeRecall sender tag

/-- Settles O59: the terms and the marks are formed again wherever an operation of the work changes what they are formed
from. -/
theorem stepKeepsConditionsFormed : Obligations.StepKeepsConditionsFormed := by
  intro s t inv terms conditions taken
  have kept : t.Inv ∧ FormedAs true t :=
    step_keeps (P := fun s => s.Inv ∧ FormedAs true s) (fun _ l h => ⟨h.1.pending l, h.2.keep (by simp)⟩)
      (fun _ after h => ⟨h.1.elapse after, h.2.keep (by simp)⟩)
      (fun _ i _ h => ⟨h.1.commandWork i, h.2.commandWork h.1 i⟩) ⟨inv, terms, conditionsFormed_iff.mp conditions⟩ taken
  exact ⟨kept.2.terms, conditionsFormed_iff.mpr kept.2.marks⟩

end Sys2Proof.Machine
end

section
/-! PROOFS. The step, the device's own next event, and time over every command: what waits, the clock and the seconds
counters (R110, R168, R169; log 3, 8; O1 to O4). -/

namespace Sys2Proof.Machine

/-! ## The step and the device's own next event -/

/-- Settles O1: the step takes the front of the queue. -/
theorem stepRunsFrontCommand : Obligations.StepRunsFrontCommand := fun _ _ _ => rfl

/-- With timers in front of others one is the earliest, and none of them runs out before it. -/
theorem exists_earliest {timers : List (Micros × (Micros → Instr))} {t : Micros × (Micros → Instr)} (running : t ∈ timers) :
    ∃ u ∈ timers, earliest timers = some u ∧ ∀ v ∈ timers, u.1 ≤ v.1 := by
  induction timers generalizing t with
  | nil => simp at running
  | cons first rest ih =>
    cases rest with
    | nil => exact ⟨first, by simp, rfl, by simp⟩
    | cons second more =>
      obtain ⟨u, among, is, least⟩ := ih (t := second) (by simp)
      rw [earliest, is]
      by_cases before : first.1 ≤ u.1
      · refine ⟨first, by simp, by simp [before], fun v hv => ?_⟩
        rcases List.mem_cons.mp hv with rfl | hv
        · exact le_rfl
        · exact before.trans (least v hv)
      · refine ⟨u, List.mem_cons_of_mem _ among, by simp [before], fun v hv => ?_⟩
        rcases List.mem_cons.mp hv with rfl | hv
        · exact Nat.le_of_lt (Nat.lt_of_not_le before)
        · exact least v hv

/-- Settles O2: on an empty queue the next event is that of the schedule, whose search finds a timer that none precedes; a
device held in reset takes from a command its time alone. -/
theorem idleAndHeldDevice : Obligations.IdleAndHeldDevice := by
  refine ⟨fun s idle => ⟨?joins, ?held, ?attempt, ?timer⟩, fun c s held notPower notReset => ?resting⟩
  case joins => rw [Machine.step, idle]
  case held =>
    intro held
    simp [State.ownNextEvent, held]
  case attempt =>
    intro out starts
    simp [State.ownNextEvent, out, starts]
  case timer =>
    intro out waits t running
    obtain ⟨u, among, is, least⟩ := exists_earliest running
    exact ⟨u, among, least t running, by simp [State.ownNextEvent, out, waits, is]⟩
  case resting =>
    have works : actsInReset c = false := by
      cases c with
      | powerOn after straps => exact absurd rfl (notPower after straps)
      | heldInReset after => exact absurd rfl (notReset after)
      | _ => rfl
    rw [exec_eq, held, works]
    rfl

/-! ## What a command's work leaves of time -/

/-- The five seconds counters (R169). -/
def Accounting.secondsCounters (a : Accounting) : List SecondsCounter :=
  [a.standby, a.deep, a.draining, a.returning, a.windowOpen]

theorem Accounting.secondsCounters_of_beyondCounts {a b : Accounting} (h : a.beyondCounts = b.beyondCounts) :
    a.secondsCounters = b.secondsCounters := by
  simp only [Accounting.beyondCounts, Accounting.mk.injEq] at h
  simp [Accounting.secondsCounters, h]

/-- The commands that set the seconds counters: the two of a reset, and an ASK-STATUS that clears (R166, R172). -/
def setsSeconds : Instr → Bool
  | .powerOn _ _ | .heldInReset _ | .askStatus _ _ _ true => true
  | _ => false

/-- A state to which a command's work has led has what waits and the clock of the state before it, and its seconds counters
unless they are set. -/
structure TimeAs (sets : Bool) (s t : State) : Prop where
  pending : t.pending = s.pending
  clock : t.clock = s.clock
  seconds : sets = false → t.acc.secondsCounters = s.acc.secondsCounters

variable {sets : Bool} {s t u : State}

theorem TimeAs.refl (sets : Bool) (s : State) : TimeAs sets s s := ⟨rfl, rfl, fun _ => rfl⟩

theorem TimeAs.step (h : TimeAs sets s t)
    (same : u.pending = t.pending ∧ u.clock = t.clock ∧ u.acc.beyondCounts = t.acc.beyondCounts) : TimeAs sets s u where
  pending := same.1.trans h.pending
  clock := same.2.1.trans h.clock
  seconds kept := (Accounting.secondsCounters_of_beyondCounts same.2.2).trans (h.seconds kept)

theorem TimeAs.expiring {work : State → State} (h : TimeAs sets s t) (timer : State → Timer)
    (kept : TimeAs sets s (work t)) : TimeAs sets s (State.expiring timer work t) := by
  unfold State.expiring
  split
  · exact kept
  · exact h

theorem TimeAs.endRead {work : State → State} (h : TimeAs sets s t) (kept : TimeAs sets s (work t)) :
    TimeAs sets s (State.endRead work t) := by
  unfold State.endRead
  split
  · exact kept
  · exact h

theorem TimeAs.receive {work : State → State} (h : TimeAs sets s t)
    (kept : ∀ u : State, TimeAs sets s u → TimeAs sets s (work u)) : TimeAs sets s (State.receive work t) := by
  unfold State.receive
  split
  · exact kept _ (h.step (by simp))
  · exact h

theorem TimeAs.masked {work : State → State} (h : TimeAs sets s t) (mask : BitVec 8)
    (kept : TimeAs sets s (work t)) : TimeAs sets s (State.masked mask work t) := by
  unfold State.masked
  split
  · exact kept
  · exact h.step (by simp)

theorem TimeAs.arrive {work : State → State} (h : TimeAs sets s t) (sender : BitVec 6) (kind : Kind)
    (kept : ∀ u : State, TimeAs sets s u → TimeAs sets s (work u)) : TimeAs sets s (State.arrive sender kind work t) := by
  refine h.receive fun u h => ?_
  repeat' split
  · exact h.step (by simp)
  · exact h.step (by simp)
  · exact kept _ (h.step (by simp))

@[simp] theorem State.doWhen_bump_accounts (b : Bool) (c : Counter) (s : State) :
    (doWhen b (State.bump c) s).held = s.held ∧ (doWhen b (State.bump c) s).pending = s.pending ∧
      (doWhen b (State.bump c) s).clock = s.clock ∧ (doWhen b (State.bump c) s).lde = s.lde ∧
      (doWhen b (State.bump c) s).cvu = s.cvu ∧ (doWhen b (State.bump c) s).clp = s.clp ∧
      (doWhen b (State.bump c) s).acc.beyondCounts = s.acc.beyondCounts := by cases b <;> simp [doWhen]

theorem TimeAs.leaveLoading (h : TimeAs sets s t) (loaded : Loaded) : TimeAs sets s (t.leaveLoading loaded) := by
  unfold State.leaveLoading
  dsimp only
  exact h.step (by simp)

theorem TimeAs.lineRestart (h : TimeAs sets s t) (straps : BitVec 6) : TimeAs sets s (t.lineRestart straps) := by
  have emptied : TimeAs sets s (t.emptyBook.bump .lineRestarts) := h.step (by simp)
  exact ⟨emptied.pending, emptied.clock, emptied.seconds⟩

theorem Accounting.secondsCounters_advance (a : Accounting) (page : Nat) :
    (a.advance page).secondsCounters = a.secondsCounters := by
  unfold Accounting.advance
  split <;> rfl

theorem TimeAs.answerStatus (h : TimeAs sets s t) (asker : Nat) (page : BitVec 3) (clear : Bool)
    (cleared : clear = true → sets = true) : TimeAs sets s (t.answerStatus asker page clear) := by
  unfold State.answerStatus
  split
  next =>
    have advanced : TimeAs sets s (t.onAcc fun a => a.advance page.toNat) :=
      ⟨h.pending, h.clock, fun kept => (Accounting.secondsCounters_advance _ _).trans (h.seconds kept)⟩
    have done : TimeAs sets s (doWhen clear State.clearCounters (t.onAcc fun a => a.advance page.toNat)) := by
      cases clear with
      | false => exact advanced
      | true => exact ⟨advanced.pending, advanced.clock, fun kept => by simp [cleared rfl] at kept⟩
    exact done.step (by simp)
  next => exact h.step (by simp)

/-- A command's work leaves what waits and the clock, and the seconds counters unless it sets them. -/
theorem commandWork_time (i : Instr) (s : State) : TimeAs (setsSeconds i) s (commandWork i s) := by
  have h := TimeAs.refl (setsSeconds i) s
  cases i with
  | powerOn => exact ⟨rfl, rfl, fun kept => nomatch kept⟩
  | heldInReset => exact ⟨rfl, rfl, fun kept => nomatch kept⟩
  | readComplete _ record => exact h.endRead (h.leaveLoading _)
  | readAbsent =>
    dsimp only [commandWork]
    refine h.endRead (TimeAs.leaveLoading ?_ _)
    exact h.step (by simp)
  | readTimerExpiry =>
    dsimp only [commandWork]
    refine h.expiring _ (h.endRead (TimeAs.leaveLoading ?_ _))
    exact h.step (by simp)
  | validSample => exact h.step (by simp [commandWork])
  | linkBadRecord => exact h.step (by simp [commandWork])
  | unrecognizedRecord => exact h.step (by simp [commandWork])
  | replySent =>
    dsimp only [commandWork]
    split
    · exact h
    · exact h.step (by simp)
  | linkWatchExpiry =>
    dsimp only [commandWork]
    refine h.expiring _ ?_
    exact h.step (by simp)
  | transmissionAttempt =>
    dsimp only [commandWork]
    split
    · exact h.step (by simp)
    · exact h
  | contentionLoss =>
    dsimp only [commandWork]
    split
    · exact h.step (by simp)
    · exact h
  | abandon =>
    dsimp only [commandWork]
    repeat' split
    · exact h
    · exact h.step (by simp)
    · exact h.step (by simp)
  | attemptComplete =>
    dsimp only [commandWork]
    split
    · exact h
    · exact h.step (by simp)
  | frameDiscarded => exact h.receive fun u h => h.step (by simp)
  | clashFrame => exact h.receive fun u h => h.step (by simp)
  | frameIgnored => exact h.receive fun u h => h.step (by simp)
  | beacon => exact h.arrive _ _ fun u h => h.step (by simp)
  | coverAsk => exact h.arrive _ _ fun u h => h.step (by simp)
  | resume => exact h.arrive _ _ fun u h => h.step (by simp)
  | coverGrant => exact h.arrive _ _ fun u h => h.step (by simp)
  | coverDeny => exact h.arrive _ _ fun u h => h.step (by simp)
  | windowOpen => exact h.arrive _ _ fun u h => h.masked _ (h.step (by simp))
  | windowClose => exact h.arrive _ _ fun u h => h.masked _ (h.step (by simp))
  | windowTimerExpiry =>
    dsimp only [commandWork]
    refine h.expiring _ ?_
    exact h.step (by simp)
  | flags => exact h.arrive _ _ fun u h => h.masked _ (h.step (by simp))
  | profile => exact h.arrive _ _ fun u h => h.masked _ (h.step (by simp))
  | askStatus _ _ _ clear =>
    exact h.arrive _ _ fun u h => h.answerStatus _ _ clear fun clears => by subst clears; rfl
  | restart => exact h.arrive _ _ fun u h => h.lineRestart _
  | statusArrival => exact h.arrive _ _ fun u h => h
  | ownBeaconTime =>
    dsimp only [commandWork]
    refine h.expiring _ ?_
    exact h.step (by simp)
  | askWaitExpiry =>
    dsimp only [commandWork]
    refine h.expiring _ ?_
    split
    · exact h.step (by simp)
    · exact h.step (by simp)
  | backoffExpiry =>
    dsimp only [commandWork]
    refine h.expiring _ ?_
    exact h.step (by simp)
  | drainTimerExpiry =>
    dsimp only [commandWork]
    refine h.expiring _ ?_
    split
    · exact h.step (by simp)
    · exact h.step (by simp)
  | recallTimerExpiry =>
    dsimp only [commandWork]
    refine h.expiring _ ?_
    exact h.step (by simp)
  | recallGuardExpiry =>
    dsimp only [commandWork]
    refine h.expiring _ ?_
    exact h.step (by simp)
  | restGuardExpiry =>
    dsimp only [commandWork]
    refine h.expiring _ ?_
    exact h.step (by simp)
  | lineIdle =>
    dsimp only [commandWork]
    split
    · exact h
    · exact h.step (by simp [State.lineIdles])
  | _ =>
    -- The RECALL: its constructor bears the name of a Lean command and cannot be written here.
    exact h.arrive _ _ fun u h => h.step (by simp)

/-- A command answers a next state, with the time of the state its own time leads to. -/
theorem exec_time (i : Instr) (s : State) :
    ∃ t, exec i s = .next t ∧ TimeAs (setsSeconds i) (s.elapse (commandTime i)) t := by
  rw [exec_eq]
  refine ⟨_, rfl, ?_⟩
  split
  · exact .refl _ _
  · exact commandWork_time _ _

/-- Settles O3: each command is its time and a work that leaves the clock and what waits. -/
theorem everyCommandAnswersNext : Obligations.EveryCommandAnswersNext := by
  intro c s
  obtain ⟨t, answered, time⟩ := exec_time c s
  exact ⟨t, answered, time.pending, time.clock⟩

/-! ## Time in pieces -/

theorem RestClock.over_add (k : RestClock) (a b : Micros) : (k.over a).over b = k.over (a + b) := by
  unfold RestClock.over
  cases mode : k.mode <;> simp only [mode]
  have sums : ∀ most m n o : Nat, min most (min most (m + n) + o) = min most (m + (n + o)) := by omega
  exact congrArg (RestClock.mk _) (sums _ _ _ _)

/-- Two times one after the other add up: the remainder carries what the first leaves below a second. -/
theorem SecondsCounter.over_add (c : SecondsCounter) (condition : Bool) (a b : Nat) :
    (c.over condition a).over condition b = c.over condition (a + b) := by
  cases condition with
  | false => rfl
  | true =>
    simp only [SecondsCounter.over, SecondsCounter.add, if_true, SecondsCounter.mk.injEq]
    omega

/-- A seconds counter over a time, its condition true or not (R169). -/
theorem SecondsCounter.over_cases {c d : SecondsCounter} {condition : Bool} {holds : Prop} {millis : Nat}
    (same : d = c.over condition millis) (means : condition = true ↔ holds) :
    (holds →
      d.seconds = min 4294967295 (c.seconds + (c.remainder + millis) / 1000) ∧
        d.remainder = (c.remainder + millis) % 1000) ∧
      (¬holds → d = c) := by
  subst same
  refine ⟨fun true => ?_, fun false => ?_⟩
  · rw [means.mpr true]
    exact ⟨rfl, rfl⟩
  · rw [Bool.eq_false_iff.mpr (mt means.mp false)]
    rfl

/-- Time passed in two pieces is time passed in one (R110, R169). -/
theorem State.elapse_elapse (s : State) (a b : Micros) : (s.elapse a).elapse b = s.elapse (a + b) := by
  have millis :
      (Micros.inMillis (s.clock + a) - Micros.inMillis s.clock) +
          (Micros.inMillis (s.clock + a + b) - Micros.inMillis (s.clock + a)) =
        Micros.inMillis (s.clock + (a + b)) - Micros.inMillis s.clock := by
    simp only [Micros.inMillis]
    omega
  simp only [State.elapse, RestClock.over_add, SecondsCounter.over_add, millis]
  rw [show s.clock + a + b = s.clock + (a + b) from Nat.add_assoc _ _ _]

/-- Settles O4: the seconds counters are those of the time alone, whatever work the command does. -/
theorem secondsCountersMeasure : Obligations.SecondsCountersMeasure := by
  refine ⟨fun c s t answered notPower notReset notClear => ?measures, State.elapse_elapse, fun s c d => ⟨?count, rfl⟩⟩
  case count =>
    rw [State.count_bump]
    split
    next same => rw [same]; rfl
    next => rfl
  case measures =>
    have sets : setsSeconds c = false := by
      cases c with
      | powerOn after straps => exact absurd rfl (notPower after straps)
      | heldInReset after => exact absurd rfl (notReset after)
      | askStatus after sender page clear =>
        cases clear with
        | true => exact absurd rfl (notClear after sender page)
        | false => rfl
      | _ => rfl
    obtain ⟨_, same, time⟩ := exec_time c s
    obtain rfl := Host.Outcome.next.inj (answered.symm.trans same)
    have seconds := time.seconds sets
    simp only [Accounting.secondsCounters, List.cons.injEq, and_true] at seconds
    obtain ⟨standby, deep, draining, returning, windowOpen⟩ := seconds
    exact ⟨SecondsCounter.over_cases standby (by simp), SecondsCounter.over_cases deep (by simp),
      SecondsCounter.over_cases draining (by simp), SecondsCounter.over_cases returning (by simp),
      SecondsCounter.over_cases windowOpen Iff.rfl⟩

end Sys2Proof.Machine
end

section
/-! PROOFS. The rouse report wherever a condition changes: when a term that tests the condition turns true, and when a term
that does not test it leaves the phase (R96 to R98, R132, R134). -/

namespace Sys2Proof.Machine

variable {s t taken work : State}

/-! ## Conditions -/

/-- A condition is that of another state when its own supplier says the same (R130). -/
theorem State.condition_congr_at {code : BitVec 4} (linkLost : code.toNat = 8 → t.lde.linkLost = s.lde.linkLost)
    (fault : code.toNat = 9 → t.clp.carrierFault = s.clp.carrierFault)
    (noCover : code.toNat = 10 → t.rsq.noCover = s.rsq.noCover)
    (unsettled : code.toNat = 11 → t.rsq.unsettled = s.rsq.unsettled)
    (recalled : code.toNat = 12 → t.rsq.recentRecall = s.rsq.recentRecall)
    (clash : code.toNat = 13 → t.lif.clash = s.lif.clash) (isolated : code.toNat = 14 → t.pvt.isolated = s.pvt.isolated)
    (flags : t.plu.flags = s.plu.flags) : t.condition code = s.condition code := by
  unfold State.condition
  split
  case h_1 is => rw [linkLost is]
  case h_2 is => rw [fault is]
  case h_3 is => rw [noCover is]
  case h_4 is => rw [unsettled is]
  case h_5 is => rw [recalled is]
  case h_6 is => rw [clash is]
  case h_7 is => rw [isolated is]
  case h_8 => rfl
  case h_9 => rw [flags]

/-- A code is not the number of another code. -/
theorem code_toNat_ne {code other : BitVec 4} (ne : code ≠ other) : code.toNat ≠ other.toNat :=
  fun same => ne (BitVec.eq_of_toNat_eq same)

/-! ## A forming that wakes, and one that does not -/

/-- A rouse term that a forming finds true, and that was false, is a wake cause (R134). -/
theorem State.formTerms_of_testing (up : s.rsq.phase ≠ .loading) (was : s.plu.rouse = false)
    (tests : s.testTerm s.profile.rouse = true) : s.formTerms = s.formValues.wake .rouse := by
  rw [State.formTerms, was, (State.formValues_values up).2, tests]
  rfl

/-- A rouse term that a forming finds as it was starts no wake. -/
theorem State.formTerms_of_still (still : s.rsq.phase ≠ .loading → s.testTerm s.profile.rouse = s.plu.rouse) :
    s.formTerms = s.formValues := by
  by_cases loading : s.rsq.phase = .loading
  · rw [State.formTerms, State.formValues_loading loading]
    cases s.plu.rouse <;> rfl
  · rw [State.formTerms, (State.formValues_values loading).2, still loading]
    cases s.plu.rouse <;> rfl

/-- Where the terms were formed, a change that leaves the phase's side of LOADING, the profile and the condition the rouse
term tests starts no wake. -/
theorem TermsFormed.formTerms_of_untested (h : TermsFormed s) (loading : work.rsq.phase = .loading ↔ s.rsq.phase = .loading)
    (profile : work.profile = s.profile) (rouse : work.plu.rouse = s.plu.rouse)
    (same : work.condition s.profile.rouse.code = s.condition s.profile.rouse.code) :
    work.formTerms = work.formValues := by
  refine State.formTerms_of_still fun up => ?_
  rw [TermsFormed, if_neg (mt loading.mpr up)] at h
  rw [State.testTerm, profile, same, rouse, h.2]
  rfl

/-- A changed condition that the rouse term does not test leaves the phase, the cover, the line and the counters, as far as
its writing does. -/
theorem TermsFormed.setCondition_untested (h : TermsFormed s) {old new : Bool} {write : State → State}
    (loading : (write s).rsq.phase = .loading ↔ s.rsq.phase = .loading) (profile : (write s).profile = s.profile)
    (rouse : (write s).plu.rouse = s.plu.rouse)
    (same : (write s).condition s.profile.rouse.code = s.condition s.profile.rouse.code) :
    s.setCondition old new write = if old = new then s else (write s).formValues := by
  rw [State.setCondition, h.formTerms_of_untested loading profile rouse same]

/-! ## The statements' word for a rouse report -/

/-- What a wake with cause ROUSE reads, and what it counts, is in one state as in another. -/
structure WakesAs (s work : State) : Prop where
  phase : work.rsq.phase = s.rsq.phase
  cover : work.rsq.cover = s.rsq.cover
  tag : work.rsq.tag = s.rsq.tag
  backoff : work.rsq.backoff = s.rsq.backoff
  dark : work.rsq.darkGiven = s.rsq.darkGiven
  failures : work.count .drainFailures = s.count .drainFailures
  wakes : work.count (.wakes .rouse) = s.count (.wakes .rouse)

/-- A wake with cause ROUSE from a state that has the line of the command's start. -/
theorem WakesAs.roused (h : WakesAs s work) (phase : taken.rsq.phase = s.rsq.phase) (line : work.lif = taken.lif) :
    Roused s taken (work.wake .rouse) := by
  have wake : RouseWake s (work.wake .rouse) :=
    State.rouseWake.congr h.phase h.cover h.backoff h.dark h.failures h.wakes
  refine { wake with aborted := fun draining c recorded => ?aborted, kept := fun resting => ?kept }
  case aborted =>
    rw [State.wake_lif_of_draining (by decide) (h.phase.trans draining) (h.cover.trans recorded), h.tag]
    exact State.offer_lif_congr line (h.phase.trans phase.symm) _
  case kept => rw [State.wake_lif_of_resting .rouse (by rwa [h.phase]), line]

/-- In LOADING no rouse report is made, and none is needed. -/
theorem Roused.of_up (phase : s.rsq.phase ≠ .draining) (standby : s.rsq.phase ≠ .standby) (deep : s.rsq.phase ≠ .deep) :
    Roused s taken t where
  draining is := absurd is phase
  resting is := is.elim (absurd · standby) (absurd · deep)
  counted is := is.elim (absurd · phase) fun is => is.elim (absurd · standby) (absurd · deep)
  aborted is := absurd is phase
  kept is := is.elim (absurd · standby) (absurd · deep)

/-- A forming that finds the rouse term true where it was false, the work so far having left the line as the command found
it. -/
theorem WakesAs.roused_by_forming (h : WakesAs s work) (phase : taken.rsq.phase = s.rsq.phase) (line : work.lif = taken.lif)
    (was : work.plu.rouse = false) (tests : work.testTerm work.profile.rouse = true) : Roused s taken work.formTerms := by
  by_cases loading : work.rsq.phase = .loading
  · rw [h.phase] at loading
    exact .of_up (by simp [loading]) (by simp [loading]) (by simp [loading])
  · have values : WakesAs s work.formValues :=
      ⟨by simp [h.phase], by simp [h.cover], by simp [h.tag], by simp [h.backoff], by simp [h.dark], by simp [h.failures],
        by simp [h.wakes]⟩
    rw [State.formTerms_of_testing loading was tests]
    exact values.roused phase (by simp [line])

end Sys2Proof.Machine
end

section
/-! PROOFS. Reset, the guards, the link's other records, and a wake's phase (R69, R90, R96 to R99, R152 to R155, R160 to
R166; O5, O13, O26, O39, O57). -/

namespace Sys2Proof.Machine

variable {s taken work : State}

/-- Settles O5: power-on takes every value of the tables, and a reset held takes the same with no timer begun. -/
theorem powerOnAndReset : Obligations.PowerOnAndReset := by
  refine ⟨⟨fun _ _ _ => rfl, fun after s => ⟨_, rfl, rfl, rfl, rfl, rfl⟩, rfl⟩, fun clock straps => ?_⟩
  refine ⟨rfl, rfl, rfl, rfl, rfl, rfl, rfl, rfl, ?minutes, rfl, rfl, rfl, fun code => ?conditions, rfl, rfl, rfl, rfl, rfl, rfl,
    fun c => ?counts, rfl, rfl, rfl, rfl, rfl, rfl, rfl, rfl, rfl⟩
  case minutes =>
    have none : State.remainingMinutes (State.powerOn 0 0) = 0 := by decide
    simpa [State.remainingMinutes, State.powerOn, Timer.remaining] using none
  case conditions =>
    have none : State.condition (State.powerOn 0 0) code = (code == 15) := by revert code; decide
    exact none
  case counts => simp [State.powerOn, State.count, Accounting.count]

/-- Settles O57: power-on at clock 0 keeps every promise. -/
theorem resetKeepsPromises : Obligations.ResetKeepsPromises :=
  ⟨State.powerOn_inv _ _, ⟨rfl, rfl⟩, ⟨rfl, rfl, rfl, rfl, rfl, rfl, rfl, rfl⟩, ⟨rfl, rfl, rfl, nofun⟩⟩

/-- Settles O13: the three records act on the backlog and its counts alone. -/
theorem recordsNotSamples : Obligations.RecordsNotSamples := by
  refine ⟨fun after s out => ⟨exec_live _ out, fun room => ?joins, fun full => ?drops⟩, fun after r rest s out queued => ⟨?_, ?sent⟩⟩
  case joins =>
    rw [exec_live _ out]
    dsimp only [commandWork]
    rw [State.queueReply, if_pos (by simpa using room)]
    rfl
  case drops =>
    rw [exec_live _ out]
    dsimp only [commandWork]
    rw [State.queueReply, if_neg (by exact Nat.not_lt.mpr full)]
    rfl
  · rw [State.replyOnLink, queued]
    rfl
  case sent =>
    have sending : ¬ (s.elapse (commandTime (.replySent after))).clp.backlog = [] := by simp [queued]
    rw [exec_live _ out]
    dsimp only [commandWork]
    rw [if_neg sending]
    simp [State.onClp, State.bump, State.onAcc, queued, commandTime]

/-- The end of RECENT_RECALL writes that condition, and of the Policy Unit the two term values (R99, R132). -/
theorem State.endRecentRecall_writes (s : State) :
    s.endRecentRecall.rsq.recentRecall = false ∧
      s.endRecentRecall.plu = { s.plu with hold := s.endRecentRecall.plu.hold, rouse := s.endRecentRecall.plu.rouse } := by
  unfold State.endRecentRecall State.setCondition
  split
  next same => exact ⟨same, rfl⟩
  next => exact ⟨by simp, State.formTerms_plu⟩

/-- With a rouse term that tests another condition the end of RECENT_RECALL starts no wake. -/
theorem TermsFormed.endRecentRecall_untested (h : TermsFormed s) (other : s.profile.rouse.code ≠ 12) :
    s.endRecentRecall.rsq.phase = s.rsq.phase ∧ s.endRecentRecall.rsq.cover = s.rsq.cover ∧
      s.endRecentRecall.lif = s.lif ∧ ∀ c, s.endRecentRecall.count c = s.count c := by
  rw [State.endRecentRecall, h.setCondition_untested Iff.rfl rfl rfl
    (State.condition_congr_at (fun _ => rfl) (fun _ => rfl) (fun _ => rfl) (fun _ => rfl)
      (fun is => absurd is (code_toNat_ne other)) (fun _ => rfl) (fun _ => rfl) rfl)]
  split <;> simp

/-- A rouse term that tests RECENT_RECALL in inverted sense turns true at its end. -/
theorem WakesAs.endRecentRecall_roused (h : WakesAs s work) (phase : taken.rsq.phase = s.rsq.phase)
    (line : work.lif = taken.lif) (recalled : work.rsq.recentRecall = true)
    (term : work.profile.rouse = { code := 12, inverted := true }) (was : work.plu.rouse = false) :
    Roused s taken work.endRecentRecall := by
  rw [State.endRecentRecall, State.setCondition_changes _ _ (by simp [recalled])]
  refine WakesAs.roused_by_forming ⟨h.phase, h.cover, h.tag, h.backoff, h.dark, h.failures, h.wakes⟩ phase line was ?_
  change State.testTerm _ work.profile.rouse = true
  rw [term]
  rfl

/-- Settles O26: an expired guard is written stopped, and RECENT_RECALL turning false is a change of condition 12 alone. -/
theorem guardsExpire : Obligations.GuardsExpire := by
  intro after s out
  refine ⟨fun due => ?recallGuard, fun due => ?backoff, fun due => ?restGuard⟩
  case recallGuard => rw [exec_live _ out, commandWork, State.expiring_elapse rfl due]; rfl
  case backoff => rw [exec_live _ out, commandWork, State.expiring_elapse rfl due]; rfl
  case restGuard =>
    have answered : exec (.restGuardExpiry after) s =
        .next ((s.elapse after).onRsq fun q => { q with restGuard := none }).endRecentRecall := by
      rw [exec_live _ out, commandWork, State.expiring_elapse rfl due]
      rfl
    obtain ⟨ended, policy⟩ := State.endRecentRecall_writes ((s.elapse after).onRsq fun q => { q with restGuard := none })
    refine ⟨_, answered, by simp, ended, by simp, by simp, by simp, by simp, by simp, policy, fun formed other => ?quiet,
      fun recalled term was => ?roused⟩
    case quiet =>
      have still : TermsFormed ((s.elapse after).onRsq fun q => { q with restGuard := none }) :=
        formed.congr Iff.rfl (fun _ => rfl) rfl rfl rfl
      exact still.endRecentRecall_untested other
    case roused =>
      exact WakesAs.endRecentRecall_roused ⟨rfl, rfl, rfl, rfl, rfl, rfl, rfl⟩ rfl rfl recalled term was

/-! ## Wakes -/

/-- The counters an offer may raise (R142, R143). -/
def queueCounter : Counter → Bool
  | .queueDiscards _ | .statusReplaced => true
  | _ => false

variable {c : Counter}

theorem State.count_offer_other (h : queueCounter c = false) (n : Notice) : (s.offer n).count c = s.count c :=
  State.count_offer_of_ne (fun k is => by rw [is] at h; cases h) (fun is => by rw [is] at h; cases h) n

theorem State.count_resumeToCover_other (h : queueCounter c = false) : s.resumeToCover.count c = s.count c := by
  unfold State.resumeToCover
  split
  · exact State.count_offer_other h _
  · rfl

theorem State.count_abortDrain_other (h : queueCounter c = false) (cause : WakeCause) :
    (s.abortDrain cause).count c = s.count c := by
  unfold State.abortDrain
  split <;> simp [State.count_resumeToCover_other h]

/-- What a wake counts, the queue's own counts aside: its cause where it is taken (R96, R101). -/
theorem State.count_wake_other (h : queueCounter c = false) (cause : WakeCause) :
    (s.wake cause).count c =
      if s.rsq.phase = .draining ∨ s.rsq.phase = .standby ∨ s.rsq.phase = .deep then (s.countWake cause).count c
      else s.count c := by
  unfold State.wake
  split
  next draining => rw [if_pos (.inl draining), State.count_abortDrain_other h]
  next standby => rw [if_pos (.inr (.inl standby))]; simp
  next deep => rw [if_pos (.inr (.inr deep))]; simp
  all_goals next is => rw [if_neg (by simp [is])]

/-- A wake taken is counted under its cause (R96). -/
theorem State.count_wakes (cause : WakeCause) (taken : s.rsq.phase = .draining ∨ s.rsq.phase = .standby ∨ s.rsq.phase = .deep) :
    (s.wake cause).count (.wakes cause) = min 65535 (s.count (.wakes cause) + 1) := by
  rw [State.count_wake_other rfl, if_pos taken, State.countWake]
  split <;> simp [State.count_bump, saturatingSucc, Config.counterLimit]

/-- No wake counts but under its cause and, for an orphan, as an orphan wake. -/
theorem State.count_wake_kept (h : queueCounter c = false) (wakes : ∀ k, c ≠ .wakes k) (orphan : c ≠ .orphanWakes)
    (cause : WakeCause) : (s.wake cause).count c = s.count c := by
  rw [State.count_wake_other h, State.countWake]
  split
  · split <;> simp [State.count_bump, wakes, orphan]
  · rfl

/-- The end of a rest: the phase, its cause, the rest clock stopped, settlement ended (R97, R109, R111). -/
theorem State.wake_resting_rsq (cause : WakeCause) (resting : s.rsq.phase = .standby ∨ s.rsq.phase = .deep) :
    (s.wake cause).rsq =
      { s.rsq with
        phase := if s.rsq.phase = .standby ∧ s.rsq.darkGiven = false then .waking else .warming
        wakeCause := some cause, settled := false, unsettled := false
        restClock := { mode := .stopped, measured := s.rsq.restClock.measured } } := by
  rw [State.wake_of_resting cause resting, State.leaveRest]
  simp only [State.countWake_frame]
  split
  · rw [State.formValues_rsq]
    simp [RestClock.holdReport_eq]
  · simp

/-- The forming at the end of a rest writes the two term values (R132). -/
theorem State.formValues_plu :
    s.formValues.plu = { s.plu with hold := s.formValues.plu.hold, rouse := s.formValues.plu.rouse } := by
  unfold State.formValues
  split
  · rfl
  · dsimp only
    split <;> simp

theorem State.wake_resting_plu (cause : WakeCause) (resting : s.rsq.phase = .standby ∨ s.rsq.phase = .deep) :
    (s.wake cause).plu = { s.plu with hold := (s.wake cause).plu.hold, rouse := (s.wake cause).plu.rouse } := by
  rw [State.wake_of_resting cause resting, State.leaveRest]
  simp only [State.countWake_frame]
  split
  · rw [State.formValues_plu]
    simp
  · simp

/-- A drain aborted for another cause than RECALL (R98). -/
theorem State.wake_draining_rsq {cause : WakeCause} (other : cause ≠ .recall) (draining : s.rsq.phase = .draining) :
    (s.wake cause).rsq = { s.rsq with phase := .awake, cover := none, drainTimer := none, wakeCause := some cause } := by
  rw [State.wake_of_draining cause draining, State.abortDrain, if_neg other]
  simp

/-- Whatever its cause, a drain aborted leaves a RESUME to its cover (R98, R99). -/
theorem State.wake_draining_lif (cause : WakeCause) (draining : s.rsq.phase = .draining) {cover : Nat}
    (recorded : s.rsq.cover = some cover) : (s.wake cause).lif = (s.offer (.resume cover s.rsq.tag)).lif := by
  have line : (s.wake cause).lif = ((s.countWake cause).onRsq fun q =>
      { q with drainTimer := none, wakeCause := some cause }).resumeToCover.lif := by
    rw [State.wake_of_draining cause draining, State.abortDrain]
    split <;> simp
  rw [line, State.resumeToCover]
  simp only [State.onRsq_rsq, State.countWake_frame, recorded]
  exact State.offer_lif_congr (by simp) (by simp) _

/-- Settles O39: the wake is that of a drain or of a rest, and outside those phases there is none. -/
theorem wakeFromRestMovesPhase : Obligations.WakeFromRestMovesPhase := by
  intro cause s
  refine ⟨fun resting => ?rest, fun draining => ?drain, State.count_wakes cause, by simp, by simp, by simp, by simp, by simp⟩
  case rest =>
    have rsq := State.wake_resting_rsq cause resting
    refine ⟨fun standby light => by simp [rsq, standby, light], fun standby dark => by simp [rsq, standby, dark],
      fun deep => by simp [rsq, deep], ?run, by simp [rsq], State.wake_lif_of_resting cause resting,
      State.wake_resting_plu cause resting⟩
    rw [rsq, RestSequencer.order]
    by_cases light : s.rsq.phase = .standby ∧ s.rsq.darkGiven = false
    · simp only [if_pos light]
    · simp only [if_neg light]
  case drain =>
    obtain ⟨phase, cover, timer, woken⟩ := State.wake_draining cause draining
    refine ⟨phase, cover, timer, woken, by simp, by rw [RestSequencer.order, phase],
      fun _ recorded => State.wake_draining_lif cause draining recorded, fun other => ⟨State.wake_draining_rsq other draining, ?_⟩,
      State.count_wake_kept (c := .drainFailures) rfl nofun nofun cause⟩
    rw [State.wake_of_draining cause draining, (State.abortDrain_policy other).1]
    simp

end Sys2Proof.Machine
end

section
/-! PROOFS. The exit from LOADING as the statements word it, and the reads that end absent or late (R131, R147, R161 to R165;
O6). -/

namespace Sys2Proof.Machine

variable {s t : State} {cs ds : List Counter}

/-- The order in which counts are listed says nothing. -/
theorem Counted.perm (h : Counted s t cs) (same : cs.Perm ds) : Counted s t ds := fun c => by
  rw [h c, same.count_eq]
  simp only [same.mem_iff]

/-- The state in which the terms are formed at the exit from LOADING (R165). -/
def State.exited (loaded : Loaded) (s : State) : State :=
  let phase := State.exitPhase s
  { s with
    cfl :=
      { s.cfl with
        image := loaded.image, configBad := loaded.configBad, clampCount := loaded.clampCount, load := .done
        readTimer := none }
    rsq := { s.rsq with phase := phase, wakeCause := none }
    lif :=
      { s.lif with
        receiver := .waiting
        beaconTimer :=
          if phase = .mute then none
          else some (s.clock + s.own * (2 ^ loaded.image.periodCode.toNat * second) / 64) }
    pvt := { s.pvt with isolated := phase != .mute && !s.pvt.entries.any viewFresh }
    acc := (doWhen loaded.configBad (State.bump .fallbackLoads) (s.bump .loadingExits)).acc }

theorem State.leaveLoading_eq (loaded : Loaded) (s : State) : s.leaveLoading loaded = (s.exited loaded).formValues := by
  unfold State.leaveLoading State.exited
  cases loaded.configBad <;> rfl

theorem State.exited_up (loaded : Loaded) (s : State) : (s.exited loaded).rsq.phase ≠ .loading := by
  change s.exitPhase ≠ .loading
  rcases s.exitPhase_cases with is | is | is <;> simp [is]

/-- The exit counts itself, and a fallback taken (R168). -/
theorem State.count_leaveLoading (loaded : Loaded) (s : State) (c : Counter) :
    (s.leaveLoading loaded).count c =
      (doWhen loaded.configBad (State.bump .fallbackLoads) (s.bump .loadingExits)).count c := by
  rw [State.leaveLoading_eq, (State.count_of_acc _ _).1]
  rfl

theorem Counted.leaveLoading (h : Counted s t cs) (loaded : Loaded) :
    Counted s (t.leaveLoading loaded) (cs ++ if loaded.configBad then [.fallbackLoads, .loadingExits] else [.loadingExits]) := by
  have exits := h.bump .loadingExits
  intro c
  rw [State.count_leaveLoading]
  cases loaded.configBad with
  | false => exact exits c
  | true => exact (exits.bump .fallbackLoads).perm (by simpa using .append_left cs (.swap _ _ [])) c

/-- A forming leaves a stopped rest clock, and with it the sequencer (R110). -/
theorem State.formValues_rsq_of_stopped (stopped : s.rsq.restClock.mode = .stopped) : s.formValues.rsq = s.rsq := by
  have same : ({ s.rsq.restClock with mode := .stopped } : RestClock) = s.rsq.restClock := by rw [← stopped]
  rw [State.formValues_rsq, RestClock.holdReport_eq, stopped, if_pos rfl, same, ite_self]

/-- The exit from LOADING, with whatever count the end of the read has made (R131, R147, R165). -/
theorem InLoading.leaves (h : InLoading s) (after : Micros) {f : Accounting → Accounting}
    (kept : ∀ a : Accounting, (f a).beyondCounts = a.beyondCounts) (loaded : Loaded) :
    LeavesLoading s after loaded.image loaded.configBad loaded.clampCount
      (((s.elapse after).onAcc f).leaveLoading loaded) := by
  rw [State.leaveLoading_eq]
  have values := State.formValues_values (State.exited_up loaded ((s.elapse after).onAcc f))
  have still : s.rsq.restClock.over after = s.rsq.restClock := by simp [RestClock.over, h.clock]
  have sequencer : (((s.elapse after).onAcc f).exited loaded).formValues.rsq =
      { s.rsq with phase := State.exitPhase s, wakeCause := none } := by
    rw [State.formValues_rsq_of_stopped (by simp [State.exited, h.clock])]
    simp only [State.exited, State.onAcc, State.elapse_frame, still]
    rfl
  have phase : (((s.elapse after).onAcc f).exited loaded).formValues.rsq.phase = State.exitPhase s := by rw [sequencer]
  obtain ⟨held, clock, pending, line, view, estimator, cover, link, loader, accounts⟩ :=
    (((s.elapse after).onAcc f).exited loaded).formValues_frame
  exact {
    held := held
    clock := clock
    pending := pending
    loader := loader
    phase := phase
    sequencer := by rw [phase, sequencer]
    line := by rw [phase, line]; rfl
    view := by rw [phase, view]; rfl
    policy := by
      rw [State.formValues_plu, values.1, values.2, State.profile_formValues]
      simp only [State.testTerm, State.condition_formValues]
      rfl
    estimator := estimator
    cover := cover
    link := link
    accounts := by
      refine countsAlone_of ?_
      rw [accounts]
      simp [State.exited, kept] }

/-- Settles O6: both ends of the read count themselves and leave LOADING with the fallback. -/
theorem readEndsAbsentOrLate : Obligations.ReadEndsAbsentOrLate := by
  refine ⟨fun after s loading => ⟨?absent, fun due => ?late⟩, fun sector => ?image, fun after record s out done => ?ended⟩
  case absent =>
    refine ⟨_, ?_, loading.leaves after (f := fun a => a.setCount _ _) (by simp) (fallback 0),
      Counted.leaveLoading (Counted.bump (.refl (by simp)) .readsAbsent) (fallback 0)⟩
    rw [exec_live _ loading.out]
    exact congrArg _ (if_pos loading.load)
  case late =>
    refine ⟨_, ?_, loading.leaves after (f := fun a => a.setCount _ _) (by simp) (fallback 0),
      Counted.leaveLoading (Counted.bump (.refl (by simp)) .readsTimedOut) (fallback 0)⟩
    rw [exec_live _ loading.out, commandWork, State.expiring_elapse rfl due]
    exact congrArg _ (if_pos loading.load)
  case image =>
    refine ⟨rfl, rfl, rfl, rfl, rfl, rfl, rfl, fun n => ?_⟩
    unfold Profiles.get
    split <;> rfl
  case ended =>
    have idle : ∀ work, State.endRead work (s.elapse after) = s.elapse after := fun work =>
      if_neg (by simp [done])
    refine ⟨?_, ?_, ?_⟩
    · rw [exec_live _ out, commandWork]
      exact congrArg _ (idle _)
    · rw [exec_live _ out, commandWork]
      exact congrArg _ (idle _)
    · rw [exec_live _ out, commandWork, State.expiring]
      split
      · exact congrArg _ (idle _)
      · rfl

end Sys2Proof.Machine
end

section
/-! PROOFS. A record read complete: its check, its fields before the clamps and after them, and the clamp count (R126, R161
to R163; O7). -/

namespace Sys2Proof.Machine

variable {record : List Byte}

/-! ## The record's bytes -/

/-- A record is its 69 bytes and their check exactly when its last two bytes are that check (R177). -/
theorem eq_withCheck_iff : record = withCheck (record.take 69) ↔ record.drop 69 = twoBytes (crc (record.take 69)) := by
  constructor
  · intro same
    calc record.drop 69 = (record.take 69 ++ record.drop 69).drop (record.take 69).length := by simp
      _ = (withCheck (record.take 69)).drop (record.take 69).length := by rw [List.take_append_drop, ← same]
      _ = twoBytes (crc (record.take 69)) := by simp [withCheck]
  · intro same
    rw [withCheck, ← same, List.take_append_drop]

theorem getD_take {i : Nat} (inside : i < 69) : (record.take 69).getD i 0 = record.getD i 0 := by
  simp [List.getD_eq_getElem?_getD, inside]

theorem byteAt_take {i : Nat} (inside : i < 69) : byteAt (record.take 69) i = byteAt record i := by
  rw [byteAt, getD_take inside, byteAt]

theorem wordAt_take {i : Nat} (inside : i + 1 < 69) : wordAt (record.take 69) i = wordAt record i := by
  rw [wordAt, byteAt_take (by omega), byteAt_take inside, wordAt]

theorem termAt_take {i : Nat} (inside : i < 69) : termAt (record.take 69) i = termAt record i := by
  rw [termAt, getD_take inside, termAt]

theorem rawProfile_take {at_ : Nat} (inside : at_ + 14 < 69) :
    rawProfile (record.take 69) at_ = rawProfile record at_ := by
  unfold rawProfile
  rw [byteAt_take (by omega), byteAt_take (by omega), wordAt_take (by omega), byteAt_take (by omega),
    byteAt_take (by omega), byteAt_take (by omega), byteAt_take (by omega), byteAt_take (by omega), wordAt_take (by omega),
    byteAt_take (by omega), byteAt_take (by omega), termAt_take (by omega), termAt_take (by omega)]

/-- The fields of a record lie before its check (13.5). -/
theorem rawImage_take (role : Role) : rawImage (record.take 69) role = rawImage record role := by
  unfold rawImage
  rw [byteAt_take (by decide), wordAt_take (by decide), byteAt_take (by decide), wordAt_take (by decide),
    wordAt_take (by decide), rawProfile_take (by decide), rawProfile_take (by decide), rawProfile_take (by decide),
    rawProfile_take (by decide)]

/-! ## The three config-bad fields -/

/-- The fields that decide whether a record's image may take force (R162). -/
def fieldsGood (record : List Byte) : Prop :=
  byteAt record 0 ≤ 7 ∧ byteAt record 1 ≤ 2 ∧ wordAt record 2 % 4096 ≠ 0

theorem loadRecord_of_good_check (full : record.length = 71)
    (good : record.drop 69 = twoBytes (crc (record.take 69))) : loadRecord record = loadBody (record.take 69) := by
  rw [loadRecord, if_pos (by exact full), checkedBody_eq_some_iff.mpr (eq_withCheck_iff.mpr good)]

/-- A bad field brings the fallback, with the record's own sector where that is one (R163). -/
theorem loadBody_of_bad_field (bad : ¬fieldsGood record) :
    loadBody (record.take 69) = fallback (if byteAt record 0 ≤ 7 then BitVec.ofNat 3 (byteAt record 0) else 0) := by
  rw [loadBody, byteAt_take (by decide), byteAt_take (by decide)]
  by_cases sector : byteAt record 0 ≤ 7
  · rw [if_neg (by omega), if_pos sector]
    cases role : roleOf (byteAt record 1) with
    | none => rfl
    | some r =>
      have known : byteAt record 1 ≤ 2 := (roleOf_isSome_iff _).mp (by simp [role])
      have empty : (rawImage (record.take 69) r).capacity = 0 := by
        rw [rawImage_take]
        by_contra some
        exact bad ⟨sector, known, some⟩
      simp only [empty, if_true]
  · rw [if_pos (by omega), if_neg sector]

/-- A good record brings its own image, clamped (R162). -/
theorem loadBody_of_good_fields (good : fieldsGood record) :
    ∃ role, roleCode role = byteAt record 1 ∧
      loadBody (record.take 69) =
        { image := clampImage (rawImage record role), configBad := false
          clampCount := imageClamps (rawImage record role) (clampImage (rawImage record role)) } := by
  obtain ⟨sector, known, capacity⟩ := good
  obtain ⟨role, is⟩ := Option.isSome_iff_exists.mp ((roleOf_isSome_iff _).mpr known)
  refine ⟨role, roleCode_of_roleOf is, ?_⟩
  rw [loadBody, byteAt_take (by decide), byteAt_take (by decide), if_neg (by omega), is]
  simp only [rawImage_take]
  exact if_neg capacity

/-! ## The clamped fields -/

theorem code_termAt (i : Nat) : (termAt record i).code.toNat = byteAt record i % 16 := by simp [termAt, byteAt]

/-- Bit 7 of a byte says whether it is 128 or more. -/
theorem inverted_termAt (i : Nat) : (termAt record i).inverted = decide (128 ≤ byteAt record i) := by
  have bit : ∀ b : Byte, b.getLsbD 7 = decide (128 ≤ b.toNat) := by decide
  exact bit _

/-- The profile of a number, clamped, as it stands in the record from byte 9 + 15 × n on (13.5). -/
theorem get_clampImage (role : Role) (n : BitVec 2) :
    Profiles.get (clampImage (rawImage record role)).profiles n = clampProfile (rawProfile record (9 + 15 * n.toNat)) := by
  have four : n.toNat = 0 ∨ n.toNat = 1 ∨ n.toNat = 2 ∨ n.toNat = 3 := by omega
  unfold Profiles.get
  rcases four with is | is | is | is <;> rw [is] <;> rfl

theorem clampTo_zero (high n : Nat) : clampTo 0 high n = min high n := Nat.zero_max _

/-! ## The clamp count -/

/-- The fields that a clamp has moved, of pairs of the value read and the value clamped (R162). -/
def movedFields (fields : List (Nat × Nat)) : Nat := (fields.filter fun f => decide (f.1 ≠ f.2)).length

theorem movedFields_cons (read clamped : Nat) (fields : List (Nat × Nat)) :
    movedFields ((read, clamped) :: fields) = changed read clamped + movedFields fields := by
  unfold movedFields changed
  by_cases same : read = clamped
  · simp [same]
  · simp [same, Nat.add_comm]

theorem movedFields_nil : movedFields [] = 0 := rfl

theorem profileClamps_eq (p q : Profile) :
    profileClamps p q =
      movedFields
        [(p.quietLimit, q.quietLimit), (p.quietDwell, q.quietDwell), (p.margin, q.margin), (p.ceiling, q.ceiling),
          (p.wakeLevel, q.wakeLevel), (p.shift, q.shift), (p.deepDwell, q.deepDwell), (p.recallGuard, q.recallGuard),
          (p.restGuard, q.restGuard), (p.awakeFloor, q.awakeFloor)] := by
  simp only [movedFields_cons, movedFields_nil, profileClamps, Nat.add_assoc, Nat.add_zero]

/-- The image a good record brings, field by field (13.5). -/
structure ImageOf (record : List Byte) (m : Image) : Prop where
  sector : m.sector.toNat = byteAt record 0
  role : roleCode m.role = byteAt record 1
  capacity : m.capacity = wordAt record 2 % 4096
  period : m.periodCode.toNat = wordAt record 2 / 4096 % 4
  standby : m.standbyAllowance = max 1 (min 30 (byteAt record 4))
  deep : m.deepAllowance = max 30 (min 900 (wordAt record 5))
  drain : m.drainLimit = max 30 (min 600 (wordAt record 7))
  profiles : ∀ n : BitVec 2, Profiles.get m.profiles n = clampProfile (rawProfile record (9 + 15 * n.toNat))

theorem imageOf_clampImage {role : Role} (known : roleCode role = byteAt record 1) (sector : byteAt record 0 ≤ 7) :
    ImageOf record (clampImage (rawImage record role)) where
  sector := by simp only [clampImage, rawImage, BitVec.toNat_ofNat]; omega
  role := known
  capacity := rfl
  period := by simp [clampImage, rawImage]
  standby := rfl
  deep := rfl
  drain := rfl
  profiles := get_clampImage role

theorem imageClamps_eq (m n : Image) :
    imageClamps m n =
      movedFields
          [(m.standbyAllowance, n.standbyAllowance), (m.deepAllowance, n.deepAllowance), (m.drainLimit, n.drainLimit)] +
        ((List.range 4).map fun i =>
          profileClamps (Profiles.get m.profiles (BitVec.ofNat 2 i)) (Profiles.get n.profiles (BitVec.ofNat 2 i))).sum := by
  simp only [movedFields_cons, movedFields_nil, imageClamps, Nat.add_assoc, Nat.add_zero]
  rfl

/-- Each byte field of a profile in the record, and the value it has in a profile (13.5). -/
def profileMoves (record : List Byte) (at_ : Nat) (p : Profile) : List (Nat × Nat) :=
  [(byteAt record at_, p.quietLimit), (wordAt record (at_ + 2), p.quietDwell), (byteAt record (at_ + 4), p.margin),
    (byteAt record (at_ + 5), p.ceiling), (byteAt record (at_ + 6), p.wakeLevel), (byteAt record (at_ + 7), p.shift),
    (byteAt record (at_ + 8), p.deepDwell), (wordAt record (at_ + 9), p.recallGuard),
    (byteAt record (at_ + 11), p.restGuard), (byteAt record (at_ + 12), p.awakeFloor)]

/-- The clamp count of a good record, from its bytes and its clamped image. -/
theorem imageClamps_of_record (role : Role) :
    imageClamps (rawImage record role) (clampImage (rawImage record role)) =
      movedFields
          [(byteAt record 4, (clampImage (rawImage record role)).standbyAllowance),
            (wordAt record 5, (clampImage (rawImage record role)).deepAllowance),
            (wordAt record 7, (clampImage (rawImage record role)).drainLimit)] +
        ((List.range 4).map fun i =>
          movedFields
            (profileMoves record (9 + 15 * i)
              (Profiles.get (clampImage (rawImage record role)).profiles (BitVec.ofNat 2 i)))).sum := by
  rw [imageClamps_eq]
  simp only [profileClamps_eq]
  rfl

/-- Settles O7: the check splits the records, then the three fields; a good record's image is read field by field. -/
theorem completeReadIsChecked : Obligations.CompleteReadIsChecked := by
  intro after record s loading full
  have leaves : LeavesLoading s after (loadRecord record).image (loadRecord record).configBad (loadRecord record).clampCount
      ((s.elapse after).leaveLoading (loadRecord record)) :=
    loading.leaves after (f := fun a => a) (fun _ => rfl) (loadRecord record)
  have counted := Counted.leaveLoading (Counted.refl (s := s) (t := s.elapse after) fun _ => rfl) (loadRecord record)
  refine ⟨(s.elapse after).leaveLoading (loadRecord record), ?answered, fun wrong => ?wrong, fun good bad => ?bad,
    fun good fields => ?good⟩
  case answered =>
    rw [exec_live _ loading.out, commandWork]
    exact congrArg _ (if_pos loading.load)
  case wrong =>
    have is := loadRecord_of_wrong_check full (mt eq_withCheck_iff.mp wrong)
    rw [is] at leaves counted
    rw [is]
    exact ⟨leaves, counted⟩
  case bad =>
    have is := (loadRecord_of_good_check full good).trans (loadBody_of_bad_field bad)
    rw [is] at leaves counted
    rw [is]
    exact ⟨leaves, counted⟩
  case good =>
    obtain ⟨role, known, body⟩ := loadBody_of_good_fields fields
    have is := (loadRecord_of_good_check full good).trans body
    have image : State.image ((s.elapse after).leaveLoading (loadRecord record)) = clampImage (rawImage record role) := by
      rw [State.image, leaves.loader, is]
    have clamps : ((s.elapse after).leaveLoading (loadRecord record)).cfl.clampCount =
        imageClamps (rawImage record role) (clampImage (rawImage record role)) := by rw [leaves.loader, is]
    have fields_ := imageOf_clampImage known fields.1
    rw [image, clamps]
    refine ⟨?leaves, ?counted, fields_.sector, fields_.role, fields_.capacity, fields_.period, fields_.standby, fields_.deep,
      fields_.drain, fun n => ?profile, imageClamps_of_record role, imageClamps_le _ _⟩
    case leaves => rwa [is] at leaves ⊢
    case counted => rwa [is] at counted ⊢
    case profile =>
      rw [fields_.profiles n]
      exact ⟨clampTo_zero _ _, rfl, rfl, clampTo_zero _ _, rfl, rfl, rfl, clampTo_zero _ _, clampTo_zero _ _,
        clampTo_zero _ _, rfl, code_termAt _, inverted_termAt _, code_termAt _, inverted_termAt _⟩

end Sys2Proof.Machine
end

section
/-! PROOFS. The line restart: what each block is reset to, and the removals counted (R16, R53, R77, R106, R120, R141, R159,
R167, R168; O8). -/

namespace Sys2Proof.Machine

variable {s t : State} {cs : List Counter}

/-- A counter raised once for each item of a list is listed once for each. -/
theorem Counted.bumpFor {α : Type} (h : Counted s t cs) (d : Counter) (l : List α) :
    Counted s (State.bumpFor d l t) (cs ++ l.map fun _ => d) := by
  induction l generalizing t cs with
  | nil => simpa [State.bumpFor] using h
  | cons a rest ih => simpa [State.bumpFor] using ih (h.bump d)

theorem exec_restart (after : Micros) (sender straps : BitVec 6) (s : State) :
    exec (.restart after sender straps) s = execRestart after sender straps s := rfl

/-- Accounting with its counts and cursors written is decided by what lies beyond the counts. -/
theorem Accounting.with_cursors {a b : Accounting} (same : a.beyondCounts = b.beyondCounts) (c0 c1 c2 c3 : Nat) :
    { a with cursor0 := c0, cursor1 := c1, cursor2 := c2, cursor3 := c3 } =
      { b with counts := a.counts, cursor0 := c0, cursor1 := c1, cursor2 := c2, cursor3 := c3 } := by
  simp only [Accounting.beyondCounts, Accounting.mk.injEq] at same
  simp [same]

/-- The line restart block by block: the Carrier Link Port stays, and of Accounting the cursors go to 0 and counts are made.
-/
theorem State.lineRestart_eq (straps : BitVec 6) (s : State) :
    s.lineRestart straps =
      { s with
        lif := { receiver := .waiting, queue := [], beaconTimer := none, clash := false }
        pvt := emptyView
        lde := restartedEstimator s.lde
        cvu := { book := [], recallTimer := none, recallGuard := none }
        rsq := restartedSequencer s.rsq
        plu := { s.plu with windowOpen := false, windowTimer := none, hold := false, rouse := false }
        cfl := { s.cfl with station := straps, load := .reading, readTimer := some (s.clock + Config.readLimit) }
        acc :=
          { s.acc with
            counts := (s.lineRestart straps).acc.counts, cursor0 := 0, cursor1 := 0, cursor2 := 0, cursor3 := 0 } } := by
  have accounts : (s.lineRestart straps).acc =
      { s.acc with
        counts := (s.lineRestart straps).acc.counts, cursor0 := 0, cursor1 := 0, cursor2 := 0, cursor3 := 0 } :=
    Accounting.with_cursors (a := (s.emptyBook.bump .lineRestarts).acc) (by simp) 0 0 0 0
  rw [← accounts]
  simp [State.lineRestart, State.emptyBook]

/-- Settles O8: the restart writes each block but the Carrier Link Port, and counts the pledges of the book it empties. -/
theorem restartResetsBlocks : Obligations.RestartResetsBlocks := by
  intro after sender straps s hears maintenance other
  refine ⟨(s.arrived after .restart).lineRestart straps, ?answered, State.lineRestart_eq straps _, ?counted⟩
  case answered => rw [exec_restart, execRestart, State.event_arrive hears other fun _ => maintenance]
  case counted =>
    have emptied : Counted s ((s.arrived after .restart).onCvu fun _ => { book := [], recallTimer := none, recallGuard :=
      none })
        [.arrivals .restart] := s.counted_arrived after .restart
    refine Counted.perm (fun c => ((emptied.bumpFor (.removed .restart) s.cvu.book).bump .lineRestarts) c) ?_
    simp

end Sys2Proof.Machine
end

section
/-! PROOFS. Which counters each operation may raise, operation by operation: a counter outside its class is left (R168). -/

namespace Sys2Proof.Machine

/-- The counters a wake may raise: those of its RESUME's offer, of its cause and of an orphan (R96, R101, R142). -/
def wakeCounter : Counter → Bool
  | .wakes _ | .orphanWakes => true
  | c => queueCounter c

/-- The counters a recall that starts may raise (R70, R72, R142). -/
def recallCounter : Counter → Bool
  | .recallsSent | .overloadRecalls | .continuousRecalls => true
  | c => queueCounter c

/-- The counters that the stages of a SAMPLE after the port's work may raise. -/
def stageCounter : Counter → Bool
  | .recallsSent | .overloadRecalls | .continuousRecalls | .setAside | .asksSent | .drainFailures | .unsettledRaisings
  | .restsEntered | .deepEntries => true
  | c => wakeCounter c

variable {c : Counter} (s : State)

theorem queueCounter_of_wakeCounter (h : wakeCounter c = false) : queueCounter c = false := by
  cases c <;> simp_all [wakeCounter, queueCounter]

theorem queueCounter_of_recallCounter (h : recallCounter c = false) : queueCounter c = false := by
  cases c <;> simp_all [recallCounter, queueCounter]

theorem wakeCounter_of_stageCounter (h : stageCounter c = false) : wakeCounter c = false := by
  cases c <;> simp_all [stageCounter, wakeCounter, queueCounter]

theorem recallCounter_of_stageCounter (h : stageCounter c = false) : recallCounter c = false := by
  cases c <;> simp_all [stageCounter, recallCounter, wakeCounter, queueCounter]

theorem State.count_bump_ne {d : Counter} (ne : c ≠ d) : (s.bump d).count c = s.count c := by
  rw [State.count_bump, if_neg ne]

theorem State.count_doWhen_bump {d : Counter} (b : Bool) (ne : c ≠ d) :
    (doWhen b (State.bump d) s).count c = s.count c :=
  State.count_doWhen s b (s.count_bump_ne ne)

/-! ## Wakes and conditions -/

section
variable (h : wakeCounter c = false)
include h

theorem State.count_wake_class (cause : WakeCause) : (s.wake cause).count c = s.count c :=
  State.count_wake_kept (queueCounter_of_wakeCounter h) (fun k is => by rw [is] at h; cases h)
    (fun is => by rw [is] at h; cases h) cause

theorem State.count_formTerms_class : s.formTerms.count c = s.count c := by
  rcases s.formTerms_cases with same | woken
  · simp [same]
  · rw [woken, State.count_wake_class _ h]
    simp

theorem State.count_rouseAtEntry_class : s.rouseAtEntry.count c = s.count c :=
  State.count_doWhen s _ (s.count_wake_class h .rouse)

theorem State.count_setCondition_class (old new : Bool) {write : State → State} (kept : (write s).count c = s.count c) :
    (s.setCondition old new write).count c = s.count c := by
  unfold State.setCondition
  split
  · rfl
  · rw [State.count_formTerms_class _ h, kept]

theorem State.count_setLinkLost_class (b : Bool) : (s.setLinkLost b).count c = s.count c :=
  State.count_setCondition_class s h _ _ (by simp)

theorem State.count_setNoCover_class (b : Bool) : (s.setNoCover b).count c = s.count c :=
  State.count_setCondition_class s h _ _ (by simp)

theorem State.count_endRecentRecall_class : s.endRecentRecall.count c = s.count c :=
  State.count_setCondition_class s h _ _ (by simp)

theorem State.count_formIsolated_class : s.formIsolated.count c = s.count c :=
  State.count_setCondition_class s h _ _ (by simp)

theorem State.count_setCarrierFault_class (b : Bool) (ne : c ≠ .carrierFaults) : (s.setCarrierFault b).count c = s.count c :=
  State.count_setCondition_class s h _ _ ((State.count_doWhen_bump _ _ ne).trans (by simp))

theorem State.count_setUnsettled_class (b : Bool) (ne : c ≠ .unsettledRaisings) : (s.setUnsettled b).count c = s.count c :=
  State.count_setCondition_class s h _ _ ((State.count_doWhen_bump _ _ ne).trans (by simp))

theorem State.count_formSettled_class (ne : c ≠ .unsettledRaisings) : s.formSettled.count c = s.count c := by
  unfold State.formSettled
  split
  · simp [State.count_setUnsettled_class _ h _ ne]
  · rfl

end

/-! ## Recalls and removals -/

section
variable (h : recallCounter c = false)
include h

theorem State.count_sendRecall_class (p : Pledge) : (s.sendRecall p).count c = s.count c := by
  have ne : c ≠ .recallsSent := by rintro rfl; cases h
  simp [State.sendRecall, State.count_bump_ne _ ne, State.count_offer_other (queueCounter_of_recallCounter h)]

theorem State.count_startRecall_class {counted : Counter} (raised : recallCounter counted = true) :
    (s.startRecall counted).count c = s.count c := by
  have ne : c ≠ counted := by rintro rfl; simp [h] at raised
  unfold State.startRecall
  split
  · rfl
  · simp [State.count_bump_ne _ ne, State.count_sendRecall_class _ h]

theorem State.count_continuousCheck_class : s.continuousCheck.count c = s.count c := by
  unfold State.continuousCheck
  split
  · exact State.count_startRecall_class s h rfl
  · rfl

theorem State.count_overloadTest_class : s.overloadTest.count c = s.count c := by
  unfold State.overloadTest
  split
  · exact State.count_startRecall_class s h rfl
  · rfl

theorem State.count_coverStage_class : s.coverStage.count c = s.count c := by
  unfold State.coverStage
  dsimp only
  split
  · simp [State.count_continuousCheck_class _ h]
  · simp [State.count_overloadTest_class _ h]

theorem State.count_endCall_class (cause : RemovalCause) : (s.endCall cause).count c = s.count c := by
  unfold State.endCall
  rw [State.count_continuousCheck_class _ h, State.count_doWhen]
  · simp
  · unfold State.startRecallGuard
    split <;> simp

theorem State.count_removePledge_class (p : Pledge) {cause : RemovalCause} (ne : c ≠ .removed cause) :
    (s.removePledge p cause).count c = s.count c := by
  unfold State.removePledge
  rw [State.count_doWhen _ _ (State.count_endCall_class _ h cause), State.count_bump_ne _ ne]
  simp

theorem State.count_replaceFor_class (asker : Nat) (ne : c ≠ .removed .replaced) :
    (s.replaceFor asker).count c = s.count c := by
  unfold State.replaceFor
  split
  · exact State.count_removePledge_class s h _ ne
  · rfl

end

/-! ## The stages of a SAMPLE -/

section
variable (h : stageCounter c = false)
include h

theorem State.count_bump_stage {d : Counter} (raised : stageCounter d = true) : (s.bump d).count c = s.count c :=
  s.count_bump_ne (by rintro rfl; simp [h] at raised)

theorem State.count_enterStandby_class : s.enterStandby.count c = s.count c := by
  have ne : c ≠ .unsettledRaisings := by rintro rfl; cases h
  simp [State.enterStandby, State.count_rouseAtEntry_class _ (wakeCounter_of_stageCounter h),
    State.count_formSettled_class _ (wakeCounter_of_stageCounter h) ne, State.count_bump_stage _ h (d := .restsEntered) rfl]

theorem State.count_enterDeep_class : s.enterDeep.count c = s.count c := by
  unfold State.enterDeep
  dsimp only
  rw [State.count_rouseAtEntry_class _ (wakeCounter_of_stageCounter h)]
  split <;> simp [State.count_bump_stage _ h (d := .deepEntries) rfl]

theorem State.count_failDrain_class : s.failDrain.count c = s.count c := by
  simp [State.failDrain, State.startBackoff, State.count_bump_stage _ h (d := .drainFailures) rfl,
    State.count_resumeToCover_other (queueCounter_of_wakeCounter (wakeCounter_of_stageCounter h))]

theorem State.count_completeWake_class : s.completeWake.count c = s.count c := by
  unfold State.completeWake
  split <;> simp [State.count_resumeToCover_other (queueCounter_of_wakeCounter (wakeCounter_of_stageCounter h))]

theorem State.count_carrierStep_class (condition : CarrierCondition) : (s.carrierStep condition).count c = s.count c := by
  unfold State.carrierStep
  split
  case h_1 => simp
  case h_2 => exact State.count_enterStandby_class s h
  case h_3 => exact State.count_failDrain_class s h
  case h_4 =>
    split
    · exact State.count_enterDeep_class s h
    · rfl
  case h_5 => exact State.count_completeWake_class s h
  case h_6 => exact State.count_completeWake_class s h
  case h_7 => rfl

theorem State.count_startAttempt_class (cover amount : Nat) : (s.startAttempt cover amount).count c = s.count c := by
  simp [State.startAttempt, State.count_bump_stage _ h (d := .asksSent) rfl,
    State.count_offer_other (queueCounter_of_wakeCounter (wakeCounter_of_stageCounter h))]

theorem State.count_eligibilityStage_class (arrivedAwake : Bool) :
    (s.eligibilityStage arrivedAwake).count c = s.count c := by
  have noCover : ∀ (s : State) b, (s.setNoCover b).count c = s.count c := fun s b =>
    State.count_setNoCover_class s (wakeCounter_of_stageCounter h) b
  unfold State.eligibilityStage State.evaluateEligibility
  dsimp only
  repeat' split
  · rw [State.count_startAttempt_class _ h, noCover]
  · exact noCover _ _
  · exact noCover _ _
  · exact noCover _ _
  · rfl

theorem State.count_sampleStages_class (u : BitVec 10) (n : BitVec 11) (condition : CarrierCondition)
    (arrivedAwake : Bool) : (s.sampleStages u n condition arrivedAwake).count c = s.count c := by
  unfold State.sampleStages
  split
  · rfl
  · split
    · rw [State.count_eligibilityStage_class _ h, State.count_carrierStep_class _ h,
        State.count_coverStage_class _ (recallCounter_of_stageCounter h)]
      simp
    · rw [State.count_carrierStep_class _ h, State.count_bump_stage _ h rfl]

end

end Sys2Proof.Machine
end

section
/-! PROOFS. A valid SAMPLE outside its stages: the port's own work and the reply, in every phase; a SAMPLE in LOADING, and
one the guard sets aside (R3, R4, R154, R155, R157, R164; O9, O10). -/

namespace Sys2Proof.Machine

variable (s : State)

/-! ## Conditions written -/

theorem State.setLinkLost_lde (b : Bool) : (s.setLinkLost b).lde = { s.lde with linkLost := b } := by
  unfold State.setLinkLost State.setCondition
  split
  next same => rw [← same]
  next => simp

theorem State.setCarrierFault_clp (b : Bool) : (s.setCarrierFault b).clp = { s.clp with carrierFault := b } := by
  unfold State.setCarrierFault State.setCondition
  split
  next same => rw [← same]
  next => simp

/-- In LOADING no term is formed and none is reported (R131). -/
theorem State.formTerms_loading {s : State} (loading : s.rsq.phase = .loading) : s.formTerms = s := by
  rw [State.formTerms_of_still fun up => absurd loading up, State.formValues_loading loading]

/-- In LOADING a condition is written, or is as it was, and that is all. -/
theorem State.setCondition_loading {s : State} {old new : Bool} {write : State → State}
    (loading : (write s).rsq.phase = .loading) :
    s.setCondition old new write = s ∨ s.setCondition old new write = write s := by
  unfold State.setCondition
  split
  next => exact .inl rfl
  next => exact .inr (State.formTerms_loading loading)

/-! ## Blocks of which little changes -/

/-- A state is its blocks. -/
theorem State.eq_of_blocks {s t : State} (held : s.held = t.held) (clock : s.clock = t.clock)
    (pending : s.pending = t.pending) (lif : s.lif = t.lif) (pvt : s.pvt = t.pvt) (lde : s.lde = t.lde)
    (cvu : s.cvu = t.cvu) (rsq : s.rsq = t.rsq) (plu : s.plu = t.plu) (clp : s.clp = t.clp) (cfl : s.cfl = t.cfl)
    (acc : s.acc = t.acc) : s = t := by
  cases s; cases t; simp_all

/-- A Line Interface that keeps all but its queue. -/
theorem LineInterface.eq_with_queue {l m : LineInterface} (receiver : m.receiver = l.receiver)
    (timer : m.beaconTimer = l.beaconTimer) (clash : m.clash = l.clash) : m = { l with queue := m.queue } := by
  cases l; cases m; simp_all

/-- A Policy Unit that keeps all but its term values. -/
theorem PolicyUnit.eq_with_terms {p q : PolicyUnit} (isOpen : q.windowOpen = p.windowOpen)
    (timer : q.windowTimer = p.windowTimer) (profile : q.activeProfile = p.activeProfile) (flags : q.flags = p.flags) :
    q = { p with hold := q.hold, rouse := q.rouse } := by
  cases p; cases q; simp_all

/-- A view that keeps all but its slots. -/
theorem PeerView.eq_with_slots {v w : PeerView} (pointer : w.pointer = v.pointer) (full : w.viewFull = v.viewFull)
    (isolated : w.isolated = v.isolated) : w = { v with slots := w.slots } := by
  cases v; cases w; simp_all

/-! ## The port's work -/

theorem State.portStage_clp (condition : CarrierCondition) :
    (s.portStage condition).clp =
      { s.clp with
        link := .up, watch := some (s.clock + 5000000), lastCondition := some condition
        carrierFault := condition == .fault } := by
  unfold State.portStage
  dsimp only
  rw [State.setCarrierFault_clp]
  split <;> simp [Config.linkWatch, second]

theorem State.portStage_lde (condition : CarrierCondition) :
    (s.portStage condition).lde =
      { s.lde with linkLost := if s.clp.link = .lost then false else s.lde.linkLost } := by
  unfold State.portStage
  dsimp only
  split <;> simp [State.setLinkLost_lde]

/-- A count made where a condition says so. -/
theorem State.count_doWhen_bump_eq (b : Bool) (c d : Counter) :
    (doWhen b (State.bump d) s).count c =
      if c = d ∧ b = true then saturatingSucc Config.counterLimit (s.count c) else s.count c := by
  cases b <;> simp [doWhen, State.count_bump]

/-- Whether the port counts under a counter: the SAMPLE, a return of the link, a fault raised (R154, R157). -/
def portCounts (s : State) (condition : CarrierCondition) (c : Counter) : Bool :=
  c == .validSamples || (c == .linkReturns && s.clp.link == .lost) ||
    (c == .carrierFaults && !s.clp.carrierFault && condition == .fault)

/-- The port counts the SAMPLE, a return of the link and a fault raised; a wake it starts counts itself. -/
theorem State.count_portStage_class {c : Counter} (h : wakeCounter c = false) (condition : CarrierCondition) :
    (s.portStage condition).count c =
      if portCounts s condition c then saturatingSucc Config.counterLimit (s.count c) else s.count c := by
  have fault : ∀ (r : State), (r.setCarrierFault (condition == .fault)).count c =
      if c = .carrierFaults ∧ r.clp.carrierFault = false ∧ condition = .fault then
        saturatingSucc Config.counterLimit (r.count c)
      else r.count c := by
    intro r
    unfold State.setCarrierFault State.setCondition
    split
    next same => rw [if_neg]; rintro ⟨-, was, is⟩; simp [was, is] at same
    next changes =>
      rw [State.count_formTerms_class _ h, State.count_doWhen_bump_eq]
      by_cases is : condition = .fault
      · simp_all
      · simp_all
  unfold State.portStage portCounts
  dsimp only
  rw [fault]
  by_cases lost : s.clp.link = .lost
  · simp only [lost, if_true, State.onClp_clp, State.setLinkLost_frame, State.bump_frame, State.count_of_block,
      State.count_setLinkLost_class _ h, State.count_bump]
    split_ifs <;> simp_all
  · simp only [lost, if_false, State.onClp_clp, State.bump_frame, State.count_of_block, State.count_bump]
    split_ifs <;> simp_all

theorem State.carrierStep_pvt (condition : CarrierCondition) :
    (s.carrierStep condition).pvt = s.pvt ∨ (s.carrierStep condition).pvt = s.pvt.clearSeen := by
  unfold State.carrierStep
  repeat' split
  all_goals simp [State.enterStandby]

theorem State.sampleStages_pvt (u : BitVec 10) (n : BitVec 11) (condition : CarrierCondition) (arrivedAwake : Bool) :
    (s.sampleStages u n condition arrivedAwake).pvt = s.pvt ∨
      (s.sampleStages u n condition arrivedAwake).pvt = s.pvt.clearSeen := by
  unfold State.sampleStages
  split
  · exact .inl rfl
  · split
    · simpa using State.carrierStep_pvt (s.useSample u n arrivedAwake).coverStage condition
    · simpa using State.carrierStep_pvt (s.bump .setAside) condition

/-- Marks cleared and then cleared again are marks cleared. -/
theorem PeerView.clearSeen_slots (v : PeerView) :
    v.clearSeen.slots.map (Option.map fun e => { e with seenUs := false }) =
      v.slots.map (Option.map fun e => { e with seenUs := false }) := by
  simp [PeerView.clearSeen, Function.comp_def]

/-! ## The reply -/

theorem State.replyToSample_clp :
    s.replyToSample.clp =
      { s.clp with
        currentOrder := s.rsq.order
        backlog :=
          if s.clp.backlog.length < 2 then
            s.clp.backlog ++ [{ recognized := true, phase := s.rsq.phase, order := s.rsq.order }]
          else s.clp.backlog } := by
  unfold State.replyToSample State.queueReply
  by_cases room : s.clp.backlog.length < 2 <;> simp [room]

theorem State.count_replyToSample_eq (c : Counter) :
    s.replyToSample.count c =
      if c = .repliesDropped ∧ 2 ≤ s.clp.backlog.length then saturatingSucc Config.counterLimit (s.count c)
      else s.count c := by
  unfold State.replyToSample State.queueReply
  by_cases room : s.clp.backlog.length < 2
  · simp [room, Nat.not_le.mpr room]
  · simp [room, Nat.not_lt.mp room, State.count_bump]

/-! ## The SAMPLE -/

/-- What the work of a SAMPLE leads to, whatever its stages do (R154). -/
def State.sampled (after : Micros) (u : BitVec 10) (n : BitVec 11) (condition : CarrierCondition) (s : State) : State :=
  (((s.elapse after).portStage condition).sampleStages u n condition (s.rsq.phase == .awake)).replyToSample

theorem exec_validSample_live {s : State} (out : s.held = false) (after : Micros) (u : BitVec 10) (n : BitVec 11)
    (condition : CarrierCondition) :
    exec (.validSample after u n condition) s = .next (s.sampled after u n condition) := exec_live _ out

/-- The counts of a SAMPLE outside its stages (R154, R155, R157). -/
theorem State.count_sampled {c : Counter} (h : stageCounter c = false) (after : Micros) (u : BitVec 10) (n : BitVec 11)
    (condition : CarrierCondition) :
    (s.sampled after u n condition).count c =
      if portCounts s condition c = true ∨ (c = .repliesDropped ∧ 2 ≤ s.clp.backlog.length) then
        saturatingSucc Config.counterLimit (s.count c)
      else s.count c := by
  have backlog : (((s.elapse after).portStage condition).sampleStages u n condition (s.rsq.phase == .awake)).clp.backlog =
      s.clp.backlog := by simp [State.portStage_clp]
  have port : portCounts (s.elapse after) condition c = portCounts s condition c := rfl
  rw [State.sampled, State.count_replyToSample_eq, State.count_sampleStages_class _ h,
    State.count_portStage_class _ (wakeCounter_of_stageCounter h), backlog, port, State.count_elapse]
  by_cases dropped : c = .repliesDropped
  · subst dropped
    simp [portCounts]
  · simp [dropped]

/-- Settles O9: the port's work and the reply, field by field; the stages leave the link, the configuration and all that is
said to stay. -/
theorem validSampleIsAnswered : Obligations.ValidSampleIsAnswered := by
  intro after u n condition s out
  refine ⟨_, exec_validSample_live out after u n condition, ?link, ?linkLost, ?valid, ?returns, ?faults, ?replies,
    by simp [State.sampled], ?line, ?policy, by simp [State.sampled], ?marks, ?view,
    countsAlone_of (by simp [State.sampled])⟩
  case link => simp [State.sampled, State.replyToSample_clp, State.portStage_clp]
  case linkLost =>
    have lde : (s.sampled after u n condition).lde.linkLost = ((s.elapse after).portStage condition).lde.linkLost := by
      simp [State.sampled]
    rw [lde, State.portStage_lde]
    rfl
  case valid =>
    rw [State.count_sampled _ rfl]
    rfl
  case returns =>
    rw [State.count_sampled _ rfl]
    by_cases lost : s.clp.link = .lost <;> simp [portCounts, lost, saturatingSucc, Config.counterLimit]
  case faults =>
    rw [State.count_sampled _ rfl]
    cases was : s.clp.carrierFault <;> simp [portCounts, was, saturatingSucc, Config.counterLimit]
  case replies =>
    rw [State.count_sampled _ rfl]
    by_cases room : s.clp.backlog.length < 2
    · simp [portCounts, room, Nat.not_le.mpr room]
    · simp [portCounts, room, Nat.not_lt.mp room, saturatingSucc, Config.counterLimit]
  case line => exact LineInterface.eq_with_queue (by simp [State.sampled]) (by simp [State.sampled]) (by simp [State.sampled])
  case policy =>
    exact PolicyUnit.eq_with_terms (by simp [State.sampled]) (by simp [State.sampled]) (by simp [State.sampled])
      (by simp [State.sampled])
  case marks =>
    have view : (s.sampled after u n condition).pvt = s.pvt ∨ (s.sampled after u n condition).pvt = s.pvt.clearSeen := by
      simpa [State.sampled] using ((s.elapse after).portStage condition).sampleStages_pvt u n condition (s.rsq.phase == .awake)
    rcases view with same | cleared
    · rw [same]
    · rw [cleared, PeerView.clearSeen_slots]
  case view => exact PeerView.eq_with_slots (by simp [State.sampled]) (by simp [State.sampled]) (by simp [State.sampled])

/-! ## Unused samples -/

/-- In LOADING the port's work writes the link and LINK_LOST, and counts (R131, R154). -/
theorem State.portStage_loading {s : State} (loading : s.rsq.phase = .loading) (condition : CarrierCondition) :
    s.portStage condition =
      { s with
        lde := { s.lde with linkLost := if s.clp.link = .lost then false else s.lde.linkLost }
        clp := (s.portStage condition).clp, acc := (s.portStage condition).acc } := by
  have lost : ∀ (r : State) b, r.rsq.phase = .loading → (r.setLinkLost b).rsq = r.rsq ∧ (r.setLinkLost b).plu = r.plu ∧
      (r.setLinkLost b).lif = r.lif := by
    intro r b up
    rcases State.setCondition_loading (s := r) (old := r.lde.linkLost) (new := b)
      (write := fun s => s.onLde fun e => { e with linkLost := b }) (by simpa using up) with same | written
    · simp [State.setLinkLost, same]
    · simp [State.setLinkLost, written]
  have fault : ∀ (r : State) b, r.rsq.phase = .loading → (r.setCarrierFault b).rsq = r.rsq ∧
      (r.setCarrierFault b).plu = r.plu ∧ (r.setCarrierFault b).lif = r.lif := by
    intro r b up
    rcases State.setCondition_loading (s := r) (old := r.clp.carrierFault) (new := b)
      (write := fun s => doWhen b (State.bump .carrierFaults) (s.onClp fun c => { c with carrierFault := b }))
      (by simpa using up) with same | written
    · simp [State.setCarrierFault, same]
    · simp [State.setCarrierFault, written]
  have blocks : (s.portStage condition).rsq = s.rsq ∧ (s.portStage condition).plu = s.plu ∧
      (s.portStage condition).lif = s.lif := by
    unfold State.portStage
    dsimp only
    split
    · have returned := lost ((((s.bump .validSamples).onClp fun c => { c with link := .up }).bump .linkReturns)) false
        (by simpa using loading)
      rw [(fault _ _ (by simp [returned, loading])).1, (fault _ _ (by simp [returned, loading])).2.1,
        (fault _ _ (by simp [returned, loading])).2.2]
      simp [returned]
    · simp [fault, loading]
  obtain ⟨held, clock, pending, pvt, cvu, cfl, -⟩ := s.portStage_frame condition
  obtain ⟨rsq, plu, lif⟩ := blocks
  exact State.eq_of_blocks held clock pending lif pvt (s.portStage_lde condition) cvu rsq plu rfl cfl rfl

/-- Settles O10: in LOADING the port and the reply alone act; a SAMPLE set aside leaves the estimator and the book. -/
theorem unusedSamples : Obligations.UnusedSamples := by
  refine ⟨fun after u n condition s out loading => ?loading, fun after u n condition last s out up used early => ?aside⟩
  case loading =>
    have port := State.portStage_loading (s := s.elapse after) loading condition
    have phase : ((s.elapse after).portStage condition).rsq.phase = .loading := by rw [port]; exact loading
    have sampled : s.sampled after u n condition = ((s.elapse after).portStage condition).replyToSample := by
      rw [State.sampled, State.sampleStages, if_pos phase]
    have order : ((s.elapse after).portStage condition).rsq.order = .run := by rw [RestSequencer.order, phase]
    refine ⟨_, exec_validSample_live out after u n condition, ?_, ?_, fun room => ?_, ?_⟩
    · rw [sampled]
      refine State.eq_of_blocks ?_ ?_ ?_ ?_ ?_ ?_ ?_ ?_ ?_ rfl ?_ rfl
      all_goals
        simp only [State.replyToSample_frame]
        rw [port]
      rfl
    · rw [sampled, State.replyToSample_clp, order]
    · rw [sampled, State.replyToSample_clp]
      simp [State.portStage_clp, phase, order, room]
    · rw [sampled, State.count_replyToSample rfl, State.count_portStage rfl]
      rfl
  case aside =>
    have skipped : ¬SampleUsed s after := by
      rintro (none | ⟨other, is, late⟩)
      · simp [used] at none
      · rw [used, Option.some.injEq] at is
        subst is
        exact absurd late (Nat.not_le.mpr early)
    refine ⟨_, exec_validSample_setAside u n condition out up skipped, ?_, by simp, ?_, by simp, fun awake => ?_⟩
    · simp only [State.replyToSample_frame, State.carrierStep_frame, State.bump_frame, State.portStage_lde]
      rfl
    · rw [State.count_replyToSample rfl, State.count_carrierStep rfl, State.count_bump_same, State.count_portStage rfl]
      rfl
    · have still := (State.portStage_phase (s.elapse after) condition).1 awake
      simp only [State.replyToSample_frame]
      rw [State.carrierStep_awake _ _ (by simpa using still)]
      simpa using still

end Sys2Proof.Machine
end

section
/-! PROOFS. What follows a report to the sequencer and the cover in one event: an ask abandoned, a recall started, and a
forming that starts no wake (R70 to R72, R89, R96). -/

namespace Sys2Proof.Machine

variable {s t taken work : State}

/-! ## Recalls -/

theorem chooseRecall_nil : chooseRecall [] = none := rfl

/-- A RECALL that starts is offered, whatever counts are made (R72). -/
theorem State.startRecall_lif {p : Pledge} (counted : Counter) (chosen : chooseRecall s.cvu.book = some p) :
    (s.startRecall counted).lif = (s.offer (.recall p.leaner p.tag)).lif := by
  simp only [State.startRecall, chosen, State.bump_frame, State.sendRecall, State.onCvu_lif]
  exact State.offer_lif_congr (by simp) (by simp) _

/-- A recall that starts is counted under the rule that started it (R68, R70). -/
theorem State.count_startRecall_own {p : Pledge} {counted : Counter} (queue : queueCounter counted = false)
    (sent : counted ≠ .recallsSent) (chosen : chooseRecall s.cvu.book = some p) :
    (s.startRecall counted).count counted = min 65535 (s.count counted + 1) := by
  simp only [State.startRecall, chosen, State.count_bump_same, State.sendRecall, State.count_of_block]
  rw [State.count_bump_ne _ sent, State.count_offer_other queue]
  rfl

/-- In the mode a recall starts when there is a pledge to choose and none is CALLED (R70). -/
theorem State.continuousCheck_starts {p : Pledge} (mode : s.continuousRecall = true) (quiet : s.cvu.calling = false)
    (chosen : chooseRecall s.cvu.book = some p) : s.continuousCheck = s.startRecall .continuousRecalls := by
  have some : s.cvu.book ≠ [] := by
    intro empty
    rw [empty, chooseRecall_nil] at chosen
    cases chosen
  exact if_pos ⟨mode, some, quiet⟩

/-- The recall that the check starts, read from the state whose cover it is (R70, R72). -/
theorem State.continuousCheck_recall {p : Pledge} (mode : t.continuousRecall = true) (cover : t.cvu = s.cvu)
    (image : t.image = s.image) (quiet : s.cvu.calling = false) (chosen : chooseRecall s.cvu.book = some p) :
    t.continuousCheck.cvu.book =
        changePledge p.leaner (fun p => { p with state := .called, attempts := 1 }) s.cvu.book ∧
      t.continuousCheck.cvu.recallTimer = some (t.clock + s.recallLength p.depth) ∧
      t.continuousCheck.count .continuousRecalls = min 65535 (t.count .continuousRecalls + 1) ∧
      t.continuousCheck.lif = (t.offer (.recall p.leaner p.tag)).lif := by
  have there : chooseRecall t.cvu.book = some p := by rw [cover, chosen]
  have length : t.recallLength p.depth = s.recallLength p.depth := by simp [State.recallLength, State.beaconPeriod, image]
  rw [State.continuousCheck_starts mode (by rw [cover, quiet]) there]
  refine ⟨?_, ?_, State.count_startRecall_own rfl nofun there, State.startRecall_lif _ there⟩
  · rw [State.startRecall_cvu _ there, cover]
  · rw [State.startRecall_cvu _ there, length]

/-- No recall starts while one is on, nor with no pledge to choose. -/
theorem State.continuousCheck_quiet (nothing : s.cvu.calling = true ∨ chooseRecall s.cvu.book = none) :
    s.continuousCheck = s := by
  unfold State.continuousCheck
  split
  next starts =>
    rcases nothing with calling | none
    · simp [calling] at starts
    · exact State.startRecall_none _ none
  next => rfl

theorem State.continuousCheck_of_empty (empty : s.cvu.book = []) : s.continuousCheck = s :=
  State.continuousCheck_quiet (.inr (by rw [empty, chooseRecall_nil]))

/-- A station with a resting or draining phase holds no pledge (R55). -/
theorem BookOnlyAwake.empty (h : BookOnlyAwake s) (phase : s.rsq.phase ≠ .awake) : s.cvu.book = [] := by
  by_contra some
  exact phase (h some)

/-! ## The ask abandoned -/

theorem State.abandonAsk_seeking (seeking : s.rsq.phase = .seeking) :
    s.abandonAsk = (s.onRsq fun q => { q with askWait := none, cover := none, phase := .awake }).bump .abandonedAsks :=
  if_pos seeking

/-! ## A forming in a phase that takes no wake -/

/-- In AWAKE, SEEKING and the other phases that take no wake a forming writes the values alone (R96). -/
theorem State.formTerms_of_up (draining : s.rsq.phase ≠ .draining) (standby : s.rsq.phase ≠ .standby)
    (deep : s.rsq.phase ≠ .deep) : s.formTerms = s.formValues := by
  rcases s.formTerms_cases with same | woken
  · exact same
  · rw [woken, State.wake_ignored .rouse (by simpa using draining) (by simpa using standby) (by simpa using deep)]

/-- A forming moves no station into or out of LOADING, MUTE and SEEKING, and none in AWAKE. -/
theorem State.formTerms_phase_iff (s : State) :
    (s.rsq.phase = .awake → s.formTerms.rsq.phase = .awake) ∧
      (s.formTerms.rsq.phase = .loading ↔ s.rsq.phase = .loading) ∧
      (s.formTerms.rsq.phase = .mute ↔ s.rsq.phase = .mute) ∧
      (s.formTerms.rsq.phase = .seeking ↔ s.rsq.phase = .seeking) := by
  rcases s.formTerms_cases with same | woken
  · simp [same]
  · simpa [woken] using s.formValues.wake_phase_iff .rouse

end Sys2Proof.Machine
end

section
/-! PROOFS. The link lost (R13, R70, R89, R103, R158; O14). -/

namespace Sys2Proof.Machine

variable {s : State}

/-- The state in which the terms are formed at a link loss: the link LOST, the loss counted, the estimator blinded, LINK_LOST
true (R13, R158). -/
def State.linkDown (s : State) : State :=
  (((s.onClp fun c => { c with link := .lost, watch := none }).bump .linkLosses).onLde fun e =>
    { e with linkLost := true, quiet := 0, state := if e.state = .tracking then .blind else e.state })

theorem exec_linkWatchExpiry_due {after : Micros} (out : s.held = false) (due : Expired s.clp.watch s after)
    (up : s.lde.linkLost = false) :
    exec (.linkWatchExpiry after) s = .next ((s.elapse after).linkDown.formTerms.abandonAsk.continuousCheck) := by
  rw [exec_live _ out, commandWork, State.expiring_elapse rfl due]
  refine congrArg _ ?_
  have lost : ((s.elapse after).onClp fun c => { c with link := .lost, watch := none }).lde.linkLost ≠ true := by simp [up]
  simp only [State.loseLink]
  rw [if_neg (by simp [up]), State.setLinkLost, State.setCondition_changes _ _ (by simp [up])]
  rfl

/-- Settles O14: the terms are formed on the whole loss; an ask in SEEKING is abandoned, and the cover, now blind, makes its
check. A station that can be roused holds no pledge. -/
theorem linkWatchExpiryLosesLink : Obligations.LinkWatchExpiryLosesLink := by
  intro after s out due up
  have blind : (s.elapse after).linkDown.formTerms.abandonAsk.continuousRecall = true := by
    have state : (s.elapse after).linkDown.formTerms.abandonAsk.lde.isBlind = true := by
      simp only [State.abandonAsk_frame, State.formTerms_frame]
      change ((if s.lde.state = .tracking then EstimatorState.blind else s.lde.state) != .tracking) = true
      split <;> simp_all
    rw [State.continuousRecall, state, Bool.or_true, Bool.true_or]
  have image : (s.elapse after).linkDown.formTerms.abandonAsk.image = s.image := by simp [State.image, State.linkDown]
  have cover : (s.elapse after).linkDown.formTerms.abandonAsk.cvu = s.cvu := by simp [State.linkDown]
  have clock : (s.elapse after).linkDown.formTerms.abandonAsk.clock = s.clock + after := by simp [State.linkDown]
  refine ⟨_, exec_linkWatchExpiry_due out due up, by simp [State.linkDown], ?estimator, ?losses, fun seeking => ?seeking,
    fun other formed untested => ?still, fun p quiet chosen => ?calls, fun term was book => ?roused,
    by simp [State.linkDown], by simp [State.linkDown], ?policy, ?line⟩
  case estimator =>
    simp only [State.continuousCheck_frame, State.abandonAsk_frame, State.formTerms_frame]
    rfl
  case losses =>
    rw [State.count_continuousCheck_class _ rfl, State.count_abandonAsk (by simp), State.count_formTerms_class _ rfl]
    simp [State.linkDown, saturatingSucc, Config.counterLimit]
  case seeking =>
    have phase : (s.elapse after).linkDown.rsq.phase = .seeking := seeking
    rw [State.formTerms_of_up (by simp [phase]) (by simp [phase]) (by simp [phase]),
      State.count_continuousCheck_class _ rfl, State.abandonAsk_seeking (by simpa using phase)]
    simp [State.linkDown, State.count_bump, saturatingSucc, Config.counterLimit]
  case still =>
    have values := formed.formTerms_of_untested (work := (s.elapse after).linkDown) Iff.rfl rfl rfl
      (State.condition_congr_at (fun is => absurd is (code_toNat_ne untested)) (fun _ => rfl) (fun _ => rfl) (fun _ => rfl)
        (fun _ => rfl) (fun _ => rfl) (fun _ => rfl) rfl)
    rw [values, State.abandonAsk_of_ne (by simpa [State.linkDown] using other)]
    simp [State.linkDown]
  case calls =>
    obtain ⟨called, timer, counted, line⟩ := State.continuousCheck_recall blind cover image quiet chosen
    refine ⟨called, by rw [timer, clock], ?_, fun awake => ?_⟩
    · rw [counted, State.count_abandonAsk (by simp), State.count_formTerms_class _ rfl]
      simp [State.linkDown, State.count_bump]
    · have phase : (s.elapse after).linkDown.rsq.phase = .awake := awake
      rw [line, State.formTerms_of_up (by simp [phase]) (by simp [phase]) (by simp [phase]),
        State.abandonAsk_of_ne (by simp [phase])]
      exact State.offer_lif_congr (by simp [State.linkDown]) (by simp [State.linkDown]) _
  case roused =>
    by_cases up : s.rsq.phase = .draining ∨ s.rsq.phase = .standby ∨ s.rsq.phase = .deep
    · have empty : s.cvu.book = [] := book.empty (by rcases up with is | is | is <;> simp [is])
      have rouse : Roused s (s.elapse after) (s.elapse after).linkDown.formTerms :=
        WakesAs.roused_by_forming ⟨rfl, rfl, rfl, rfl, rfl, State.count_bump_ne _ nofun, State.count_bump_ne _ nofun⟩ rfl rfl was (by
          change State.testTerm _ s.profile.rouse = true
          rw [term]
          rfl)
      have seeking : (s.elapse after).linkDown.formTerms.rsq.phase ≠ .seeking := by
        obtain ⟨-, -, -, iff⟩ := (s.elapse after).linkDown.formTerms_phase_iff
        rw [Ne, iff]
        change s.rsq.phase ≠ .seeking
        rcases up with is | is | is <;> simp [is]
      rwa [State.continuousCheck_of_empty (by rw [cover, empty]), State.abandonAsk_of_ne seeking]
    · simp only [not_or] at up
      exact .of_up up.1 up.2.1 up.2.2
  case policy =>
    exact PolicyUnit.eq_with_terms (by simp [State.linkDown]) (by simp [State.linkDown]) (by simp [State.linkDown])
      (by simp [State.linkDown])
  case line =>
    exact LineInterface.eq_with_queue (by simp [State.linkDown]) (by simp [State.linkDown]) (by simp [State.linkDown])

end Sys2Proof.Machine
end

section
/-! PROOFS. A pledge removed: what is written, and the recall that the end of its call starts (R69, R70, R74, R75). -/

namespace Sys2Proof.Machine

variable {s t : State} {p q : Pledge} {cause : RemovalCause}

/-! ## The state a removal leads to -/

/-- The book without a pledge, the removal counted; the end of its call stops the recall timer, and starts the guard for its
causes (R69, R74, R75). -/
def State.released (p : Pledge) (cause : RemovalCause) (s : State) : State :=
  { s.bump (.removed cause) with
    cvu :=
      { book := s.cvu.book.filter (·.leaner != p.leaner)
        recallTimer := if p.state = .called then none else s.cvu.recallTimer
        recallGuard :=
          if p.state = .called ∧ guardsRecall cause = true ∧ s.profile.recallGuard ≠ 0 then
            some (s.clock + s.profile.recallGuard * 1000000)
          else s.cvu.recallGuard } }

/-- The guard's start, by whether the profile's time is 0 (R69). -/
theorem State.startRecallGuard_eq (s : State) :
    s.startRecallGuard =
      { s with
        cvu :=
          { s.cvu with
            recallGuard :=
              if s.profile.recallGuard ≠ 0 then some (s.clock + s.profile.recallGuard * 1000000)
              else s.cvu.recallGuard } } := by
  unfold State.startRecallGuard
  by_cases zero : s.profile.recallGuard = 0
  · simp [zero]
  · simp [zero, State.onCvu, second]

theorem State.removePledge_eq (p : Pledge) (cause : RemovalCause) (s : State) :
    s.removePledge p cause =
      if p.state = .called then (s.released p cause).continuousCheck else s.released p cause := by
  by_cases called : p.state = .called
  · rw [if_pos called, State.removePledge, called]
    refine congrArg State.continuousCheck ?_
    cases starts : guardsRecall cause with
    | false => simp [doWhen, State.released, State.onCvu, State.bump, State.onAcc, called, starts]
    | true =>
      simp only [doWhen, if_true, State.startRecallGuard_eq, State.released, called, starts, true_and]
      rfl
  · rw [if_neg called, State.removePledge, beq_false_of_ne called]
    simp [doWhen, State.released, called, State.onCvu, State.bump, State.onAcc]

theorem State.released_mode : (s.released p cause).continuousRecall = s.continuousRecall := rfl

/-- Without a call that ends in the mode, or with no pledge left, a removal starts no recall (R70, R74). -/
theorem State.removePledge_alone (alone : p.state = .called → s.continuousRecall = false ∨ s.cvu.book = [p]) :
    s.removePledge p cause = s.released p cause := by
  rw [State.removePledge_eq]
  split
  next called =>
    rcases alone called with off | only
    · exact if_neg (by simp [State.released_mode, off])
    · exact State.continuousCheck_of_empty (by simp [State.released, only])
  next => rfl

/-- The end of a call in the mode starts the recall of the pledge chosen among those left (R70, R74). -/
theorem BookKept.removePledge_recall (kept : BookKept s.cvu.book) (held : p ∈ s.cvu.book) (called : p.state = .called)
    (mode : s.continuousRecall = true) (chosen : chooseRecall (s.cvu.book.filter (·.leaner != p.leaner)) = some q) :
    s.removePledge p cause = (s.released p cause).startRecall .continuousRecalls := by
  have quiet : (s.released p cause).cvu.calling = false :=
    (kept.calling_removed held _ _).trans (by simp [called])
  rw [State.removePledge_eq, if_pos called, State.continuousCheck_starts (by rw [State.released_mode, mode]) quiet chosen]

/-- A recall that starts is counted as sent (R72; log 25). -/
theorem State.count_startRecall_sent {counted : Counter} (other : counted ≠ .recallsSent)
    (chosen : chooseRecall s.cvu.book = some p) :
    (s.startRecall counted).count .recallsSent = min 65535 (s.count .recallsSent + 1) := by
  simp only [State.startRecall, chosen]
  rw [State.count_bump_ne _ other.symm]
  simp only [State.sendRecall, State.count_of_block, State.count_bump_same]
  rw [State.count_offer_other rfl]
  rfl

/-- What that recall leaves of the cover, the line and the counts. -/
theorem BookKept.removePledge_next (kept : BookKept s.cvu.book) (held : p ∈ s.cvu.book) (called : p.state = .called)
    (mode : s.continuousRecall = true) (chosen : chooseRecall (s.cvu.book.filter (·.leaner != p.leaner)) = some q) :
    (s.removePledge p cause).cvu =
        { (s.released p cause).cvu with
          book :=
            changePledge q.leaner (fun q => { q with state := .called, attempts := 1 })
              (s.cvu.book.filter (·.leaner != p.leaner))
          recallTimer := some (s.clock + s.recallLength q.depth) } ∧
      (s.removePledge p cause).lif = (s.offer (.recall q.leaner q.tag)).lif ∧
      (s.removePledge p cause).count .continuousRecalls = min 65535 (s.count .continuousRecalls + 1) ∧
      (s.removePledge p cause).count .recallsSent = min 65535 (s.count .recallsSent + 1) := by
  have there : chooseRecall (s.released p cause).cvu.book = some q := chosen
  have kept_ (c : Counter) (other : c ≠ .removed cause) : (s.released p cause).count c = s.count c :=
    s.count_bump_ne other
  rw [kept.removePledge_recall held called mode chosen]
  refine ⟨State.startRecall_cvu _ there, ?_, ?_, ?_⟩
  · rw [State.startRecall_lif _ there]
    exact State.offer_lif_congr (s := s) (t := s.released p cause) rfl rfl _
  · rw [State.count_startRecall_own rfl (by simp) there, kept_ _ (by simp)]
  · rw [State.count_startRecall_sent (by simp) there, kept_ _ (by simp)]

/-- A removal is counted under its cause (R75). -/
theorem State.count_removePledge (p : Pledge) (cause : RemovalCause) (s : State) :
    (s.removePledge p cause).count (.removed cause) = min 65535 (s.count (.removed cause) + 1) := by
  have counted : (s.released p cause).count (.removed cause) = min 65535 (s.count (.removed cause) + 1) :=
    s.count_bump_same _
  rw [State.removePledge_eq]
  split
  · rw [State.count_continuousCheck_class _ rfl, counted]
  · exact counted

/-- The pledge found for a leaner is the one it has (R55). -/
theorem BookKept.pledgeOf {c : CoverUnit} (kept : BookKept c.book) (held : p ∈ c.book) : c.pledgeOf p.leaner = some p := by
  cases found : c.pledgeOf p.leaner with
  | none => exact absurd rfl (CoverUnit.pledgeOf_none found p held)
  | some r =>
    obtain ⟨mem, same⟩ := CoverUnit.pledgeOf_some found
    rw [kept.leaner_unique mem held same]

/-! ## RESUME and the recall timer -/

theorem exec_resume (after : Micros) (sender : BitVec 6) (tag : BitVec 8) (s : State) :
    exec (.resume after sender tag) s = execResume after sender tag s := rfl

/-- A RESUME from another station reaches the Cover Unit (R146). -/
theorem exec_resume_heard {sender : BitVec 6} (hears : Hears s) (other : sender ≠ s.cfl.station) (after : Micros)
    (tag : BitVec 8) :
    exec (.resume after sender tag) s = .next ((s.arrived after .resume).takeResume sender.toNat tag) := by
  rw [exec_resume, execResume, State.event_arrive hears other (by simp [maintenanceKind])]

/-- A RESUME that matches a pledge removes it (R66). -/
theorem BookKept.takeResume (kept : BookKept s.cvu.book) (held : p ∈ s.cvu.book) :
    s.takeResume p.leaner p.tag = s.removePledge p .resumed := by
  have found : s.cvu.book.find? (fun q => q.leaner == p.leaner && q.tag == p.tag) = some p := by
    cases found : s.cvu.book.find? (fun q => q.leaner == p.leaner && q.tag == p.tag) with
    | none =>
      have passes := List.find?_eq_none.mp found p held
      simp at passes
    | some r =>
      have passes := List.find?_some found
      simp only [Bool.and_eq_true, beq_iff_eq] at passes
      rw [kept.leaner_unique (List.mem_of_find?_eq_some found) held passes.1]
  rw [State.takeResume, found]

/-- Settles O22: the pledge of the sender and tag is removed as RESUMED; the end of its call starts the guard, and in the
mode the next recall. -/
theorem resumeReleases : Obligations.ResumeReleases := by
  refine ⟨fun after sender tag s hears other => ⟨fun none => ?unmatched, fun p held leaner same kept alone => ?alone⟩,
    fun after sender tag p q s hears other kept held leaner same called mode chosen => ?next⟩
  case unmatched =>
    have missing : s.cvu.book.find? (fun p => p.leaner == sender.toNat && p.tag == tag) = Option.none :=
      List.find?_eq_none.mpr fun p held passes => none p held (by simpa using passes)
    rw [exec_resume_heard hears other, State.takeResume]
    simp only [State.arrived_frame, missing]
  case alone =>
    subst same
    have taken := BookKept.takeResume (s := s.arrived after .resume) kept held
    rw [exec_resume_heard hears other, ← leaner, taken, State.removePledge_alone (s := s.arrived after .resume) alone]
    simp [State.released, guardsRecall]
    rfl
  case next =>
    subst same
    have taken := BookKept.takeResume (s := s.arrived after .resume) kept held
    rw [← leaner] at chosen
    obtain ⟨cover, line, recalls, sent⟩ :=
      BookKept.removePledge_next (s := s.arrived after .resume) (cause := .resumed) kept held called mode chosen
    refine ⟨_, exec_resume_heard hears other after p.tag, ?_⟩
    rw [← leaner, taken]
    refine ⟨?_, line, ?_, by simpa using recalls, by simpa using sent⟩
    · rw [cover]
      simp [State.released, called, guardsRecall]
      exact ⟨rfl, rfl⟩
    · rw [State.count_removePledge]
      simp

end Sys2Proof.Machine
end

section
/-! PROOFS. The recall timer's expiry and the answer to an ask (R57 to R60, R70 to R74; O19, O20, O21, O25). -/

namespace Sys2Proof.Machine

variable {s : State} {p q : Pledge}

/-! ## The order of independent writes -/

/-- A notice is offered the same whatever the cover holds. -/
theorem State.enqueue_onCvu (f : CoverUnit → CoverUnit) (n : Notice) (s : State) :
    (s.onCvu f).enqueue n = (s.enqueue n).onCvu f := by
  rw [State.enqueue.eq_def, State.enqueue.eq_def]
  change (if s.lif.queue.length < Config.queueLimit then _ else _) = _
  split
  next => rfl
  next =>
    change (match displaced n s.lif.queue with | some _ => _ | none => _) = _
    cases displaced n s.lif.queue <;> rfl

theorem State.offer_onCvu (f : CoverUnit → CoverUnit) (n : Notice) (s : State) :
    (s.onCvu f).offer n = (s.offer n).onCvu f := by
  unfold State.offer
  rw [State.enqueue_onCvu]
  change (if s.rsq.phase = .mute ∨ s.rsq.phase = .loading then _ else _) = _
  split
  next => rfl
  next =>
    cases n.kind <;> dsimp only
    case beacon => exact (apply_ite (fun t : State => t.onCvu f) (s.lif.queue.any
      (·.notice.kind == .beacon) = true) _ _).symm
    case status =>
      change (if s.lif.queue.any replaceable = true then _ else _) = _
      split <;> rfl

/-- Two counters are raised in either order. -/
theorem State.bump_comm (c d : Counter) (s : State) : (s.bump c).bump d = (s.bump d).bump c := by
  by_cases same : c = d
  · rw [same]
  · have index : counterIndex c ≠ counterIndex d := fun is => same (counterIndex_injective is)
    have counts (n m : Nat) : (s.acc.setCount c n).setCount d m = (s.acc.setCount d m).setCount c n := by
      simp only [Accounting.setCount, Vector.set_comm _ _ index]
    simp only [State.bump, State.onAcc, Accounting.count_setCount_other _ _ same,
      Accounting.count_setCount_other _ _ (Ne.symm same), counts]

/-! ## The recall timer -/

/-- The CALLED pledge of a book is the one the recall timer's expiry takes (R72, R73). -/
theorem BookKept.called_eq {c : CoverUnit} (kept : BookKept c.book) (held : p ∈ c.book) (called : p.state = .called) :
    c.called = some p := by
  cases found : c.called with
  | none => exact absurd (CoverUnit.calling_iff.mpr ⟨p, held, called⟩) (by simp [CoverUnit.called_none.mp found])
  | some r =>
    have state : r.state = .called := by simpa using List.find?_some found
    rw [kept.called_unique (List.mem_of_find?_eq_some found) held state called]

theorem exec_recallTimerExpiry_due {after : Micros} (out : s.held = false) (due : Expired s.cvu.recallTimer s after) :
    exec (.recallTimerExpiry after) s = .next (s.elapse after).recallTimeout := by
  rw [exec_live _ out, commandWork]
  exact congrArg _ (State.expiring_elapse rfl due)

/-- Settles O25: the recall timer runs out at the CALLED pledge; a third attempt that fails ends the call without a guard,
and in the mode the next recall starts. -/
theorem recallTimerExpiryRetries : Obligations.RecallTimerExpiryRetries := by
  intro after p s out due kept held called
  have found : (s.elapse after).cvu.called = some p := BookKept.called_eq (c := (s.elapse after).cvu) kept held called
  rw [exec_recallTimerExpiry_due out due, State.recallTimeout, found]
  dsimp only
  refine ⟨fun more => ⟨_, rfl, ?again⟩, fun last alone => ?failed, fun last mode q chosen => ⟨_, rfl, ?next⟩⟩
  case again =>
    rw [if_pos more, State.sendRecall, State.offer_onCvu]
    simp [State.onCvu, State.recallLength, State.beaconPeriod, State.image, second]
    rfl
  case failed =>
    rw [if_neg (Nat.not_lt.mpr last), State.removePledge_alone (s := s.elapse after) fun _ => alone]
    simp [State.released, called, guardsRecall]
  case next =>
    obtain ⟨cover, line, recalls, sent⟩ :=
      BookKept.removePledge_next (s := s.elapse after) (cause := .recallFailed) kept held called mode chosen
    rw [if_neg (Nat.not_lt.mpr last)]
    refine ⟨?_, line, ?_, by simpa using recalls, by simpa using sent⟩
    · rw [cover]
      simp [State.released, called, guardsRecall]
      rfl
    · rw [State.count_removePledge]
      rfl

/-! ## The answer to an ask -/

theorem exec_coverAsk (after : Micros) (sender : BitVec 6) (sector : BitVec 3) (tag : BitVec 8) (amount : BitVec 16)
    (s : State) : exec (.coverAsk after sender sector tag amount) s = execCoverAsk after sender sector tag amount s := rfl

/-- An ask from another carrier station is answered outside MUTE (R57). -/
theorem exec_coverAsk_heard {sender : BitVec 6} (hears : Hears s) (carrier : fromMaintenance sender = false)
    (other : sender ≠ s.cfl.station) (phase : s.rsq.phase ≠ .mute) (after : Micros) (sector : BitVec 3) (tag : BitVec 8)
    (amount : BitVec 16) :
    exec (.coverAsk after sender sector tag amount) s =
      .next ((s.arrived after .coverAsk).answerAsk sender.toNat sector tag (max 1 (min 4095 amount.toNat))) := by
  rw [exec_coverAsk, execCoverAsk, State.event_arrive hears other (by simp [maintenanceKind]), State.takeAsk,
    if_neg (by simp [carrier]),
    if_neg (show (s.arrived after .coverAsk).rsq.phase ≠ .mute from phase)]
  rfl

/-- The answer after the replacement: for the first test that applies, else a grant (R57 to R60). -/
theorem State.answerAsk_eq (asker : Nat) (sector : BitVec 3) (tag : BitVec 8) (amount : Nat) {r : State}
    (replaced : (s.bump .asksReceived).replaceFor asker = r) :
    (∀ reason, r.denyReason sector amount = some reason →
        s.answerAsk asker sector tag amount = r.denyAsk asker tag reason) ∧
      (r.denyReason sector amount = none → s.answerAsk asker sector tag amount = r.grantAsk asker tag amount) := by
  unfold State.answerAsk
  simp only [replaced]
  exact ⟨fun reason denied => by rw [denied], fun granted => by rw [granted]⟩

/-- A station without a pledge has none replaced (R58). -/
theorem State.replaceFor_new {asker : Nat} (new : ∀ p ∈ s.cvu.book, p.leaner ≠ asker) : s.replaceFor asker = s := by
  have none : s.cvu.pledgeOf asker = none := List.find?_eq_none.mpr fun p held => by simpa using new p held
  rw [State.replaceFor, none]

theorem BookKept.replaceFor (kept : BookKept s.cvu.book) (held : p ∈ s.cvu.book) :
    s.replaceFor p.leaner = s.removePledge p .replaced := by
  rw [State.replaceFor, BookKept.pledgeOf kept held]

/-- An ask is granted when no deny test applies (R59, R60). -/
theorem State.denyReason_none_iff {sector : BitVec 3} {amount : Nat} :
    s.denyReason sector amount = none ↔
      sector = s.image.sector ∧ s.image.role ≠ .stay ∧ s.lif.clash = false ∧ s.lde.state = .tracking ∧
        s.plu.windowOpen = true ∧ s.rsq.phase = .awake ∧ s.cvu.book.length < 6 ∧ s.committed + amount ≤ s.ceilingN := by
  unfold State.denyReason
  split_ifs <;> simp_all [LoadEstimator.isBlind, Config.bookLimit]

/-- Settles O19: the first deny test that applies names the reason. -/
theorem askDeniedInOrder : Obligations.AskDeniedInOrder := by
  intro after sender sector tag amount s hears carrier other phase new a answer
  have denied (reason : DenyReason) (first : s.denyReason sector a = some reason) : answer reason := by
    obtain ⟨deny, -⟩ := State.answerAsk_eq (s := s.arrived after .coverAsk) sender.toNat sector tag a
      (State.replaceFor_new (s := (s.arrived after .coverAsk).bump .asksReceived) new)
    exact (exec_coverAsk_heard hears carrier other phase after sector tag amount).trans
      (congrArg _ (deny reason first))
  refine ⟨fun sector => denied _ ?_, fun sector role => denied _ ?_, fun sector role clash => denied _ ?_,
    fun sector role clash blind => denied _ ?_, fun sector role clash seen closed => denied _ ?_,
    fun sector role clash seen isOpen resting => denied _ ?_, fun sector role clash seen isOpen awake full => denied _ ?_,
    fun sector role clash seen isOpen awake free loaded => denied _ ?_⟩
  all_goals simp_all [State.denyReason, LoadEstimator.isBlind, Config.bookLimit]

/-- Settles O20: with no deny test that applies the pledge joins the book and the grant is offered. -/
theorem askGranted : Obligations.AskGranted := by
  intro after sender tag amount s hears carrier other role clash tracking isOpen awake free new a fits
  have first : s.denyReason s.image.sector a = none :=
    State.denyReason_none_iff.mpr ⟨rfl, role, clash, tracking, isOpen, awake, free, fits⟩
  obtain ⟨-, grant⟩ := State.answerAsk_eq (s := s.arrived after .coverAsk) sender.toNat s.image.sector tag a
    (State.replaceFor_new (s := (s.arrived after .coverAsk).bump .asksReceived) new)
  exact (exec_coverAsk_heard hears carrier other (by simp [awake]) after _ tag amount).trans (congrArg _ (grant first))

/-! ## The earlier pledge replaced -/

/-- An ask counted after a removal is an ask counted before it. -/
theorem State.released_bump (p : Pledge) (cause : RemovalCause) (c : Counter) (s : State) :
    (s.bump c).released p cause = (s.released p cause).bump c := by
  simp only [State.released, State.bump_comm c]
  rfl

/-- Outside the mode no test before the phase's denies for the estimator, the clash or the window (R59, R70). -/
theorem State.continuousRecall_false_iff :
    s.continuousRecall = false ↔ s.plu.windowOpen = true ∧ s.lde.state = .tracking ∧ s.lif.clash = false := by
  simp [State.continuousRecall, LoadEstimator.isBlind, and_assoc]

/-- The reason of a deny in the mode (R59, R70). -/
def State.modeReason (s : State) (sector : BitVec 3) : DenyReason :=
  if sector ≠ s.image.sector then .sector
  else if s.image.role = .stay then .role
  else if s.lif.clash then .clash
  else if s.lde.state ≠ .tracking then .blind
  else .closed

/-- In the mode an ask is denied, and the room is 0 (R28, R59, R70). -/
theorem State.denyReason_of_mode (mode : s.continuousRecall = true) (sector : BitVec 3) (amount : Nat) :
    s.denyReason sector amount = some (s.modeReason sector) := by
  have shut : s.lif.clash = false → s.lde.state = .tracking → s.plu.windowOpen = false := by
    intro clash tracking
    by_contra isOpen
    simp [State.continuousRecall_false_iff.mpr ⟨by simpa using isOpen, tracking, clash⟩] at mode
  unfold State.denyReason State.modeReason
  split_ifs <;> simp_all [LoadEstimator.isBlind]

theorem State.room_of_mode (mode : s.continuousRecall = true) : s.room = 0 := by
  refine State.room_forced ?_
  simp only [State.continuousRecall, Bool.or_eq_true] at mode
  simp only [State.roomForced, Bool.or_eq_true]
  tauto

/-- What an answer leaves of the cover, the line and the counts it does not make. -/
theorem State.denyAsk_writes (asker : Nat) (tag : BitVec 8) (reason : DenyReason) (s : State) :
    (s.denyAsk asker tag reason).cvu = s.cvu ∧
      (s.denyAsk asker tag reason).lif = (s.offer (.coverDeny asker tag reason s.room)).lif ∧
      (s.denyAsk asker tag reason).count (.deniesSent reason) = min 65535 (s.count (.deniesSent reason) + 1) ∧
      ∀ c, queueCounter c = false → c ≠ .deniesSent reason → (s.denyAsk asker tag reason).count c = s.count c := by
  refine ⟨by simp [State.denyAsk], rfl, ?_, fun c queue other => ?_⟩
  · rw [State.denyAsk, State.count_bump_same, State.count_offer_other rfl]
    rfl
  · rw [State.denyAsk, State.count_bump_ne _ other, State.count_offer_other queue]

theorem State.grantAsk_writes (asker : Nat) (tag : BitVec 8) (amount : Nat) (s : State) :
    (s.grantAsk asker tag amount).cvu = { s.cvu with book := s.cvu.book ++ [newPledge asker tag amount] } ∧
      (s.grantAsk asker tag amount).count .granted = min 65535 (s.count .granted + 1) ∧
      ∀ c, queueCounter c = false → c ≠ .granted → (s.grantAsk asker tag amount).count c = s.count c := by
  refine ⟨by simp [State.grantAsk], ?_, fun c queue other => ?_⟩
  · rw [State.grantAsk, State.count_bump_same, State.count_offer_other rfl]
    rfl
  · rw [State.grantAsk, State.count_bump_ne _ other, State.count_offer_other queue]
    rfl

/-- A removal leaves an ask to be granted when no test denies it with the book that is left (R57 to R60). -/
theorem State.removePledge_granted_iff {cause : RemovalCause} {sector : BitVec 3} {amount : Nat} :
    (s.removePledge p cause).denyReason sector amount = none ↔
      sector = s.image.sector ∧ s.image.role ≠ .stay ∧ s.lif.clash = false ∧ s.lde.state = .tracking ∧
        s.plu.windowOpen = true ∧ s.rsq.phase = .awake ∧ (s.cvu.book.filter (·.leaner != p.leaner)).length < 6 ∧
        ceilDiv (s.lde.handedDemand + ((s.cvu.book.filter (·.leaner != p.leaner)).map (·.reserve)).sum) 16 + amount ≤
          s.ceilingN := by
  by_cases mode : s.continuousRecall = true
  · have kept : (s.removePledge p cause).continuousRecall = true := by simpa [State.continuousRecall] using mode
    rw [State.denyReason_of_mode kept]
    refine ⟨nofun, fun ⟨_, _, clash, tracking, isOpen, _⟩ => ?_⟩
    simp [State.continuousRecall_false_iff.mpr ⟨isOpen, tracking, clash⟩] at mode
  · rw [State.removePledge_alone fun _ => .inl (by simpa using mode), State.denyReason_none_iff]
    rfl

/-- Two states that the replacement makes one answer alike. -/
theorem State.answerAsk_congr {t : State} {asker : Nat} (sector : BitVec 3) (tag : BitVec 8) (amount : Nat)
    (same : (s.bump .asksReceived).replaceFor asker = (t.bump .asksReceived).replaceFor asker) :
    s.answerAsk asker sector tag amount = t.answerAsk asker sector tag amount := by
  simp only [State.answerAsk, same]

/-- The arrival of an ask, counted, after a replacement or before it. -/
theorem State.released_asked (p : Pledge) (after : Micros) (s : State) :
    ((s.arrived after .coverAsk).bump .asksReceived).released p .replaced =
      State.bump .asksReceived
        (State.arrived
          { s.bump (.removed .replaced) with
            cvu :=
              { s.cvu with
                book := s.cvu.book.filter (·.leaner != p.leaner)
                recallTimer := if p.state = .called then none else s.cvu.recallTimer } }
          after .coverAsk) := by
  rw [State.released_bump, State.arrived, State.released_bump]
  simp [State.released, guardsRecall]
  rfl

/-- What every answer leaves of the state the replacement leads to. -/
theorem State.answerAsk_keeps {r : State} {asker : Nat} (sector : BitVec 3) (tag : BitVec 8) (amount : Nat)
    (replaced : (s.bump .asksReceived).replaceFor asker = r) :
    (s.answerAsk asker sector tag amount).cvu.recallGuard = r.cvu.recallGuard ∧
      ∀ c, queueCounter c = false → c ≠ .granted → (∀ reason, c ≠ .deniesSent reason) →
        (s.answerAsk asker sector tag amount).count c = r.count c := by
  obtain ⟨deny, grant⟩ := State.answerAsk_eq asker sector tag amount replaced
  cases first : r.denyReason sector amount with
  | none =>
    obtain ⟨cover, -, counts⟩ := State.grantAsk_writes asker tag amount r
    rw [grant first]
    exact ⟨by rw [cover], fun c queue granted _ => counts c queue granted⟩
  | some reason =>
    obtain ⟨cover, -, -, counts⟩ := State.denyAsk_writes asker tag reason r
    rw [deny reason first]
    exact ⟨by rw [cover], fun c queue _ denied => counts c queue (denied reason)⟩

/-- Settles O21: the ask is answered in the state the replacement leads to, whose book no longer holds the asker. Outside the
mode that state is the book's alone; in it the next recall has started, and the ask is denied. -/
theorem askReplacesEarlierPledge : Obligations.AskReplacesEarlierPledge := by
  intro after sender sector tag amount p s hears carrier other phase kept held leaner left timer a granted
  have replaced := BookKept.replaceFor (s := (s.arrived after .coverAsk).bump .asksReceived) kept held
  have answered := State.answerAsk_eq (s := s.arrived after .coverAsk) p.leaner sector tag a replaced
  subst left timer
  have asked := exec_coverAsk_heard hears carrier other phase after sector tag amount
  rw [← leaner] at asked ⊢
  rw [asked]
  refine ⟨fun alone => ?released, _, rfl, ?_⟩
  case released =>
    rw [exec_coverAsk_heard (s := { s.bump (.removed .replaced) with cvu := _ })
      ⟨hears.out, hears.phase, hears.receiver, hears.quiet⟩ carrier other phase, ← leaner]
    refine congrArg _ (State.answerAsk_congr _ _ _ ?_)
    rw [replaced, State.removePledge_alone (s := (s.arrived after .coverAsk).bump .asksReceived) alone, State.released_asked]
    refine (State.replaceFor_new fun q held => ?_).symm
    simpa using (List.mem_filter.mp held).2
  obtain ⟨guard, counts⟩ := State.answerAsk_keeps sector tag a replaced
  obtain ⟨deny, grant⟩ := answered
  have removed (c : Counter) (other : c ≠ .removed .replaced) (queue : recallCounter c = false)
      (uncounted : c ≠ .asksReceived) (unarrived : c ≠ .arrivals .coverAsk) :
      (((s.arrived after .coverAsk).bump .asksReceived).removePledge p .replaced).count c = s.count c := by
    rw [State.count_removePledge_class _ queue p other, State.count_bump_ne _ uncounted,
      State.count_arrived, if_neg unarrived]
  have fits :
      (((s.arrived after .coverAsk).bump .asksReceived).removePledge p .replaced).denyReason sector a = none ↔ granted := by
    rw [State.removePledge_granted_iff, leaner]
    rfl
  refine ⟨?_, ?_, ?_, fun is => ?granted, fun isNot => ?denied, fun called mode q chosen => ?next⟩
  · rw [counts (.removed .replaced) rfl (by simp) (by simp), State.count_removePledge]
    simp [State.count_bump]
  · rw [counts .asksReceived rfl (by simp) (by simp), State.count_removePledge_class _ rfl p (by simp)]
    simp [saturatingSucc, Config.counterLimit]
  · rw [guard, State.removePledge_guard _ p rfl]
    rfl
  case granted =>
    have off : s.continuousRecall = false := by
      obtain ⟨-, -, clash, tracking, isOpen, -⟩ := is
      exact State.continuousRecall_false_iff.mpr ⟨isOpen, tracking, clash⟩
    obtain ⟨cover, counted, -⟩ := State.grantAsk_writes p.leaner tag a
      (((s.arrived after .coverAsk).bump .asksReceived).removePledge p .replaced)
    rw [grant (fits.mpr is), cover, counted, removed .granted (by simp) rfl (by simp) (by simp),
      State.removePledge_alone (s := (s.arrived after .coverAsk).bump .asksReceived) fun _ => .inl off]
    simp [State.released, guardsRecall, newPledge]
  case denied =>
    obtain ⟨reason, first⟩ := Option.ne_none_iff_exists'.mp (mt fits.mp isNot)
    obtain ⟨cover, -, counted, kept⟩ := State.denyAsk_writes p.leaner tag reason
      (((s.arrived after .coverAsk).bump .asksReceived).removePledge p .replaced)
    rw [deny reason first]
    refine ⟨?_, ?_, reason, ?_⟩
    · rw [cover]
      refine (State.removePledge_leaners p .replaced ((s.arrived after .coverAsk).bump .asksReceived)).trans ?_
      simp [CoverUnit.leaners, List.filter_map, Function.comp_def]
    · rw [kept .granted rfl (by simp), removed .granted (by simp) rfl (by simp) (by simp)]
    · rw [counted, removed (.deniesSent reason) (by simp) rfl (by simp) (by simp)]
  case next =>
    obtain ⟨cover, line, recalls, sent⟩ := BookKept.removePledge_next (s := (s.arrived after .coverAsk).bump .asksReceived)
      (cause := .replaced) kept held called mode chosen
    have inMode : (((s.arrived after .coverAsk).bump .asksReceived).removePledge p .replaced).continuousRecall = true := by
      simpa [State.continuousRecall] using mode
    have first :
        (((s.arrived after .coverAsk).bump .asksReceived).removePledge p .replaced).denyReason sector a =
          some (s.modeReason sector) := by
      rw [State.denyReason_of_mode inMode]
      simp [State.modeReason, State.image]
    obtain ⟨coverKept, answer, counted, kept⟩ := State.denyAsk_writes p.leaner tag (s.modeReason sector)
      (((s.arrived after .coverAsk).bump .asksReceived).removePledge p .replaced)
    rw [deny _ first]
    refine ⟨?_, ?_, ?_, counted.trans ?_, answer.trans ?_⟩
    · rw [coverKept, cover]
      simp [State.released, guardsRecall, called]
      rfl
    · rw [kept .continuousRecalls rfl (by simp), recalls]
      simp [State.count_bump]
    · rw [kept .recallsSent rfl (by simp), sent]
      simp [State.count_bump]
    · rw [removed _ (by simp) rfl (by simp) (by simp)]
      rfl
    · rw [State.room_of_mode inMode]
      have recalled := State.offer_lif_congr (s := s.arrived after .coverAsk)
        (t := (s.arrived after .coverAsk).bump .asksReceived) rfl rfl (.recall q.leaner q.tag)
      exact State.offer_lif_congr (line.trans recalled) (by simp) _

end Sys2Proof.Machine
end

section
/-! PROOFS. A used SAMPLE in AWAKE: the overload test and the eligibility evaluation (R19, R68 to R72, R81 to R84, R116; O24,
O34). -/

namespace Sys2Proof.Machine

variable {s : State}

/-! ## Conditions written in AWAKE -/

/-- In AWAKE a changed condition leaves the line, as far as its writing does: a rouse term wakes no one there (R96). -/
theorem State.setCondition_lif_awake {old new : Bool} {write : State → State} (line : (write s).lif = s.lif)
    (awake : (write s).rsq.phase = .awake) : (s.setCondition old new write).lif = s.lif := by
  unfold State.setCondition
  split
  next => rfl
  next =>
    rw [State.formTerms_of_up (by simp [awake]) (by simp [awake]) (by simp [awake])]
    simpa using line

theorem State.setLinkLost_awake (awake : s.rsq.phase = .awake) (b : Bool) :
    (s.setLinkLost b).lif = s.lif ∧ (s.setLinkLost b).rsq.phase = .awake :=
  ⟨State.setCondition_lif_awake (by simp) (by simpa using awake), (s.setCondition_phase _ b (by simp)).1 awake⟩

theorem State.setCarrierFault_lif_awake (awake : s.rsq.phase = .awake) (b : Bool) : (s.setCarrierFault b).lif = s.lif :=
  State.setCondition_lif_awake (by simp) (by simpa using awake)

theorem State.portStage_lif_awake (awake : s.rsq.phase = .awake) (condition : CarrierCondition) :
    (s.portStage condition).lif = s.lif := by
  unfold State.portStage
  dsimp only
  split
  · obtain ⟨line, phase⟩ := State.setLinkLost_awake
      (s := (((s.bump .validSamples).onClp fun c => { c with link := .up }).bump .linkReturns)) (by simpa using awake) false
    rw [State.setCarrierFault_lif_awake (by simpa using phase)]
    simpa using line
  · rw [State.setCarrierFault_lif_awake (by simpa using awake)]
    simp

/-- In AWAKE NO_COVER is written, and the line and the attempt's fields are kept. -/
theorem State.setNoCover_awake (awake : s.rsq.phase = .awake) (b : Bool) :
    (s.setNoCover b).rsq.noCover = b ∧ (s.setNoCover b).rsq.phase = .awake ∧ (s.setNoCover b).lif = s.lif ∧
      (s.setNoCover b).rsq.tag = s.rsq.tag := by
  refine ⟨?_, (s.setCondition_phase _ b (by simp)).1 awake, State.setCondition_lif_awake (by simp) (by simpa using awake), ?_⟩
  · unfold State.setNoCover State.setCondition
    split
    next same => exact same
    next => simp
  · unfold State.setNoCover State.setCondition
    split
    next same => rfl
    next => simp

/-! ## The stages of a SAMPLE that finds AWAKE -/

/-- The state the port and stage 1 of a used SAMPLE lead to in AWAKE (R12, R154). -/
def State.foldedAwake (after : Micros) (u : BitVec 10) (n : BitVec 11) (condition : CarrierCondition) (s : State) : State :=
  ((s.elapse after).portStage condition).useSample u n true

variable (after : Micros) (u : BitVec 10) (n : BitVec 11) (condition : CarrierCondition)

theorem State.foldedAwake_lde :
    (s.foldedAwake after u n condition).lde =
      { state := .tracking, demand := some (s.foldedDemand u), level := some (levelOf (s.foldedDemand u))
        lastUtilisation := some (clampUtilisation u), lastUsers := some n.toNat, lastDemand := some (s.demandOf u)
        quiet := s.quietAfter (levelOf (s.foldedDemand u)) n.toNat, lastUsed := some (Micros.inMillis (s.clock + after))
        linkLost := ((s.elapse after).portStage condition).lde.linkLost } :=
  s.useSample_after_port after u n condition true

theorem State.foldedAwake_awake (awake : s.rsq.phase = .awake) :
    (s.foldedAwake after u n condition).rsq.phase = .awake ∧ (s.foldedAwake after u n condition).lif = s.lif := by
  have port := State.portStage_lif_awake (s := s.elapse after) awake condition
  have phase := (State.portStage_phase (s.elapse after) condition).1 awake
  exact ⟨by simpa [State.foldedAwake] using phase, by simpa [State.foldedAwake] using port⟩

/-- What stage 1 and the port leave of the rest. -/
@[simp] theorem State.foldedAwake_frame :
    (s.foldedAwake after u n condition).clock = s.clock + after ∧ (s.foldedAwake after u n condition).cvu = s.cvu ∧
      (s.foldedAwake after u n condition).pvt = s.pvt ∧ (s.foldedAwake after u n condition).image = s.image ∧
      (s.foldedAwake after u n condition).profile = s.profile ∧
      (s.foldedAwake after u n condition).plu.windowOpen = s.plu.windowOpen := by
  simp [State.foldedAwake, State.image, State.profile]

theorem State.foldedAwake_limits :
    (s.foldedAwake after u n condition).wakeLimitW = s.wakeLimitW ∧
      (∀ depth, (s.foldedAwake after u n condition).recallLength depth = s.recallLength depth) ∧
      (s.foldedAwake after u n condition).workingLevel = levelOf (s.foldedDemand u) :=
  ⟨by simp [State.wakeLimitW], fun depth => by simp [State.recallLength, State.beaconPeriod],
    State.workingLevel_tracking (by simp [State.foldedAwake_lde]) (by simp [State.foldedAwake_lde])⟩

/-- The port and stage 1 count none of the recalls and asks (R154). -/
theorem State.count_foldedAwake {c : Counter} (wake : wakeCounter c = false) (port : portCounts s condition c = false) :
    (s.foldedAwake after u n condition).count c = s.count c := by
  have counts : (s.foldedAwake after u n condition).count c = ((s.elapse after).portStage condition).count c := by
    simp [State.foldedAwake, State.count]
  have still : portCounts (s.elapse after) condition c = portCounts s condition c := rfl
  rw [counts, State.count_portStage_class _ wake, still, port]
  rfl

/-- A used SAMPLE in AWAKE: the cover's stage, the evaluation, the reply (R12, log 13). -/
theorem State.afterUsedSample_awake (awake : s.rsq.phase = .awake) :
    s.afterUsedSample after u n condition =
      (s.foldedAwake after u n condition).coverStage.evaluateEligibility.replyToSample := by
  have stays : (s.foldedAwake after u n condition).coverStage.rsq.phase = .awake := by
    simpa using (State.foldedAwake_awake after u n condition awake).1
  simp only [State.afterUsedSample, awake, beq_self_eq_true]
  change (((s.foldedAwake after u n condition).coverStage.carrierStep condition).eligibilityStage true).replyToSample = _
  rw [State.carrierStep_awake _ _ stays, State.eligibilityStage, if_pos ⟨rfl, stays⟩]

/-! ## Overload -/

/-- The recall timer's length in microseconds: DEEP has its own allowance (R72). -/
theorem State.recallLength_eq (depth : Option Depth) :
    s.recallLength depth =
      (if depth = some .deep then s.image.deepAllowance else s.image.standbyAllowance) * 1000000 +
        2 * (2 ^ s.image.periodCode.toNat * 1000000) := by
  rcases depth with _ | _ | _ <;> rfl

/-- The book decayed by one used SAMPLE (R24). -/
def State.decayBook (s : State) : State := s.onCvu fun c => { c with book := c.book.map (decayPledge s.profile.shift) }

theorem State.decayBook_readings :
    s.decayBook.image = s.image ∧ s.decayBook.workingLevel = s.workingLevel ∧ s.decayBook.wakeLimitW = s.wakeLimitW ∧
      s.decayBook.clock = s.clock ∧ (∀ depth, s.decayBook.recallLength depth = s.recallLength depth) ∧
      s.decayBook.rsq = s.rsq ∧ s.decayBook.lif = s.lif ∧ ∀ c, s.decayBook.count c = s.count c :=
  ⟨rfl, rfl, rfl, rfl, fun _ => rfl, rfl, rfl, fun _ => rfl⟩

theorem State.decayBook_calling : s.decayBook.cvu.calling = s.cvu.calling := by
  simp [State.decayBook, CoverUnit.calling, List.any_map, Function.comp_def]

/-- Outside the mode the cover's stage is the overload test of the decayed book (R68, R70). -/
theorem State.coverStage_open (off : s.continuousRecall = false) : s.coverStage = s.decayBook.overloadTest :=
  if_neg (by change ¬s.continuousRecall = true; simp [off])

/-- With a pledge held a station evaluated in AWAKE is not eligible: NO_COVER is written false, and that is all (R81). -/
theorem State.evaluateEligibility_covering (held : s.cvu.book ≠ []) : s.evaluateEligibility = s.setNoCover false := by
  have no : s.readyToRest = false := by
    have some : s.cvu.book.isEmpty = false := by simpa using held
    simp [State.readyToRest, some]
  rw [State.evaluateEligibility, no]
  rfl

/-- In AWAKE the evaluation of a station with a pledge, and the reply, leave the cover, the line and the recall counts. -/
theorem State.evaluated_covering (awake : s.rsq.phase = .awake) (held : s.cvu.book ≠ []) :
    s.evaluateEligibility.replyToSample.lif = s.lif ∧
      ∀ c, wakeCounter c = false → c ≠ .repliesDropped → s.evaluateEligibility.replyToSample.count c = s.count c := by
  rw [State.evaluateEligibility_covering held]
  refine ⟨?_, fun c counter other => ?_⟩
  · simpa using (State.setNoCover_awake awake false).2.2.1
  · rw [State.count_replyToSample_eq, if_neg fun is => other is.1, State.count_setNoCover_class _ counter]

/-- Settles O24: at a cover that is open, seen and clear the overload test alone decides, on the level of this SAMPLE and the
decayed book; what follows it in the event leaves the cover and the line. -/
theorem overloadStartsRecall : Obligations.OverloadStartsRecall := by
  intro after u n condition s out awake used isOpen clear
  refine ⟨_, exec_validSample_used u n condition out (by simp [awake]) used, ?_⟩
  intro level is decayed starts
  obtain ⟨phase, line⟩ := State.foldedAwake_awake after u n condition awake
  let folded := s.foldedAwake after u n condition
  have lde := State.foldedAwake_lde (s := s) after u n condition
  have level_is : level = levelOf (s.foldedDemand u) := by
    have written := (s.afterUsedSample_estimate after u n condition).2.2.1
    rw [written, Option.some.injEq] at is
    exact is.symm
  have off : folded.continuousRecall = false :=
    State.continuousRecall_false_iff.mpr ⟨by simpa [folded] using isOpen, by simp [folded, lde], by simpa [folded, line] using clear⟩
  have book : folded.decayBook.cvu = { s.cvu with book := decayed } := by
    simp [State.decayBook, folded, decayed]
  obtain ⟨capacity, working, limit, clock, length, sequencer, queue, counts⟩ := folded.decayBook_readings
  obtain ⟨foldedLimit, foldedLength, foldedLevel⟩ := s.foldedAwake_limits after u n condition
  obtain ⟨foldedClock, -, -, foldedImage, -⟩ := s.foldedAwake_frame after u n condition
  have fires : (folded.decayBook.wakeLimitW < folded.decayBook.workingLevel ∧ folded.decayBook.cvu.book ≠ [] ∧
      folded.decayBook.cvu.calling = false ∧
        (folded.decayBook.cvu.recallGuard = none ∨ folded.decayBook.image.capacity ≤ folded.decayBook.workingLevel)) ↔
      starts ∧ s.cvu.book ≠ [] := by
    rw [working, limit, capacity, State.decayBook_calling, book, foldedImage, foldedLevel, foldedLimit, ← level_is]
    simp only [decayed, starts, ne_eq, List.map_eq_nil_iff]
    simp [folded]
    tauto
  rw [State.afterUsedSample_awake after u n condition awake]
  change (_ → State.cvu (State.replyToSample (State.evaluateEligibility folded.coverStage)) = _) ∧ _
  rw [State.coverStage_open off, State.overloadTest]
  refine ⟨fun no => ?quiet, fun does p chosen => ?recalls⟩
  case quiet =>
    rw [if_neg fun is => no (fires.mp is).1]
    simpa using book
  case recalls =>
    have held : s.cvu.book ≠ [] := by
      rintro empty
      simp [decayed, empty, chooseRecall_nil] at chosen
    have there : chooseRecall folded.decayBook.cvu.book = some p := by rw [book]; exact chosen
    rw [if_pos (fires.mpr ⟨does, held⟩)]
    have called := State.startRecall_cvu .overloadRecalls there
    obtain ⟨keptLine, keptCounts⟩ := State.evaluated_covering (s := folded.decayBook.startRecall .overloadRecalls)
      (by simpa [sequencer] using phase) (by rw [called]; simpa [changePledge, book, decayed] using held)
    refine ⟨?_, ?_, ?_, ?_⟩
    · simp only [State.replyToSample_frame, State.evaluateEligibility_frame]
      rw [called, book, clock, foldedClock, length, foldedLength, State.recallLength_eq, ← Nat.add_assoc]
    · rw [keptLine, State.startRecall_lif _ there]
      exact State.offer_lif_congr (by rw [queue]; exact line) (by rw [sequencer]; simpa [awake] using phase) _
    · rw [keptCounts _ rfl (by simp), State.count_startRecall_own rfl (by simp) there, counts,
        State.count_foldedAwake _ _ _ _ rfl rfl]
    · rw [keptCounts _ rfl (by simp), State.count_startRecall_sent (by simp) there, counts,
        State.count_foldedAwake _ _ _ _ rfl rfl]

end Sys2Proof.Machine
end

section
/-! PROOFS. The eligibility evaluation and the attempt (R19, R81 to R84, R116; O34). -/

namespace Sys2Proof.Machine

variable {s : State}

/-- Tests 1 to 8 of eligibility (R81). -/
theorem State.readyToRest_iff :
    s.readyToRest = true ↔
      s.image.role = .capacity ∧ s.plu.windowOpen = true ∧ s.plu.hold = false ∧ s.lif.clash = false ∧
        s.lde.linkLost = false ∧ s.clp.carrierFault = false ∧ s.clp.lastCondition = some .onAir ∧ s.cvu.book = [] ∧
        s.profile.quietDwell ≤ s.lde.quiet ∧ s.rsq.backoff = none := by
  simp [State.readyToRest, and_assoc]

/-- The evaluation of a station that passes the eight tests: an attempt with a cover and the floor kept, else NO_COVER (R81,
R82, R116). -/
theorem State.evaluateEligibility_ready (ready : s.readyToRest = true) {amount : Nat}
    (asks : askAmount s.lde.handedDemand s.profile.margin = amount) :
    ((s.pvt.chooseCover amount = none ∨ s.floorHolds = false) → s.evaluateEligibility = s.setNoCover true) ∧
      ∀ e, s.pvt.chooseCover amount = some e → s.floorHolds = true →
        s.evaluateEligibility = (s.setNoCover false).startAttempt e.station amount := by
  subst asks
  rw [State.evaluateEligibility, if_pos ready]
  constructor
  · rintro (none | low)
    · rw [none]
    · cases chosen : s.pvt.chooseCover (askAmount s.lde.handedDemand s.profile.margin) with
      | none => rfl
      | some e => simp [low]
  · intro e chosen floor
    simp [chosen, floor]

theorem State.evaluateEligibility_unready (unready : s.readyToRest = false) :
    s.evaluateEligibility = s.setNoCover false := by
  rw [State.evaluateEligibility, unready]
  rfl

/-- The attempt in AWAKE: the tag raised, the cover recorded, SEEKING, the ask offered and counted (R84). -/
theorem State.startAttempt_writes (awake : s.rsq.phase = .awake) (cover amount : Nat) :
    (s.startAttempt cover amount).rsq =
        { s.rsq with
          tag := s.rsq.tag + 1, cover := some cover, askWait := some (s.clock + 1000000), phase := .seeking } ∧
      (s.startAttempt cover amount).lde.quiet = 0 ∧
      (s.startAttempt cover amount).count .asksSent = min 65535 (s.count .asksSent + 1) ∧
      (s.lif.queue.length < 8 →
        (s.startAttempt cover amount).lif.queue = joinQueue (.fresh (.coverAsk cover (s.rsq.tag + 1) amount)) s.lif.queue) := by
  refine ⟨by simp [State.startAttempt, Config.askWait, second], by simp [State.startAttempt, State.zeroQuiet], ?_, fun room => ?_⟩
  · simp only [State.startAttempt, State.zeroQuiet, State.count_of_block, State.count_bump_same]
    rw [State.count_offer_other rfl]
    rfl
  · simp [State.startAttempt, State.zeroQuiet, State.offer, awake, State.enqueue, room, Config.queueLimit, Notice.kind]

/-- With an empty book the cover's stage decays nothing and starts no recall (R24, R68, R70). -/
theorem State.coverStage_of_empty (empty : s.cvu.book = []) : s.coverStage = s := by
  have same : s.decayBook = s := by
    have cover : { s.cvu with book := s.cvu.book.map (decayPledge s.profile.shift) } = s.cvu := by
      rw [empty, List.map_nil, ← empty]
    exact congrArg (fun c => { s with cvu := c }) cover
  unfold State.coverStage
  change (if s.decayBook.continuousRecall = true then s.decayBook.continuousCheck else s.decayBook.overloadTest) = s
  rw [same]
  split
  next => exact State.continuousCheck_of_empty empty
  next => exact if_neg fun is => is.2.1 empty

/-- The port's work on a SAMPLE that changes neither LINK_LOST nor CARRIER_FAULT (R154). -/
theorem State.portStage_still {condition : CarrierCondition} (up : s.clp.link ≠ .lost)
    (fault : s.clp.carrierFault = (condition == .fault)) :
    s.portStage condition =
      (s.bump .validSamples).onClp fun c =>
        { c with link := .up, watch := some (s.clock + 5000000), lastCondition := some condition } := by
  unfold State.portStage
  dsimp only
  rw [if_neg up, State.setCarrierFault, State.setCondition, if_pos (by simpa using fault)]
  rfl

/-- What the port and stage 1 leave, where no condition changes. -/
theorem State.foldedAwake_still {condition : CarrierCondition} (up : s.clp.link ≠ .lost)
    (fault : s.clp.carrierFault = (condition == .fault)) (after : Micros) (u : BitVec 10) (n : BitVec 11) :
    (s.foldedAwake after u n condition).rsq = (s.elapse after).rsq ∧ (s.foldedAwake after u n condition).plu = s.plu ∧
      (s.foldedAwake after u n condition).lif = s.lif ∧
      (s.foldedAwake after u n condition).clp.lastCondition = some condition ∧
      (s.foldedAwake after u n condition).clp.carrierFault = s.clp.carrierFault ∧
      (s.foldedAwake after u n condition).lde.linkLost = s.lde.linkLost := by
  have port := State.portStage_still (s := s.elapse after) up fault
  rw [State.foldedAwake_lde, State.foldedAwake, port]
  simp

theorem State.coverStage_empty_iff : s.coverStage.cvu.book = [] ↔ s.cvu.book = [] := by
  rw [← List.map_eq_nil_iff (f := pledgeHolding), State.coverStage_holdings, List.map_eq_nil_iff]

/-- Settles O34: the evaluation reads the state the port and stage 1 lead to; an eligible station holds no pledge, so that
the cover's stage has done nothing. -/
theorem eligibilityAtUsedSample : Obligations.EligibilityAtUsedSample := by
  intro after u n condition s out awake used up fault
  refine ⟨_, exec_validSample_used u n condition out (by simp [awake]) used, ?_⟩
  intro demand level demandIs levelIs quiet ready amount awakeCount
  obtain ⟨-, demandWritten, levelWritten, -⟩ := s.afterUsedSample_estimate after u n condition
  have demand_eq : demand = s.foldedDemand u := by rw [demandWritten, Option.some.injEq] at demandIs; exact demandIs.symm
  have level_eq : level = levelOf (s.foldedDemand u) :=
    by rw [levelWritten, Option.some.injEq] at levelIs; exact levelIs.symm
  have lde := State.foldedAwake_lde (s := s) after u n condition
  obtain ⟨rsq, plu, lif, last, carrier, lost⟩ := State.foldedAwake_still up fault after u n
  rw [lde] at lost
  have quiet_eq : s.quietAfter (levelOf (s.foldedDemand u)) n.toNat = quiet := by
    rw [← level_eq]
    rfl
  generalize covers : (s.foldedAwake after u n condition).coverStage = covered
  have phase : covered.rsq.phase = .awake := by simpa [← covers, rsq] using awake
  have view : covered.pvt = s.pvt := by simp [← covers]
  have profile : covered.profile = s.profile := by simp [← covers, State.profile, State.image, State.foldedAwake]
  have image : covered.image = s.image := by simp [← covers, State.image, State.foldedAwake]
  have readyIff : covered.readyToRest = true ↔ ready := by
    have book : covered.cvu.book = [] ↔ s.cvu.book = [] := by rw [← covers, State.coverStage_empty_iff]; simp
    have clear : condition = .onAir → s.clp.carrierFault = false := fun onAir => by simp [fault, onAir]
    rw [State.readyToRest_iff, book, profile, image]
    simp only [← covers, State.coverStage_frame, State.coverStage_fields, plu, lif, lde, quiet_eq, carrier, lost, last, rsq, ready]
    simp
    tauto
  have asks : askAmount covered.lde.handedDemand covered.profile.margin = amount := by
    rw [profile]
    simp only [← covers, State.coverStage_frame, lde, LoadEstimator.handedDemand, ← demand_eq, Option.getD_some]
    rfl
  have floor : covered.floorHolds = true ↔ s.profile.awakeFloor ≤ awakeCount := by
    rw [State.floorHolds, profile, view, decide_eq_true_iff]
    rfl
  rw [State.afterUsedSample_awake after u n condition awake, covers]
  refine ⟨fun no => ?unready, fun is short => ?held, fun is e chosen kept => ?attempt⟩
  case unready =>
    obtain ⟨cleared, awake, -⟩ := State.setNoCover_awake phase false
    rw [State.evaluateEligibility_unready (by simpa using mt readyIff.mp no)]
    exact ⟨by simpa using cleared, by simpa using awake⟩
  case held =>
    obtain ⟨raised, awake, -⟩ := State.setNoCover_awake phase true
    rw [(State.evaluateEligibility_ready (readyIff.mpr is) asks).1
      (short.imp (fun none => by rw [view]; exact none) fun low => by simpa using mt floor.mp (Nat.not_le.mpr low))]
    exact ⟨by simpa using raised, by simpa using awake⟩
  case attempt =>
    have empty : s.cvu.book = [] := by
      obtain ⟨-, -, -, -, -, -, empty, -⟩ := is
      exact empty
    have same : covered = s.foldedAwake after u n condition := by
      rw [← covers, State.coverStage_of_empty (by simpa using empty)]
    obtain ⟨cleared, awake, line, tag⟩ := State.setNoCover_awake phase false
    obtain ⟨sequencer, zeroed, asked, queued⟩ := State.startAttempt_writes awake e.station amount
    have run : (covered.setNoCover false |>.startAttempt e.station amount).rsq.order = .run := by
      rw [sequencer]
      rfl
    rw [(State.evaluateEligibility_ready (readyIff.mpr is) asks).2 e (by rw [view]; exact chosen) (floor.mpr kept)]
    refine ⟨?_, ?_, ?_, ?_, ?_, ?_, ?_, ?_, fun room => ?_⟩
    · simp [sequencer]
    · simp only [State.replyToSample_frame]
      rw [sequencer, tag, same, rsq]
      rfl
    · simp [sequencer]
    · simp only [State.replyToSample_frame]
      rw [sequencer, same]
      simp
    · simp [sequencer, cleared]
    · simp [zeroed]
    · simp [State.replyToSample_clp, run]
    · rw [State.count_replyToSample_eq, if_neg (by simp), asked, State.count_setNoCover_class _ rfl, same,
        State.count_foldedAwake _ _ _ _ rfl rfl]
    · simp only [State.replyToSample_frame]
      rw [queued (by rw [line, same, lif]; exact room), line, tag, same, lif, rsq]
      rfl

end Sys2Proof.Machine
end

section
/-! PROOFS. A station called back: the ask abandoned, the drain or the rest ended, and the recall that the cover then starts
(R70, R72, R89, R96 to R98). The close of the window and CLASH share it. -/

namespace Sys2Proof.Machine

variable {s z base : State} {cause : WakeCause}

/-- Whether a phase offers nothing (R143, R164). -/
def State.silent (s : State) : Prop := s.rsq.phase = .mute ∨ s.rsq.phase = .loading

/-- What an offer leaves on the line is decided by the line and by whether the phase is silent. -/
theorem State.offer_lif_of_silent {t : State} (line : t.lif = s.lif) (silent : t.silent ↔ s.silent) (n : Notice) :
    (t.offer n).lif = (s.offer n).lif := by
  have joins : (t.enqueue n).lif = (s.enqueue n).lif := by
    unfold State.enqueue
    rw [line]
    repeat' split
    all_goals simp [line]
  unfold State.silent at silent
  unfold State.offer
  by_cases quiet : s.rsq.phase = .mute ∨ s.rsq.phase = .loading
  · rw [if_pos (silent.mpr quiet), if_pos quiet, line]
  · rw [if_neg (mt silent.mp quiet), if_neg quiet, line]
    repeat' split
    all_goals simp [line, joins]

/-- The RESUME that answers for a station called back while it drains (R98). -/
def State.resumed (s : State) : State :=
  match s.rsq.phase, s.rsq.cover with
  | .draining, some cover => s.offer (.resume cover s.rsq.tag)
  | _, _ => s

/-- The ask abandoned and the wake cause given (R89, R96). -/
def State.withdraw (cause : WakeCause) (s : State) : State := s.abandonAsk.wake cause

theorem State.withdraw_of_seeking (seeking : s.rsq.phase = .seeking) : s.withdraw cause = s.abandonAsk := by
  rw [State.withdraw, State.abandonAsk_seeking seeking]
  exact State.wake_ignored cause (by simp) (by simp) (by simp)

theorem State.withdraw_of_ne (other : s.rsq.phase ≠ .seeking) : s.withdraw cause = s.wake cause := by
  rw [State.withdraw, State.abandonAsk_of_ne other]

theorem State.withdraw_of_up (seeking : s.rsq.phase ≠ .seeking) (draining : s.rsq.phase ≠ .draining)
    (standby : s.rsq.phase ≠ .standby) (deep : s.rsq.phase ≠ .deep) : s.withdraw cause = s := by
  rw [State.withdraw_of_ne seeking, State.wake_ignored cause draining standby deep]

@[simp] theorem State.withdraw_frame (cause : WakeCause) (s : State) :
    (s.withdraw cause).held = s.held ∧ (s.withdraw cause).clock = s.clock ∧ (s.withdraw cause).pending = s.pending ∧
      (s.withdraw cause).pvt = s.pvt ∧ (s.withdraw cause).lde = s.lde ∧ (s.withdraw cause).cvu = s.cvu ∧
      (s.withdraw cause).clp = s.clp ∧ (s.withdraw cause).cfl = s.cfl ∧ (s.withdraw cause).lif.clash = s.lif.clash ∧
      (s.withdraw cause).plu.windowOpen = s.plu.windowOpen ∧ (s.withdraw cause).plu.windowTimer = s.plu.windowTimer ∧
      (s.withdraw cause).plu.activeProfile = s.plu.activeProfile ∧ (s.withdraw cause).plu.flags = s.plu.flags := by
  simp [State.withdraw]

/-- The phase a station called back is in (R89, R97, R98). -/
theorem State.withdraw_phase (cause : WakeCause) (s : State) :
    (s.withdraw cause).rsq.phase =
      match s.rsq.phase with
      | .seeking | .draining => .awake
      | .standby => if s.rsq.darkGiven then .warming else .waking
      | .deep => .warming
      | other => other := by
  cases phase : s.rsq.phase with
  | seeking => simp [State.withdraw_of_seeking phase, State.abandonAsk_seeking phase]
  | draining => simp [State.withdraw_of_ne (s := s) (by simp [phase]), (State.wake_draining cause phase).1]
  | standby =>
    rw [State.withdraw_of_ne (by simp [phase]), (State.wake_resting cause (.inl phase)).1]
    cases s.rsq.darkGiven <;> simp [phase]
  | deep => simp [State.withdraw_of_ne (s := s) (by simp [phase]), (State.wake_resting cause (.inr phase)).1, phase]
  | _ => simp [State.withdraw_of_up (s := s), phase]

theorem State.withdraw_silent : (s.withdraw cause).silent ↔ s.silent := by
  rw [State.silent, State.silent, State.withdraw_phase]
  cases phase : s.rsq.phase <;> simp
  split <;> simp

/-- The line of a station called back: a RESUME where a drain was aborted (R98). -/
theorem State.withdraw_lif (other : cause ≠ .recall) : (s.withdraw cause).lif = s.resumed.lif := by
  by_cases draining : s.rsq.phase = .draining
  · rw [State.withdraw_of_ne (by simp [draining]), State.resumed, draining]
    cases recorded : s.rsq.cover with
    | some cover => exact State.wake_draining_lif cause draining recorded
    | none =>
      rw [State.wake_of_draining cause draining]
      simp [State.abortDrain, other, State.resumeToCover, recorded]
  · have same : s.resumed = s := by
      unfold State.resumed
      split
      next is _ => exact absurd is draining
      next => rfl
    rw [same]
    by_cases resting : s.rsq.phase = .standby ∨ s.rsq.phase = .deep
    · rw [State.withdraw_of_ne (by rcases resting with is | is <;> simp [is]), State.wake_lif_of_resting cause resting]
    · rw [not_or] at resting
      by_cases seeking : s.rsq.phase = .seeking
      · simp [State.withdraw_of_seeking seeking]
      · rw [State.withdraw_of_up seeking draining resting.1 resting.2]

theorem State.resumed_rsq : s.resumed.rsq = s.rsq := by
  unfold State.resumed
  split <;> simp

theorem State.resumed_lif_congr (phase : z.rsq.phase = s.rsq.phase) (cover : z.rsq.cover = s.rsq.cover)
    (tag : z.rsq.tag = s.rsq.tag) (line : z.lif = s.lif) : z.resumed.lif = s.resumed.lif := by
  unfold State.resumed
  rw [phase, cover, tag]
  split
  next => exact State.offer_lif_congr line phase _
  next => exact line

/-- A station called back counts the ask abandoned and the wake taken, and nothing else outside the queue (R89, R96). -/
theorem State.count_withdraw {c : Counter} (class_ : wakeCounter c = false) (other : c ≠ .abandonedAsks) :
    (s.withdraw cause).count c = s.count c := by
  rw [State.withdraw, State.count_wake_class _ class_, State.count_abandonAsk other]

/-- In the mode a station called back starts the next recall after its own answer (R70, R72). -/
theorem State.withdraw_recalls (mode : z.continuousRecall = true) (other : cause ≠ .recall)
    (phase : z.rsq.phase = base.rsq.phase) (recorded : z.rsq.cover = base.rsq.cover) (tag : z.rsq.tag = base.rsq.tag)
    (line : z.lif = base.lif) (image : z.image = s.image) (cover : z.cvu = s.cvu) :
    (∀ p, s.cvu.calling = false → chooseRecall s.cvu.book = some p →
        (z.withdraw cause).continuousCheck.cvu.book =
            changePledge p.leaner (fun p => { p with state := .called, attempts := 1 }) s.cvu.book ∧
          (z.withdraw cause).continuousCheck.cvu.recallTimer = some (z.clock + s.recallLength p.depth) ∧
          (z.withdraw cause).continuousCheck.lif = (base.resumed.offer (.recall p.leaner p.tag)).lif ∧
          (z.withdraw cause).continuousCheck.count .continuousRecalls = min 65535 (z.count .continuousRecalls + 1)) ∧
      ((s.cvu.calling = true ∨ chooseRecall s.cvu.book = none) →
        (z.withdraw cause).continuousCheck.cvu = s.cvu ∧ (z.withdraw cause).continuousCheck.lif = base.resumed.lif) := by
  have on : (z.withdraw cause).continuousRecall = true := by simpa [State.continuousRecall] using mode
  have answered : (z.withdraw cause).lif = base.resumed.lif :=
    (State.withdraw_lif other).trans (State.resumed_lif_congr phase recorded tag line)
  have held : (z.withdraw cause).cvu = s.cvu := by simp [cover]
  refine ⟨fun p quiet chosen => ?_, fun nothing => ?_⟩
  · obtain ⟨book, timer, counted, recalled⟩ :=
      State.continuousCheck_recall on held (by simpa [State.image] using image) quiet chosen
    refine ⟨book, by simpa using timer, recalled.trans ?_, ?_⟩
    · refine State.offer_lif_of_silent answered ?_ _
      rw [State.withdraw_silent, State.silent, State.silent, State.resumed_rsq, phase]
    · rw [counted, State.count_withdraw rfl (by simp)]
  · rw [State.continuousCheck_quiet (by rw [held]; exact nothing)]
    exact ⟨held, answered⟩

end Sys2Proof.Machine
end

section
/-! PROOFS. The close of the window (R70, R89, R96 to R98, R120, R123, R124; O42). -/

namespace Sys2Proof.Machine

variable {s base z : State} {after : Micros}

/-- The state in which a close calls the station back: the window CLOSED, a count made, all else as the command found it. -/
structure Closing (s : State) (after : Micros) (base z : State) : Prop where
  start : base.rsq = (s.elapse after).rsq
  rsq : z.rsq = base.rsq
  line : z.lif = base.lif
  clock : z.clock = s.clock + after
  policy : z.plu = { s.plu with windowOpen := false, windowTimer := none }
  cover : z.cvu = s.cvu
  view : z.pvt = s.pvt
  estimator : z.lde = s.lde
  link : z.clp = s.clp
  loader : z.cfl = s.cfl
  wakes : z.count (.wakes .close) = s.count (.wakes .close)
  abandoned : z.count .abandonedAsks = s.count .abandonedAsks
  failures : z.count .drainFailures = s.count .drainFailures
  recalls : z.count .continuousRecalls = s.count .continuousRecalls

/-- The state a close leads to (R123). -/
def State.closedFrom (z : State) : State := (z.withdraw .close).continuousCheck

/-- The window CLOSED and the close counted (R123). -/
def State.windowShut (counted : Counter) (s : State) : State :=
  (s.onPlu fun p => { p with windowOpen := false, windowTimer := none }).bump counted

theorem State.closeWindow_eq (counted : Counter) (s : State) :
    s.closeWindow counted = (s.windowShut counted).closedFrom := rfl

/-- The close at the window timer's expiry, and the close by notice, which counts the notice first. -/
theorem Closing.expiry (after : Micros) (s : State) :
    Closing s after (s.elapse after) ((s.elapse after).windowShut .closingsByExpiry) :=
  ⟨rfl, rfl, rfl, rfl, rfl, rfl, rfl, rfl, rfl, rfl, State.count_bump_ne _ (by simp), State.count_bump_ne _ (by simp),
    State.count_bump_ne _ (by simp), State.count_bump_ne _ (by simp)⟩

theorem Closing.notice (after : Micros) (s : State) :
    Closing s after (s.arrived after .window)
      (((s.arrived after .window).bump .windowsTaken).windowShut .closingsByNotice) := by
  have counts (c : Counter) (close : c ≠ .closingsByNotice) (taken : c ≠ .windowsTaken) (arrival : c ≠ .arrivals .window) :
      (((s.arrived after .window).bump .windowsTaken).windowShut .closingsByNotice).count c = s.count c :=
    (State.count_bump_ne _ close).trans ((State.count_bump_ne _ taken).trans (State.count_bump_ne _ arrival))
  exact ⟨rfl, rfl, rfl, rfl, rfl, rfl, rfl, rfl, rfl, rfl, counts _ (by simp) (by simp) (by simp),
    counts _ (by simp) (by simp) (by simp), counts _ (by simp) (by simp) (by simp), counts _ (by simp) (by simp) (by simp)⟩

/-- What a close counts outside the queue, the wake, the ask and the recall (R168). -/
theorem State.count_closedFrom {c : Counter} (wake : wakeCounter c = false) (recalls : recallCounter c = false)
    (other : c ≠ .abandonedAsks) : s.closedFrom.count c = s.count c := by
  rw [State.closedFrom, State.count_continuousCheck_class _ recalls, State.count_withdraw wake other]

section

variable (h : Closing s after base z)
include h

theorem Closing.phase : z.rsq.phase = s.rsq.phase := by rw [h.rsq, h.start]; rfl

theorem Closing.policy_written :
    z.closedFrom.plu =
      { s.plu with
        windowOpen := false, windowTimer := none, hold := z.closedFrom.plu.hold, rouse := z.closedFrom.plu.rouse } :=
  PolicyUnit.eq_with_terms (p := { s.plu with windowOpen := false, windowTimer := none })
    (by simp [State.closedFrom, h.policy]) (by simp [State.closedFrom, h.policy]) (by simp [State.closedFrom, h.policy])
    (by simp [State.closedFrom, h.policy])

theorem Closing.remaining : z.closedFrom.remainingMinutes = 0 ∧ z.closedFrom.room = 0 := by
  refine ⟨?_, State.room_forced ?_⟩
  · rw [State.remainingMinutes, h.policy_written]
    simp [Timer.remaining, ceilDiv, minute, second]
  · simp [State.roomForced, State.closedFrom, h.policy]

theorem Closing.seeking (seeking : s.rsq.phase = .seeking) :
    z.closedFrom.rsq.phase = .awake ∧ z.closedFrom.rsq.cover = none ∧ z.closedFrom.rsq.askWait = none ∧
      z.closedFrom.rsq.backoff = s.rsq.backoff ∧
      z.closedFrom.count .abandonedAsks = min 65535 (s.count .abandonedAsks + 1) := by
  have here : z.rsq.phase = .seeking := h.phase.trans seeking
  rw [State.closedFrom, State.withdraw_of_seeking here, State.count_continuousCheck_class _ rfl,
    State.abandonAsk_seeking here, State.count_bump_same]
  simp [h.rsq, h.start, h.abandoned, saturatingSucc, Config.counterLimit]

theorem Closing.draining (draining : s.rsq.phase = .draining) :
    z.closedFrom.rsq.phase = .awake ∧ z.closedFrom.rsq.cover = none ∧ z.closedFrom.rsq.drainTimer = none ∧
      z.closedFrom.rsq.wakeCause = some .close ∧ z.closedFrom.rsq.backoff = s.rsq.backoff ∧
      z.closedFrom.count .drainFailures = s.count .drainFailures ∧
      z.closedFrom.count (.wakes .close) = min 65535 (s.count (.wakes .close) + 1) := by
  have here : z.rsq.phase = .draining := h.phase.trans draining
  obtain ⟨awake, cover, timer, woken⟩ := State.wake_draining .close here
  rw [State.closedFrom, State.withdraw_of_ne (by simp [here]), State.count_continuousCheck_class _ rfl,
    State.count_continuousCheck_class _ rfl, State.count_wakes _ (.inl here), State.count_wake_class _ rfl, h.wakes,
    h.failures]
  simp [awake, cover, timer, woken, h.rsq, h.start]

theorem Closing.resting (resting : s.rsq.phase = .standby ∨ s.rsq.phase = .deep) :
    z.closedFrom.rsq.phase = (if s.rsq.phase = .standby ∧ s.rsq.darkGiven = false then .waking else .warming) ∧
      z.closedFrom.rsq.cover = s.rsq.cover ∧ z.closedFrom.rsq.wakeCause = some .close ∧
      (s.cvu.book = [] → z.closedFrom.lif.queue = base.lif.queue) ∧
      z.closedFrom.count (.wakes .close) = min 65535 (s.count (.wakes .close) + 1) := by
  have here : z.rsq.phase = .standby ∨ z.rsq.phase = .deep := by rwa [h.phase]
  have dark : z.rsq.darkGiven = s.rsq.darkGiven := by rw [h.rsq, h.start]; rfl
  have cover : z.rsq.cover = s.rsq.cover := by rw [h.rsq, h.start]; rfl
  obtain ⟨next, kept, -, woken, -⟩ := State.wake_resting .close here
  have other : z.rsq.phase ≠ .seeking := by rcases here with is | is <;> simp [is]
  rw [State.closedFrom, State.withdraw_of_ne other, State.count_continuousCheck_class _ rfl,
    State.count_wakes _ (.inr here), h.wakes]
  refine ⟨by simpa [h.phase, dark] using next, by simpa [cover] using kept, by simpa using woken, fun empty => ?_, rfl⟩
  rw [State.continuousCheck_of_empty (by simpa [h.cover] using empty), State.wake_lif_of_resting _ here, h.line]

theorem Closing.up (seeking : s.rsq.phase ≠ .seeking) (draining : s.rsq.phase ≠ .draining) (standby : s.rsq.phase ≠ .standby)
    (deep : s.rsq.phase ≠ .deep) : z.closedFrom.rsq = (s.elapse after).rsq := by
  rw [← h.phase] at seeking draining standby deep
  rw [State.closedFrom, State.withdraw_of_up seeking draining standby deep]
  simp [h.rsq, h.start]

/-- The RESUME that answers for the drain, as the statements word it. -/
theorem Closing.resumed :
    base.resumed =
      match s.rsq.phase, s.rsq.cover with
      | .draining, some cover => base.offer (.resume cover s.rsq.tag)
      | _, _ => base := by
  rw [State.resumed, h.start]
  rfl

theorem Closing.mode : z.continuousRecall = true := by simp [State.continuousRecall, h.policy]

end

theorem exec_windowTimerExpiry_due (out : s.held = false) (due : Expired s.plu.windowTimer s after) :
    exec (.windowTimerExpiry after) s = .next ((s.elapse after).closeWindow .closingsByExpiry) := by
  rw [exec_live _ out, commandWork]
  exact congrArg _ (State.expiring_elapse rfl due)

theorem exec_windowClose (after : Micros) (sender : BitVec 6) (mask : BitVec 8) (s : State) :
    exec (.windowClose after sender mask) s = execWindowClose after sender mask s := rfl

/-- Settles O42: a close calls the station back from the state with the window CLOSED; masked out or taken while CLOSED
it only counts. -/
theorem windowCloses : Obligations.WindowCloses := by
  intro after sender mask s out closed
  have closes {base z : State} (h : Closing s after base z) (queue : base.lif.queue = s.lif.queue) :
      closed base z.closedFrom := by
    obtain ⟨minutes, room⟩ := h.remaining
    have image : z.image = s.image := by rw [State.image, h.loader]; rfl
    obtain ⟨calls, still⟩ := State.withdraw_recalls (cause := .close) h.mode (by simp) (by rw [h.rsq]) (by rw [h.rsq])
      (by rw [h.rsq]) h.line image h.cover
    refine ⟨h.policy_written, minutes, room, h.seeking, h.draining, fun resting => ?_, h.up, fun p quiet chosen => ?_,
      fun nothing => ?_, by simp [State.closedFrom, h.view], by simp [State.closedFrom, h.estimator],
      by simp [State.closedFrom, h.link], by simp [State.closedFrom, h.loader]⟩
    · rw [← queue]
      exact h.resting resting
    · obtain ⟨book, timer, line, counted⟩ := calls p quiet chosen
      exact ⟨book, by rw [← h.clock]; exact timer, line.trans (congrArg (fun b => (State.offer _ b).lif) h.resumed),
        by rw [← h.recalls]; exact counted⟩
    · obtain ⟨cover, line⟩ := still nothing
      exact ⟨cover, line.trans (congrArg State.lif h.resumed)⟩
  refine ⟨fun due => ?expired, fun hears other maintenance => ⟨fun outside => ?masked,
    fun inside shut => ?shut, fun inside isOpen => ?taken⟩⟩
  case expired =>
    refine ⟨_, exec_windowTimerExpiry_due out due, closes (.expiry after s) rfl, ?_⟩
    rw [State.closeWindow_eq, State.count_closedFrom rfl rfl (by simp), State.windowShut, State.count_bump_same]
    rfl
  case masked =>
    rw [exec_windowClose, execWindowClose, State.event_arrive hears other fun _ => maintenance]
    exact congrArg _ (State.masked_out outside)
  case shut =>
    rw [exec_windowClose, execWindowClose, State.event_arrive hears other fun _ => maintenance,
      State.masked_in (s := s.arrived after .window) inside, State.takeClose, doWhen, if_neg (by simp [shut])]
  case taken =>
    have taken : (s.arrived after .window).takeClose =
        ((s.arrived after .window).bump .windowsTaken).closeWindow .closingsByNotice := by
      rw [State.takeClose, doWhen, if_pos (by simpa using isOpen)]
    rw [exec_windowClose, execWindowClose, State.event_arrive hears other fun _ => maintenance,
      State.masked_in (s := s.arrived after .window) inside, taken]
    refine ⟨_, rfl, closes (.notice after s) rfl, ?_, ?_⟩
    all_goals
      rw [State.closeWindow_eq, State.count_closedFrom rfl rfl (by simp), State.windowShut]
      simp [State.count_bump, saturatingSucc, Config.counterLimit]

end Sys2Proof.Machine
end

section
/-! PROOFS. CLASH (R28, R70, R72, R89, R96 to R98, R102, R145; O50). -/

namespace Sys2Proof.Machine

variable {s : State} {after : Micros}

/-! ## A rouse report before another wake cause -/

/-- A wake taken as ROUSE leaves nothing for another cause to call back (R96). -/
theorem State.withdraw_of_roused (cause : WakeCause) (s : State) : (s.wake .rouse).withdraw cause = s.withdraw .rouse := by
  by_cases seeking : s.rsq.phase = .seeking
  · rw [State.wake_ignored .rouse (by simp [seeking]) (by simp [seeking]) (by simp [seeking]),
      State.withdraw_of_seeking seeking, State.withdraw_of_seeking seeking]
  · have up := State.wake_up .rouse seeking
    rw [State.withdraw_of_ne (cause := .rouse) seeking, State.withdraw_of_up]
    all_goals rcases up with is | is | is | is | is <;> simp [is]

/-- A forming before a call back is the values formed, and one call back, for ROUSE or for the cause given (R134; log 12). -/
theorem State.formTerms_withdraw (cause : WakeCause) (s : State) :
    (s.formTerms.withdraw cause = s.formValues.withdraw cause ∧ s.formTerms = s.formValues) ∨
      (s.formTerms.withdraw cause = s.formValues.withdraw .rouse ∧ s.formTerms = s.formValues.wake .rouse) := by
  rcases s.formTerms_cases with same | woken
  · exact .inl ⟨by rw [same], same⟩
  · exact .inr ⟨by rw [woken, State.withdraw_of_roused], woken⟩

/-! ## What a call back does, by the phase it finds -/

theorem State.withdraw_seeking (cause : WakeCause) (seeking : s.rsq.phase = .seeking) :
    (s.withdraw cause).rsq.cover = none ∧ (s.withdraw cause).rsq.askWait = none ∧
      (s.withdraw cause).rsq.backoff = s.rsq.backoff ∧
      (s.withdraw cause).count .abandonedAsks = min 65535 (s.count .abandonedAsks + 1) := by
  rw [State.withdraw_of_seeking seeking, State.abandonAsk_seeking seeking]
  simp [saturatingSucc, Config.counterLimit]

theorem State.withdraw_draining (cause : WakeCause) (draining : s.rsq.phase = .draining) :
    (s.withdraw cause).rsq.cover = none ∧ (s.withdraw cause).rsq.drainTimer = none ∧
      (s.withdraw cause).rsq.backoff = s.rsq.backoff ∧ (s.withdraw cause).count .drainFailures = s.count .drainFailures := by
  obtain ⟨-, cover, timer, -⟩ := State.wake_draining cause draining
  rw [State.withdraw_of_ne (by simp [draining]), State.count_wake_class _ rfl]
  exact ⟨cover, timer, by simp, rfl⟩

/-- Where a wake is taken, the call back is counted under its cause and recorded with it (R96). -/
theorem State.withdraw_woken (cause : WakeCause)
    (taken : s.rsq.phase = .draining ∨ s.rsq.phase = .standby ∨ s.rsq.phase = .deep) :
    (s.withdraw cause).rsq.wakeCause = some cause ∧
      (s.withdraw cause).count (.wakes cause) = min 65535 (s.count (.wakes cause) + 1) := by
  rw [State.withdraw_of_ne (by rcases taken with is | is | is <;> simp [is])]
  refine ⟨?_, State.count_wakes cause taken⟩
  rcases taken with draining | resting
  · exact (State.wake_draining cause draining).2.2.2
  · exact (State.wake_resting cause resting).2.2.2.1

theorem State.withdraw_cover_kept (cause : WakeCause) (seeking : s.rsq.phase ≠ .seeking)
    (draining : s.rsq.phase ≠ .draining) : (s.withdraw cause).rsq.cover = s.rsq.cover := by
  by_cases resting : s.rsq.phase = .standby ∨ s.rsq.phase = .deep
  · rw [State.withdraw_of_ne seeking, (State.wake_resting cause resting).2.1]
  · rw [not_or] at resting
    rw [State.withdraw_of_up seeking draining resting.1 resting.2]

/-! ## CLASH -/

/-- The state in which CLASH is reported: the frame counted, CLASH true (R145). -/
def State.clashing (after : Micros) (s : State) : State :=
  ((s.heard after).bump .clashFrames).onLif fun l => { l with clash := true }

/-- The wake cause that CLASH turning true has: ROUSE where it turns the rouse term true (R134, R145; log 12). -/
def State.clashCause (after : Micros) (s : State) : WakeCause :=
  if (s.clashing after).formTerms = (s.clashing after).formValues then .clash else .rouse

theorem exec_clashFrame (after : Micros) (s : State) : exec (.clashFrame after) s = execClashFrame after s := rfl

theorem exec_clashFrame_heard (hears : Hears s) (after : Micros) :
    exec (.clashFrame after) s = .next (s.heard after).takeClash := by
  rw [exec_clashFrame, execClashFrame, State.event_live _ _ _ hears.out, State.receive_hears hears]

/-- CLASH turning true calls the station back, once (R89, R96, R102, R145). -/
theorem State.takeClash_raises (clear : s.lif.clash = false) :
    (s.heard after).takeClash =
      ((s.clashing after).formValues.withdraw (s.clashCause after)).continuousCheck := by
  have raised : (s.heard after).takeClash = ((s.clashing after).formTerms.withdraw .clash).continuousCheck := by
    rw [State.takeClash, State.raiseClash, if_neg (by simp [State.heard, clear])]
    rfl
  rw [raised, State.clashCause]
  rcases State.formTerms_withdraw .clash (s.clashing after) with ⟨called, same⟩ | ⟨called, woken⟩
  · rw [if_pos same, called]
  · rw [called]
    split
    next same => rw [← called, same]
    next => rfl

/-- What CLASH leaves for the report to read: all of the station but the line's flag and a count. -/
theorem State.clashing_frame (after : Micros) (s : State) :
    (s.clashing after).rsq = (s.elapse after).rsq ∧ (s.clashing after).plu = s.plu ∧ (s.clashing after).cvu = s.cvu ∧
      (s.clashing after).cfl = s.cfl ∧ (s.clashing after).clock = s.clock + after ∧ (s.clashing after).pvt = s.pvt ∧
      (s.clashing after).lde = s.lde ∧ (s.clashing after).clp = s.clp ∧
      (∀ c, c ≠ .clashFrames → (s.clashing after).count c = s.count c) ∧
      (s.clashing after).count .clashFrames = min 65535 (s.count .clashFrames + 1) :=
  ⟨rfl, rfl, rfl, rfl, rfl, rfl, rfl, rfl, fun _ other => State.count_bump_ne _ other, State.count_bump_same _ _⟩

/-- Where the rouse term was formed and false, CLASH turns it true exactly when it tests CLASH. -/
theorem State.clashCause_eq (clear : s.lif.clash = false) (formed : TermsFormed s) (was : s.plu.rouse = false)
    (taken : s.rsq.phase = .draining ∨ s.rsq.phase = .standby ∨ s.rsq.phase = .deep) :
    s.clashCause after = if s.profile.rouse.code = 13 then .rouse else .clash := by
  have up : s.rsq.phase ≠ .loading := by rcases taken with is | is | is <;> simp [is]
  rw [State.clashCause]
  by_cases code : s.profile.rouse.code = 13
  · rw [if_pos code]
    rw [TermsFormed, if_neg up, was] at formed
    have tests : (s.clashing after).testTerm (s.clashing after).profile.rouse = true := by
      have straight : s.profile.rouse.inverted = false := by
        simpa [State.testTerm, code, State.condition, clear] using formed.2.symm
      change State.testTerm _ s.profile.rouse = true
      simp [State.testTerm, code, State.condition, straight, State.clashing]
    have woken := State.formTerms_of_testing (s := s.clashing after) up was tests
    have stays : (s.clashing after).formValues.rsq.phase = s.rsq.phase := by simp [State.clashing, State.heard]
    have moved := State.wake_up (s := (s.clashing after).formValues) .rouse
      (by rw [stays]; rcases taken with is | is | is <;> simp [is])
    refine if_neg fun same => ?_
    rw [← woken, same, stays] at moved
    rcases taken with is | is | is <;> simp [is] at moved
  · rw [if_neg code]
    refine if_pos (formed.formTerms_of_untested (work := s.clashing after) Iff.rfl rfl rfl ?_)
    exact State.condition_congr_at (fun _ => rfl) (fun _ => rfl) (fun _ => rfl) (fun _ => rfl) (fun _ => rfl)
      (fun is => absurd is (code_toNat_ne code)) (fun _ => rfl) rfl

/-- A notice that bears the own number is the clash frame, whatever it carries (R145). -/
theorem State.event_arrive_own (hears : Hears s) (after : Micros) (kind : Kind) (work : State → State) :
    s.event after (State.arrive s.cfl.station kind work) = exec (.clashFrame after) s := by
  rw [exec_clashFrame_heard hears, State.event_live _ _ _ hears.out, State.arrive_own hears]

/-- Settles O50: CLASH turning true is one call back from the state with CLASH raised; every arrival that bears the own
number is that frame. -/
theorem ownNumberRaisesClash : Obligations.OwnNumberRaisesClash := by
  intro after s hears
  refine ⟨fun already => ?already, fun clear => ?raised, fun c own => ?own⟩
  case already =>
    rw [exec_clashFrame_heard hears, State.takeClash, State.raiseClash, if_pos (by simpa [State.heard] using already)]
  case own =>
    rcases own with ⟨_, _, rfl⟩ | ⟨_, _, _, rfl⟩ | ⟨_, rfl⟩ | ⟨_, _, rfl⟩ | ⟨_, _, _, rfl⟩ | ⟨_, rfl⟩ | ⟨_, _, rfl⟩ |
      ⟨_, rfl⟩ | ⟨_, _, rfl⟩ | ⟨_, _, rfl⟩ | ⟨_, _, rfl⟩ | ⟨_, rfl⟩ | rfl
    all_goals exact State.event_arrive_own hears after _ _
  case raised =>
    intro base answered
    obtain ⟨rsq, plu, cvu, cfl, clock, pvt, lde, clp, counts, counted⟩ := s.clashing_frame after
    generalize formed : (s.clashing after).formValues = z at *
    have cause := exec_clashFrame_heard hears after
    rw [State.takeClash_raises clear, formed] at cause
    have other : s.clashCause after ≠ .recall := by
      unfold State.clashCause
      split <;> simp
    have phase : z.rsq.phase = s.rsq.phase := by simp [← formed, rsq]
    have line : z.lif = base.lif := by
      simp only [← formed, State.formValues_frame]
      rfl
    have clash : z.lif.clash = true := by rw [line]
    have cover : z.cvu = s.cvu := by simp [← formed, cvu]
    have kept (c : Counter) (ne : c ≠ .clashFrames) : z.count c = s.count c := by
      rw [← counts c ne, ← formed]
      simp
    obtain ⟨calls, still⟩ := State.withdraw_recalls (z := z) (s := s) (base := base) (cause := s.clashCause after)
      (by simp [State.continuousRecall, clash]) other phase (by simp [← formed, rsq]; rfl)
      (by simp [← formed, rsq]; rfl) line (by simp [← formed, State.image, cfl]) cover
    have on : ((z.withdraw (s.clashCause after)).continuousCheck).lif.clash = true := by simp [clash]
    obtain ⟨recorded, backoff, dark⟩ : z.rsq.cover = s.rsq.cover ∧ z.rsq.backoff = s.rsq.backoff ∧
        z.rsq.darkGiven = s.rsq.darkGiven := by simp [← formed, rsq]
    refine ⟨_, cause, on, State.room_forced (by simp [State.roomForced, clash]), on, ?count, ?phase, fun called => ?home,
      fun seeking => ?seeking, fun draining => ?draining, fun taken terms was => ?woken, fun seeking draining => ?kept,
      fun p quiet chosen => ?calls, fun nothing => ?still, by simp [← formed, pvt], by simp [← formed, lde],
      by simp [← formed, clp], by simp [← formed, cfl]⟩
    case count =>
      rw [State.count_continuousCheck_class _ rfl, State.count_withdraw rfl (by simp), ← counted, ← formed]
      simp
    case phase =>
      simp only [State.continuousCheck_frame]
      rw [State.withdraw_phase, phase, dark] <;> rfl
    case home =>
      simp only [State.continuousCheck_frame]
      rw [← backoff]
      rcases called with is | is
      · obtain ⟨cover, -, backoff, -⟩ := State.withdraw_seeking (s.clashCause after) (phase.trans is)
        exact ⟨cover, backoff⟩
      · obtain ⟨cover, -, backoff, -⟩ := State.withdraw_draining (s.clashCause after) (phase.trans is)
        exact ⟨cover, backoff⟩
    case seeking =>
      obtain ⟨-, wait, -, abandoned⟩ := State.withdraw_seeking (s.clashCause after) (phase.trans seeking)
      rw [State.count_continuousCheck_class _ rfl, abandoned, kept _ (by simp)]
      exact ⟨by simpa using wait, rfl⟩
    case draining =>
      obtain ⟨-, timer, -, failures⟩ := State.withdraw_draining (s.clashCause after) (phase.trans draining)
      rw [State.count_continuousCheck_class _ rfl, failures, kept _ (by simp)]
      exact ⟨by simpa using timer, rfl⟩
    case woken =>
      obtain ⟨recorded, woken⟩ := State.withdraw_woken (s.clashCause after) (by rw [phase]; exact taken)
      intro named
      have same : named = s.clashCause after := (State.clashCause_eq clear terms was taken).symm
      rw [same, State.count_continuousCheck_class _ rfl, woken, kept _ (by simp)]
      exact ⟨by simpa using recorded, rfl⟩
    case kept =>
      simp only [State.continuousCheck_frame]
      rw [State.withdraw_cover_kept _ (by rwa [phase]) (by rwa [phase]), recorded]
    case calls =>
      obtain ⟨book, timer, recalled, counted⟩ := calls p quiet chosen
      refine ⟨book, ?_, recalled, ?_⟩
      · rw [timer, ← formed]
        simp [clock]
      · rw [counted, kept _ (by simp)]
    case still => exact still nothing

end Sys2Proof.Machine
end

section
/-! PROOFS. The PROFILE notice (R9, R33, R118, R127, R128; O44). -/

namespace Sys2Proof.Machine

variable {s taken t : State} {c : Counter}

/-- A count that is neither the wake's nor a failed drain's leaves a rouse report as it is. -/
theorem Roused.bump (h : Roused s taken t) (failure : c ≠ .drainFailures) (wake : c ≠ .wakes .rouse) :
    Roused s taken (t.bump c) where
  draining := by simpa [State.count_bump_ne _ failure.symm] using h.draining
  resting := h.resting
  counted := by simpa [State.count_bump_ne _ wake.symm] using h.counted
  aborted := h.aborted
  kept := h.kept

/-- The state in which the terms are formed at a change of profile: the number written, the quiet counter 0 (R128). -/
def State.profileNumbered (number : BitVec 2) (s : State) : State :=
  ((s.bump .profilesTaken).onPlu fun p => { p with activeProfile := number }).zeroQuiet

theorem exec_profile (after : Micros) (sender : BitVec 6) (number : Byte) (mask : BitVec 8) (s : State) :
    exec (.profile after sender number mask) s = execProfile after sender number mask s := rfl

/-- Settles O44: past the mask and the number's test a new number is written and the terms are formed
once from its profile. -/
theorem profileTaken : Obligations.ProfileTaken := by
  intro after sender number mask s hears other maintenance
  have arrival : exec (.profile after sender number mask) s =
      .next (State.masked mask (State.takeProfile number) (s.arrived after .profile)) := by
    rw [exec_profile, execProfile, State.event_arrive hears other fun _ => maintenance]
  have inside (taken : mask.getLsbD s.image.sector.toNat = true) :
      exec (.profile after sender number mask) s = .next ((s.arrived after .profile).takeProfile number) :=
    arrival.trans (congrArg _ (State.masked_in (s := s.arrived after .profile) taken))
  refine ⟨fun outside => arrival.trans (congrArg _ (State.masked_out outside)), fun taken above => ?malformed,
    fun taken same => ?same, fun taken range new => ?changed⟩
  case malformed => rw [inside taken, State.takeProfile, if_pos above]
  case same =>
    have range : ¬3 < number.toNat := by have := s.plu.activeProfile.isLt; omega
    rw [inside taken, State.takeProfile, if_neg range]
    exact congrArg _ (if_pos same)
  case changed =>
    let work := (s.arrived after .profile).profileNumbered (BitVec.ofNat 2 number.toNat)
    have changes : (s.arrived after .profile).takeProfile number = work.formTerms.bump .profileChanges := by
      rw [State.takeProfile, if_neg (by omega)]
      exact if_neg new
    have up : work.rsq.phase ≠ .loading := hears.phase
    obtain ⟨-, -, -, pvt, lde, cvu, clp, cfl, -⟩ := work.formTerms_frame
    obtain ⟨-, -, -, -, -, profile, -, -, -, backoff, -, dark, -, -, settle, doze, clock, guard, -⟩ := work.formTerms_fields
    refine ⟨_, (inside taken).trans (congrArg _ changes), ?numbered, ?policy, lde, cvu, pvt, clp, cfl, backoff, guard, dark,
      doze, settle, clock, termsFormed_formTerms up, fun was turned => ?roused, ?takenCount, ?changeCount⟩
    case numbered =>
      have read : (BitVec.ofNat 2 number.toNat).toNat = number.toNat := by
        rw [BitVec.toNat_ofNat]
        omega
      exact (congrArg BitVec.toNat profile).trans read
    case policy =>
      rw [State.bump_plu, work.formTerms_plu]
      rfl
    case roused =>
      have counts (c : Counter) (noted : c ≠ .profilesTaken) (arrived : c ≠ .arrivals .profile) : work.count c = s.count c :=
        (State.count_bump_ne _ noted).trans (State.count_bump_ne _ arrived)
      have roused := State.roused_of_formTerms (s := s) (work := work) (after := after) (kind := .profile) was turned rfl rfl
        (counts .drainFailures (by simp) (by simp)) (counts (.wakes .rouse) (by simp) (by simp))
      exact roused.bump (by simp) (by simp)
    case takenCount =>
      rw [State.count_bump_ne _ (by simp), State.count_formTerms rfl]
      exact (State.count_bump_same _ _).trans (congrArg _ (State.count_bump_ne _ (by simp)))
    case changeCount =>
      rw [State.count_bump_same, State.count_formTerms rfl]
      exact congrArg _ ((State.count_bump_ne _ (by simp)).trans (State.count_bump_ne _ (by simp)))

end Sys2Proof.Machine
end

section
/-! PROOFS. The notices at the leaner: the grant, the deny, the RECALL and those outside the attempt (R38, R49, R57, R85
to R88, R91, R96 to R100, R105; O35 to O38). -/

namespace Sys2Proof.Machine

variable {s : State} {after : Micros} {sender : BitVec 6} {tag : BitVec 8}

/-! ## The notices as they reach their blocks -/

theorem exec_coverGrant (after : Micros) (sender : BitVec 6) (tag : BitVec 8) (amount : BitVec 16) (s : State) :
    exec (.coverGrant after sender tag amount) s = execCoverGrant after sender tag amount s := rfl

theorem exec_coverDeny (after : Micros) (sender : BitVec 6) (tag : BitVec 8) (reason : Byte) (room : BitVec 16)
    (s : State) : exec (.coverDeny after sender tag reason room) s = execCoverDeny after sender tag reason room s := rfl

theorem exec_recall (after : Micros) (sender : BitVec 6) (tag : BitVec 8) (s : State) :
    exec (.recall after sender tag) s = execRecall after sender tag s := rfl

theorem exec_coverGrant_heard (hears : Hears s) (other : sender ≠ s.cfl.station) (after : Micros) (tag : BitVec 8)
    (amount : BitVec 16) :
    exec (.coverGrant after sender tag amount) s = .next ((s.arrived after .coverGrant).takeGrant sender tag) := by
  rw [exec_coverGrant, execCoverGrant, State.event_arrive hears other (by simp [maintenanceKind])]

theorem exec_coverDeny_heard (hears : Hears s) (other : sender ≠ s.cfl.station) (after : Micros) (tag : BitVec 8)
    (reason : Byte) (room : BitVec 16) :
    exec (.coverDeny after sender tag reason room) s =
      .next ((s.arrived after .coverDeny).takeDeny sender.toNat tag reason) := by
  rw [exec_coverDeny, execCoverDeny, State.event_arrive hears other (by simp [maintenanceKind])]

theorem exec_recall_heard (hears : Hears s) (other : sender ≠ s.cfl.station) (after : Micros) (tag : BitVec 8) :
    exec (.recall after sender tag) s = .next ((s.arrived after .recall).takeRecall sender tag) := by
  rw [exec_recall, execRecall, State.event_arrive hears other (by simp [maintenanceKind])]

theorem exec_beacon_heard (hears : Hears s) (other : sender ≠ s.cfl.station) (after : Micros) (sector : BitVec 3)
    (b : BeaconFields) :
    exec (.beacon after sender sector b) s = .next ((s.arrived after .beacon).hearBeacon sender sector b) := by
  rw [exec_beacon, execBeacon, State.event_arrive hears other (by simp [maintenanceKind])]

/-- An ask from a maintenance number only arrives; in MUTE a carrier's is counted unanswered (R57). -/
theorem exec_coverAsk_unanswered (hears : Hears s) (other : sender ≠ s.cfl.station) (after : Micros) (sector : BitVec 3)
    (tag : BitVec 8) (amount : BitVec 16) :
    (fromMaintenance sender = true →
        exec (.coverAsk after sender sector tag amount) s = .next (s.arrived after .coverAsk)) ∧
      (fromMaintenance sender = false → s.rsq.phase = .mute →
        exec (.coverAsk after sender sector tag amount) s = .next ((s.arrived after .coverAsk).bump .asksUnanswered)) := by
  rw [exec_coverAsk, execCoverAsk, State.event_arrive hears other (by simp [maintenanceKind]), State.takeAsk]
  refine ⟨fun maintenance => by rw [if_pos maintenance], fun carrier mute => ?_⟩
  rw [if_neg (by simp [carrier])]
  exact congrArg _ (if_pos mute)

/-- A notice matches the attempt when its sender is the recorded cover and its tag the current one (R85). -/
theorem State.matchesAttempt_iff {station : Nat} :
    s.matchesAttempt station tag = true ↔ s.rsq.cover = some station ∧ s.rsq.tag = tag := by
  simp [State.matchesAttempt]

/-! ## The grant -/

/-- The sequencer as a drain starts (R91). -/
def State.draining (s : State) : State :=
  (s.onRsq fun q =>
    { q with
      phase := .draining, askWait := none, drainStep := .drainOrdered
      drainTimer := some (s.clock + s.drainLength), omissions := 0, wakeCause := none }).bump .grantsReceived

/-- A drain starts, and is aborted at once where its cover has no entry, or a rouse term is true (R91, R101). -/
theorem State.startDrain_eq {cover : Nat} (recorded : s.rsq.cover = some cover) :
    s.startDrain =
      if (s.pvt.find cover).isSome then (if s.plu.rouse then s.draining.wake .rouse else s.draining)
      else s.draining.wake .orphan := by
  unfold State.startDrain
  rw [recorded]
  rfl

/-- A drain aborted as it starts (R98). -/
theorem State.draining_aborted {cause : WakeCause} (other : cause ≠ .recall) {cover : Nat}
    (recorded : s.rsq.cover = some cover) :
    (s.draining.wake cause).rsq =
        { s.draining.rsq with phase := .awake, cover := none, drainTimer := none, wakeCause := some cause } ∧
      (s.draining.wake cause).lif = (s.draining.offer (.resume cover s.rsq.tag)).lif ∧
      (s.draining.wake cause).plu = s.plu ∧
      (s.draining.wake cause).count (.wakes cause) = min 65535 (s.count (.wakes cause) + 1) ∧
      (s.draining.wake cause).count .drainFailures = s.count .drainFailures := by
  refine ⟨State.wake_draining_rsq other rfl, State.wake_draining_lif cause rfl recorded, ?_, ?_, ?_⟩
  · rw [State.wake_of_draining cause rfl, (State.abortDrain_policy other).1]
    simp [State.draining]
  · rw [State.count_wakes cause (.inl rfl)]
    exact congrArg (fun n => min 65535 (n + 1)) (State.count_bump_ne _ (by simp))
  · rw [State.count_wake_class _ rfl]
    exact State.count_bump_ne _ (by simp)

/-- Settles O35: the drain starts from the arrival with the grant counted, and is aborted in the same
event where R91 says so. -/
theorem grantStartsDrain : Obligations.GrantStartsDrain := by
  intro after sender tag amount s hears other carrier seeking recorded same base started aborted
  have granted : exec (.coverGrant after sender tag amount) s = .next (s.arrived after .coverGrant).startDrain := by
    have matched : (s.arrived after .coverGrant).matchesAttempt sender.toNat tag = true :=
      State.matchesAttempt_iff.mpr ⟨recorded, same⟩
    have phase : (s.arrived after .coverGrant).rsq.phase = .seeking := seeking
    rw [exec_coverGrant_heard hears other, State.takeGrant, if_neg (by simp [carrier]), phase]
    simp only [matched, if_true]
  rw [granted, State.startDrain_eq (s := s.arrived after .coverGrant) recorded]
  have aborts (cause : WakeCause) (notRecall : cause ≠ .recall) :
      aborted cause ((s.arrived after .coverGrant).draining.wake cause) := by
    obtain ⟨rsq, lif, plu, wakes, failures⟩ := State.draining_aborted (s := s.arrived after .coverGrant) notRecall recorded
    refine ⟨rsq, ?_, ?_, ?_, by simp [State.draining], by simp [State.draining], by simp [State.draining], plu,
      by simp [State.draining], by simp [State.draining]⟩
    · rw [lif, ← same]
      refine State.offer_lif_of_silent (s := base) (t := (s.arrived after .coverGrant).draining) rfl ?_ _
      simp [State.silent, State.draining, base, seeking]
    · rw [wakes]; simp
    · rw [failures]; simp
  refine ⟨fun entry quiet => ?_, fun entry roused => ?_, fun none => ?_⟩
  · rw [if_pos (by simpa using entry), if_neg (by simp [quiet])]
    rfl
  · rw [if_pos (by simpa using entry), if_pos (by simpa using roused)]
    exact ⟨_, rfl, aborts _ (by simp)⟩
  · rw [if_neg (by simp [none])]
    exact ⟨_, rfl, aborts _ (by simp)⟩

/-! ## Notices outside the attempt -/

/-- A grant that comes late is answered with a RESUME; one of the drain or rest it started only arrives (R85). -/
theorem State.takeGrant_late (carrier : fromMaintenance sender = false)
    (late : s.rsq.phase = .awake ∨
      (s.rsq.phase = .seeking ∨ (s.rsq.phase = .draining ∨ s.rsq.phase = .standby ∨ s.rsq.phase = .deep) ∨
        s.rsq.phase = .waking ∨ s.rsq.phase = .warming) ∧ s.matchesAttempt sender.toNat tag = false) :
    s.takeGrant sender tag = (s.offer (.resume sender.toNat tag)).bump .lateGrants := by
  rw [State.takeGrant, if_neg (by simp [carrier])]
  rcases late with awake | ⟨seeking | (draining | standby | deep) | waking | warming, unmatched⟩
  all_goals simp_all [State.answerLateGrant]

theorem State.takeGrant_matched (carrier : fromMaintenance sender = false)
    (phase : (s.rsq.phase = .draining ∨ s.rsq.phase = .standby ∨ s.rsq.phase = .deep) ∨
      s.rsq.phase = .waking ∨ s.rsq.phase = .warming) (matched : s.matchesAttempt sender.toNat tag = true) :
    s.takeGrant sender tag = s := by
  rw [State.takeGrant, if_neg (by simp [carrier])]
  rcases phase with (draining | standby | deep) | waking | warming
  all_goals simp_all

/-- A RECALL outside a matching rest or return is answered with a RESUME (R100). -/
theorem State.takeRecall_answered (carrier : fromMaintenance sender = false)
    (outside : s.rsq.phase = .awake ∨ s.rsq.phase = .seeking ∨
      ((s.rsq.phase = .draining ∨ s.rsq.phase = .standby ∨ s.rsq.phase = .deep) ∨
        s.rsq.phase = .waking ∨ s.rsq.phase = .warming) ∧ s.matchesAttempt sender.toNat tag = false) :
    s.takeRecall sender tag =
      ((s.bump .recallsReceived).offer (.resume sender.toNat tag)).bump .recallsAnswered := by
  rw [State.takeRecall, if_neg (by simp [carrier])]
  rcases outside with awake | seeking | ⟨(draining | standby | deep) | waking | warming, unmatched⟩
  all_goals simp_all [State.answerRecall]

/-- A matching RECALL while the station returns is received, and that is all (R100). -/
theorem State.takeRecall_returning (carrier : fromMaintenance sender = false)
    (returning : s.rsq.phase = .waking ∨ s.rsq.phase = .warming) (matched : s.matchesAttempt sender.toNat tag = true) :
    s.takeRecall sender tag = s.bump .recallsReceived := by
  rw [State.takeRecall, if_neg (by simp [carrier])]
  rcases returning with waking | warming
  all_goals simp_all

/-- A maintenance number's notice, and any notice in MUTE, stops at its arrival (R38, R85, R100, R105). -/
theorem State.take_unheard (deaf : fromMaintenance sender = true ∨ s.rsq.phase = .mute) :
    s.takeGrant sender tag = s ∧ s.takeRecall sender tag = s ∧ ∀ sector b, s.hearBeacon sender sector b = s := by
  rcases deaf with maintenance | mute
  · exact ⟨if_pos maintenance, if_pos maintenance, fun _ _ => if_pos maintenance⟩
  · refine ⟨?_, ?_, fun _ _ => ?_⟩
    · rw [State.takeGrant, mute]
      exact ite_self _
    · rw [State.takeRecall, mute]
      exact ite_self _
    · rw [State.hearBeacon, if_pos mute]
      exact ite_self _

/-- Settles O36: each notice by the phase it finds and by whether it matches. -/
theorem noticesOutsideTheAttempt : Obligations.NoticesOutsideTheAttempt := by
  intro after sender tag amount reason sector b s hears other matched resting returning
  have unmatched (kind : Kind) (not : ¬matched) : (s.arrived after kind).matchesAttempt sender.toNat tag = false :=
    Bool.eq_false_iff.mpr (mt State.matchesAttempt_iff.mp not)
  have is (kind : Kind) (yes : matched) : (s.arrived after kind).matchesAttempt sender.toNat tag = true :=
    State.matchesAttempt_iff.mpr yes
  obtain ⟨asked, unanswered⟩ := exec_coverAsk_unanswered hears other after sector tag amount
  rw [exec_coverGrant_heard hears other, exec_recall_heard hears other, exec_coverDeny_heard hears other,
    exec_beacon_heard hears other]
  refine ⟨fun deaf => ⟨?_, ?_, ?_⟩, asked, unanswered, fun carrier late => ?_, fun carrier phase yes => ?_,
    fun carrier outside => ?_, fun carrier phase yes => ?_, fun no => ?_⟩
  · rw [(State.take_unheard (s := s.arrived after .coverGrant) deaf).1]
  · rw [(State.take_unheard (s := s.arrived after .recall) (tag := tag) deaf).2.1]
  · rw [(State.take_unheard (s := s.arrived after .beacon) (tag := tag) deaf).2.2]
  · rw [State.takeGrant_late (s := s.arrived after .coverGrant) carrier (late.imp_right (And.imp_right (unmatched _)))]
  · rw [State.takeGrant_matched (s := s.arrived after .coverGrant) carrier phase (is _ yes)]
  · rw [State.takeRecall_answered (s := s.arrived after .recall) carrier
      (outside.imp_right (Or.imp_right (And.imp_right (unmatched _))))]
  · rw [State.takeRecall_returning (s := s.arrived after .recall) carrier phase (is _ yes)]
  · rw [State.takeDeny, if_neg fun both => no ⟨both.1, State.matchesAttempt_iff.mp both.2⟩]

/-! ## The deny and the ask wait -/

/-- A miss against the recorded cover, written out: the entry's misses, AWAKE without a cover, the backoff (R49, R86). -/
theorem State.takeMiss_eq {cover : Nat} (recorded : s.rsq.cover = some cover) :
    s.takeMiss =
      State.bump .misses
        { s with
          rsq :=
            { s.rsq with
              cover := none, phase := .awake, askWait := none
              backoff := some (s.clock + 2 ^ s.image.periodCode.toNat * 1000000 * (1 + s.cfl.station.toNat % 4)) }
          pvt := s.pvt.miss cover } := by
  unfold State.takeMiss
  rw [recorded]
  rfl

theorem exec_askWaitExpiry_due (out : s.held = false) (due : Expired s.rsq.askWait s after)
    (seeking : s.rsq.phase = .seeking) :
    exec (.askWaitExpiry after) s = .next ((s.elapse after).bump .askWaitExpiries).takeMiss := by
  rw [exec_live _ out, commandWork]
  exact congrArg _ ((State.expiring_elapse rfl due).trans (if_pos seeking))

/-- Settles O37: either way the miss is written on what the time, or the frame, left; the counts are the notice's or the
timer's, the reason's, and the miss's. -/
theorem denyOrExpiryIsMiss : Obligations.DenyOrExpiryIsMiss := by
  intro after sender tag reason room s seeking recorded missed
  refine ⟨fun hears other same => ?deny, fun out due => ?expiry⟩
  case deny =>
    have matched : (s.arrived after .coverDeny).rsq.phase = .seeking ∧
        (s.arrived after .coverDeny).matchesAttempt sender.toNat tag = true :=
      ⟨seeking, State.matchesAttempt_iff.mpr ⟨recorded, same⟩⟩
    rw [exec_coverDeny_heard hears other, State.takeDeny, if_pos matched, State.countDeny]
    cases named : reasonOf reason with
    | none =>
      have miss := State.takeMiss_eq (s := s.arrived after .coverDeny) recorded
      refine ⟨_, rfl, ⟨by rw [miss]; rfl, countsAlone_of (by rw [miss]; rfl)⟩, ?_⟩
      rw [miss]
      exact Counted.bump (t := { s.arrived after .coverDeny with rsq := _, pvt := _ }) (s.counted_arrived after .coverDeny)
        .misses
    | some r =>
      have miss := State.takeMiss_eq (s := (s.arrived after .coverDeny).bump (.deniesReceived r)) recorded
      refine ⟨_, rfl, ⟨by rw [miss]; rfl, countsAlone_of (by rw [miss]; rfl)⟩, ?_⟩
      rw [miss]
      have counted := Counted.bump (t := { (s.arrived after .coverDeny).bump (.deniesReceived r) with rsq := _, pvt := _ })
        ((s.counted_arrived after .coverDeny).bump (.deniesReceived r)) .misses
      exact counted.perm (by simpa using List.Perm.swap ..)
  case expiry =>
    have miss := State.takeMiss_eq (s := (s.elapse after).bump .askWaitExpiries) recorded
    refine ⟨_, exec_askWaitExpiry_due out due seeking, ⟨by rw [miss]; rfl, countsAlone_of (by rw [miss]; rfl)⟩, ?_⟩
    rw [miss]
    have counted := (Counted.refl (s := s) (t := s.elapse after) fun _ => rfl).bump .askWaitExpiries
    exact Counted.bump (t := { (s.elapse after).bump .askWaitExpiries with rsq := _, pvt := _ }) counted .misses

/-! ## The RECALL -/

/-- The rest guard of the active profile starts, and RECENT_RECALL with it; a time of 0 starts neither (R99). -/
theorem State.startRestGuard_writes (s : State) :
    s.startRestGuard.rsq.recentRecall = (s.rsq.recentRecall || decide (s.profile.restGuard ≠ 0)) ∧
      s.startRestGuard.rsq.restGuard =
        if s.profile.restGuard = 0 then s.rsq.restGuard else some (s.clock + s.profile.restGuard * 60000000) := by
  unfold State.startRestGuard
  by_cases zero : s.profile.restGuard = 0
  · simp [zero]
  · cases recent : s.rsq.recentRecall <;> simp [zero, recent, minute, second]

/-- A drain aborted by its RECALL: RECENT_RECALL and the rest guard, for the profile's time (R98, R99). -/
theorem State.wake_recalled (draining : s.rsq.phase = .draining) :
    (s.wake .recall).rsq.recentRecall = (s.rsq.recentRecall || decide (s.profile.restGuard ≠ 0)) ∧
      (s.wake .recall).rsq.restGuard =
        (if s.profile.restGuard = 0 then s.rsq.restGuard
        else some (s.clock + s.profile.restGuard * 60000000)) := by
  rw [State.wake_of_draining .recall draining, State.abortDrain, if_pos rfl]
  generalize is : (((s.countWake .recall).onRsq fun q =>
    { q with drainTimer := none, wakeCause := some .recall }).resumeToCover).onRsq (fun q =>
      { q with cover := none, phase := .awake }) = u
  have profile : u.profile = s.profile := by simp [← is, State.profile, State.image]
  have before : u.rsq.recentRecall = s.rsq.recentRecall ∧ u.rsq.restGuard = s.rsq.restGuard ∧ u.clock = s.clock := by
    simp [← is]
  obtain ⟨recent, guard, clock⟩ := before
  have writes := u.startRestGuard_writes
  rwa [profile, recent, guard, clock] at writes

/-- Settles O38: a matching RECALL is received, then wakes: from a drain with the guard, from a rest alone. -/
theorem recallWakesLeaner : Obligations.RecallWakesLeaner := by
  intro after sender tag s hears other carrier recorded same base
  have matched : (s.arrived after .recall).matchesAttempt sender.toNat tag = true :=
    State.matchesAttempt_iff.mpr ⟨recorded, same⟩
  have woken (phase : s.rsq.phase = .draining ∨ s.rsq.phase = .standby ∨ s.rsq.phase = .deep) :
      exec (.recall after sender tag) s = .next (base.wake .recall) := by
    rw [exec_recall_heard hears other, State.takeRecall, if_neg (by simp [carrier])]
    rcases phase with is | is | is <;> simp [is, matched, base]
  have count : base.count (.wakes .recall) = s.count (.wakes .recall) :=
    (State.count_bump_ne _ (by simp)).trans (State.count_bump_ne _ (by simp))
  refine ⟨fun draining => ⟨_, woken (.inl draining), ?_⟩, fun resting => ⟨_, woken (.inr resting), ?_⟩⟩
  · obtain ⟨phase, cover, timer, cause⟩ := State.wake_draining (s := base) .recall draining
    obtain ⟨recent, guard⟩ := State.wake_recalled (s := base) draining
    refine ⟨phase, cover, timer, cause, by simp [base], by simp [base], recent, guard, ?_, ?_, by simp [base],
      by simp [base], by simp [base], by simp [base], by simp [base]⟩
    · rw [← same]
      exact State.wake_draining_lif (s := base) .recall draining recorded
    · rw [State.count_wakes (s := base) _ (.inl draining), count]
  · obtain ⟨phase, cover, -, cause, -⟩ := State.wake_resting (s := base) .recall resting
    have rsq := State.wake_resting_rsq (s := base) .recall resting
    refine ⟨phase, cause, cover, by rw [rsq]; rfl, ?_, State.wake_lif_of_resting (s := base) .recall resting, by simp [base],
      by simp [base], by simp [base], by simp [base], by simp [base]⟩
    rw [State.count_wakes (s := base) _ (.inr resting), count]

end Sys2Proof.Machine
end

section
/-! PROOFS. The outbound queue and the attempt at the line (R137 to R142, R148, R149; O47, O51). -/

namespace Sys2Proof.Machine

variable {s : State}

/-! ## The queue around its driven entry -/

theorem Entry.driven_false {f : Entry} (idle : f.attempt = none) : f.driven = false := by simp [Entry.driven, idle]

/-- Ending attempts changes no entry that is in none. -/
theorem Entry.eq_of_idle {f : Entry} (idle : f.attempt = none) : { f with attempt := none } = f := by
  rw [← idle]

section
variable {before behind : List Entry} {e : Entry} (driven : e.driven = true)
  (idle : ∀ f ∈ before ++ behind, f.attempt = none)
include driven idle

theorem drivenEntry_eq {l : LineInterface} (queue : l.queue = before ++ e :: behind) : l.drivenEntry = some e := by
  have none : before.find? Entry.driven = none :=
    List.find?_eq_none.mpr fun f mem => by simp [Entry.driven_false (idle f (List.mem_append_left _ mem))]
  simp [LineInterface.drivenEntry, queue, List.find?_append, none, driven]

theorem removeDriven_eq : removeDriven (before ++ e :: behind) = before ++ behind := by
  have none : ∀ f ∈ before, ¬f.driven = true :=
    fun f mem => by simp [Entry.driven_false (idle f (List.mem_append_left _ mem))]
  rw [removeDriven, List.eraseP_append_right _ none, List.eraseP_cons_of_pos driven]

end

/-- What is done to a driven entry alone leaves the entries that are in no attempt. -/
theorem map_around_driven {before behind : List Entry} (e : Entry) {f : Entry → Entry}
    (kept : ∀ g, g.attempt = none → f g = g) (idle : ∀ g ∈ before ++ behind, g.attempt = none) :
    (before ++ e :: behind).map f = before ++ f e :: behind := by
  have still (l : List Entry) (none : ∀ g ∈ l, g.attempt = none) : l.map f = l :=
    (List.map_congr_left fun g mem => kept g (none g mem)).trans (List.map_id l)
  rw [List.map_append, List.map_cons, still before fun g mem => idle g (List.mem_append_left _ mem),
    still behind fun g mem => idle g (List.mem_append_right _ mem)]

/-! ## The attempt -/

/-- Settles O47: the attempt takes the head of the queue; its end, however it comes, acts on the one driven entry. -/
theorem attemptRunsItsCourse : Obligations.AttemptRunsItsCourse := by
  intro after s out
  refine ⟨fun e rest idle queue quiet => ?starts, fun before behind e queue driven resting => ?runs⟩
  case starts =>
    have can : (s.elapse after).canAttempt = true := by simp [State.canAttempt, idle, queue, quiet]
    rw [exec_live _ out]
    dsimp only [commandWork, commandTime]
    rw [if_pos can]
    simp [startAttempt, queue, State.onLif]
  case runs =>
    have entry : (s.elapse after).lif.drivenEntry = some e := drivenEntry_eq driven resting queue
    have attempting : (s.elapse after).lif.attempting = true := by simp [LineInterface.attempting, queue, driven]
    have removed : removeDriven s.lif.queue = before ++ behind := by rw [queue, removeDriven_eq driven resting]
    refine ⟨?loss, fun below => ?abandon, fun last => ?discard, ?complete⟩
    case loss =>
      have ended : endAttempt s.lif.queue = before ++ { e with attempt := none } :: behind := by
        rw [queue, endAttempt, map_around_driven e (fun _ => Entry.eq_of_idle) resting]
      rw [exec_live _ out]
      dsimp only [commandWork, commandTime]
      rw [if_pos attempting]
      simp [State.onLif, ended, State.bump, State.onAcc]
    case abandon =>
      have given : abandonAttempt s.lif.queue =
          before ++ { e with attempt := none, abandons := e.abandons + 1 } :: behind := by
        rw [queue, abandonAttempt, map_around_driven e (fun g idle => by simp [Entry.driven_false idle]) resting]
        simp [driven]
      rw [exec_live _ out]
      dsimp only [commandWork, commandTime]
      rw [entry]
      dsimp only
      rw [if_neg (by omega)]
      simp [State.onLif, given, State.bump, State.onAcc]
    case discard =>
      rw [exec_live _ out]
      dsimp only [commandWork, commandTime]
      rw [entry]
      dsimp only
      rw [if_pos (by omega)]
      simp [State.onLif, removed, State.bump, State.onAcc]
    case complete =>
      rw [exec_live _ out]
      dsimp only [commandWork, commandTime]
      rw [entry]
      simp [State.onLif, removed, State.bump, State.onAcc]

/-! ## A notice offered -/

/-- A notice joins behind the last entry that is at least as urgent (R141, R142). -/
theorem joinQueue_split (e : Entry) {q : List Entry} (order : q.Pairwise fun f g => f.priority ≤ g.priority) :
    ∃ ahead behind, q = ahead ++ behind ∧ (∀ f ∈ ahead, f.priority ≤ e.priority) ∧
      (∀ f ∈ behind, e.priority < f.priority) ∧ joinQueue e q = ahead ++ e :: behind := by
  induction q with
  | nil => exact ⟨[], [], rfl, by simp, by simp, rfl⟩
  | cons f rest ih =>
    rw [List.pairwise_cons] at order
    by_cases goes : f.priority ≤ e.priority
    · obtain ⟨ahead, behind, split, before, after, joined⟩ := ih order.2
      refine ⟨f :: ahead, behind, by rw [split]; rfl, ?_, after, ?_⟩
      · simpa using ⟨goes, before⟩
      · rw [joinQueue, if_pos goes, joined]
        rfl
    · refine ⟨[], f :: rest, rfl, by simp, fun g mem => ?_, if_neg goes⟩
      rcases List.mem_cons.mp mem with rfl | later
      · exact Nat.lt_of_not_le goes
      · exact Nat.lt_of_lt_of_le (Nat.lt_of_not_le goes) (order.1 g later)

theorem Notice.kind_beacon_iff {n : Notice} : n.kind = .beacon ↔ n = .beacon := by
  cases n <;> simp [Notice.kind]

/-- A notice that finds no beacon slot of its own and no STATUS to replace is enqueued (R142, R149). -/
theorem State.offer_enqueues {n : Notice} (mute : s.rsq.phase ≠ .mute) (loading : s.rsq.phase ≠ .loading)
    (slot : ¬(n = .beacon ∧ ∃ e ∈ s.lif.queue, e.notice = .beacon))
    (status : ¬(n.kind = .status ∧ ∃ e ∈ s.lif.queue, e.notice.kind = .status ∧ e.attempt = none)) :
    s.offer n = s.enqueue n := by
  unfold State.offer
  rw [if_neg (by simp [mute, loading])]
  split
  next is =>
    refine if_neg fun queued => slot ⟨Notice.kind_beacon_iff.mp is, ?_⟩
    simpa [Notice.kind_beacon_iff] using queued
  next is =>
    refine if_neg fun queued => status ⟨is, ?_⟩
    simpa [replaceable, Entry.driven] using queued
  next => rfl

/-- Settles O51: the phases that take none, the beacon's one slot, the STATUS that replaces, and every other notice joining.
-/
theorem offeredNoticeJoins : Obligations.OfferedNoticeJoins := by
  intro n s
  refine ⟨fun silent => if_pos silent, fun mute loading => ?_⟩
  intro beaconQueued statusQueued
  refine ⟨fun is queued => ?slot, fun slot status room kept => ?joins, fun is before after old queue kind idle first => ?replaces⟩
  case slot =>
    have there : s.lif.queue.any (fun e => e.notice.kind == Kind.beacon) = true := by
      simpa [Notice.kind_beacon_iff] using queued
    rw [State.offer, if_neg (by simp [mute, loading]), is]
    exact if_pos there
  case joins =>
    obtain ⟨ahead, behind, split, before, after, joined⟩ := joinQueue_split (.fresh n) kept.sendingOrder
    refine ⟨ahead, behind, split, before, after, ?_⟩
    rw [State.offer_enqueues mute loading slot status, State.enqueue, if_pos (show s.lif.queue.length < Config.queueLimit from room),
      State.onLif, joined]
    rfl
  case replaces =>
    have replace : replaceable old = true := by simp [replaceable, kind, Entry.driven, idle]
    have passed : ∀ e ∈ before, ¬replaceable e = true := fun e mem => by
      simpa [replaceable, Entry.driven] using first e mem
    have there : s.lif.queue.any replaceable = true := by simp [queue, replace]
    have left : s.lif.queue.eraseP replaceable = before ++ after := by
      rw [queue, List.eraseP_append_right _ passed, List.eraseP_cons_of_pos replace]
    rw [State.offer, if_neg (by simp [mute, loading]), is]
    refine (if_pos there).trans ?_
    rw [State.onLif, left]
    rfl

end Sys2Proof.Machine
end

section
/-! PROOFS. The frames that reach no block (R136, R144 to R146, R174; O49). -/

namespace Sys2Proof.Machine

variable {s : State} {after : Micros}

/-! ## Kinds, addressees and lengths -/

/-- A kind byte's code, by the place of its kind among the twelve (R136). -/
theorem kindOf_of_index {code : BitVec 5} {k : Kind} (is : code.toNat = kindIndex k + 1) : kindOf code = some k := by
  rw [kindOf, if_neg (by omega), is, Nat.add_sub_cancel]
  cases k <;> rfl

theorem kindOf_none {code : BitVec 5} (unknown : ¬(1 ≤ code.toNat ∧ code.toNat ≤ 12)) : kindOf code = none := by
  unfold kindOf
  split
  next => rfl
  next nonzero => exact List.getElem?_eq_none (by change 12 ≤ _; omega)

theorem exists_kind_of_index {n : Nat} (known : 1 ≤ n ∧ n ≤ 12) : ∃ k, n = kindIndex k + 1 := by
  have every : ∀ m < 12, ∃ k ∈ allKinds, m + 1 = kindIndex k + 1 := by decide
  obtain ⟨k, -, is⟩ := every (n - 1) (by omega)
  exact ⟨k, by omega⟩

/-- A BEACON payload is read when its two lists have the lengths its eighth byte gives (R174). -/
theorem readBeaconPayload_isSome (payload : List Byte) :
    (readBeaconPayload payload).isSome = true ↔
      ∃ counts, payload[7]? = some counts ∧ payload.length = 8 + counts.toNat / 16 + counts.toNat % 16 := by
  match payload with
  | b0 :: b1 :: b2 :: b3 :: b4 :: b5 :: b6 :: b7 :: lists =>
    have high : (b7.extractLsb' 4 4).toNat = b7.toNat / 16 := by
      have := b7.isLt
      simp [Nat.shiftRight_eq_div_pow]
      omega
    have low : (b7.extractLsb' 0 4).toNat = b7.toNat % 16 := by simp
    rw [readBeaconPayload, high, low]
    by_cases fits : lists.length = b7.toNat / 16 + b7.toNat % 16
    · simp [fits]
      omega
    · simp [fits]
      omega
  | [] | [_] | [_, _] | [_, _, _] | [_, _, _, _] | [_, _, _, _, _] | [_, _, _, _, _, _] | [_, _, _, _, _, _, _] =>
    simp [readBeaconPayload]

theorem addressSuits_iff (k : Kind) (addressee : Byte) :
    addressSuits k addressee = true ↔
      match k with
      | .beacon => addressee = 0xFF
      | .window | .flags | .profile => True
      | .recall | .coverAsk | .coverGrant | .coverDeny | .resume | .restart | .askStatus | .status => addressee ≠ 0xFF := by
  cases k <;> simp [addressSuits]

theorem lengthSuits_iff (k : Kind) (payload : List Byte) :
    lengthSuits k payload = true ↔
      match k with
      | .recall => payload.length = 1
      | .coverAsk => payload.length = 3
      | .coverGrant => payload.length = 3
      | .coverDeny => payload.length = 4
      | .resume => payload.length = 1
      | .beacon => ∃ counts, payload[7]? = some counts ∧ payload.length = 8 + counts.toNat / 16 + counts.toNat % 16
      | .window => payload.length = 4
      | .flags => payload.length = 3
      | .profile => payload.length = 2
      | .restart => payload.length = 0
      | .askStatus => payload.length = 1
      | .status => 2 ≤ payload.length ∧ payload.length ≤ 48 := by
  cases k with
  | beacon => exact readBeaconPayload_isSome payload
  | _ => simp [lengthSuits]

/-! ## What the receiver does with a frame -/

theorem exec_received {work : State → State} (hears : Hears s) (after : Micros) :
    s.event after (State.receive work) = .next (work (s.heard after)) := by
  rw [State.event_live _ _ _ hears.out, State.receive_hears hears]

/-- In LOADING no frame is received (R131, R144). -/
theorem exec_deaf {work : State → State} (out : s.held = false) (loading : s.rsq.phase = .loading) (after : Micros) :
    s.event after (State.receive work) = .next (s.elapse after) := by
  rw [State.event_live _ _ _ out, State.receive_deaf (by simp [State.canReceive, loading])]

/-- The line falls idle at a station that receives it and drives no frame of its own (R144). -/
theorem exec_lineIdle (out : s.held = false) (after : Micros) :
    exec (.lineIdle after) s =
      .next
        (if s.rsq.phase = .loading ∨ s.lif.attempting = true then s.elapse after else (s.elapse after).lineIdles) :=
  exec_live _ out

/-- The idle line by the receiver's state (R144). -/
theorem State.lineIdles_elapse (after : Micros) (s : State) :
    (s.elapse after).lineIdles =
      let idle : State := { s.elapse after with lif := { s.lif with receiver := .idle } }
      if s.lif.receiver = .inFrame then idle.bump .framingErrors else idle := by
  unfold State.lineIdles doWhen
  by_cases cut : s.lif.receiver = .inFrame <;> simp [cut] <;> rfl

theorem frameFate_unknown {own : BitVec 6} {f : Frame} (other : f.sender ≠ own)
    (unknown : ¬(1 ≤ f.kind.toNat ∧ f.kind.toNat ≤ 12)) : frameFate own f = .unknownKind := by
  rw [frameFate, if_neg other, kindOf_none unknown]

/-- The fate of a good frame of a known kind from another driver, by its addressee (R136, R146). -/
theorem frameFate_known {own : BitVec 6} {f : Frame} {k : Kind} (other : f.sender ≠ own)
    (is : f.kind.toNat = kindIndex k + 1) :
    frameFate own f =
      if f.addressee ≠ 0xFF ∧ f.addressee.toNat ≠ own.toNat then .otherAddressee
      else if addressSuits k f.addressee = false then .malformed
      else if lengthSuits k f.payload = false then .malformed
      else if maintenanceKind k = true ∧ fromMaintenance f.sender = false then .maintenanceFromCarrier
      else .arrival k := by
  rw [frameFate, if_neg other, kindOf_of_index is]

theorem exec_frameIgnored_heard (hears : Hears s) (after : Micros) (f : Frame) :
    exec (.frameIgnored after f) s = .next ((s.heard after).ignoreFrame f) := exec_received hears after

/-- What a frame of each fate leaves at a frame that is no arrival (R145, R146). -/
def State.afterFate (g : FrameFate) (s : State) : State :=
  match g with
  | .clash => s.takeClash
  | .unknownKind => s.bump .unknownKind
  | .otherAddressee => s
  | .malformed => s.bump .malformedFrames
  | .maintenanceFromCarrier => s.bump .maintenanceFromCarrier
  | .arrival _ => s

theorem State.ignoreFrame_eq (f : Frame) (s : State) : s.ignoreFrame f = s.afterFate (frameFate s.cfl.station f) := by
  unfold State.ignoreFrame State.afterFate
  rfl

/-- Settles O49: the layouts' tables, then the receiver's one step with each discarded or ignored frame. -/
theorem framesThatReachNoBlock : Obligations.FramesThatReachNoBlock := by
  refine ⟨rfl, addressSuits_iff, lengthSuits_iff, fun k => by cases k <;> simp [maintenanceKind],
    fun sender => by simp [fromMaintenance], fun after s out => ⟨fun up quiet => ?idle, fun driving => ?driving,
      fun loading why sender frame => ?loading, fun hears => ?heard⟩⟩
  case idle =>
    rw [exec_lineIdle out, if_neg (by simp [up, quiet]), State.lineIdles_elapse]
  case driving => rw [exec_lineIdle out, if_pos (.inr driving)]
  case loading =>
    refine ⟨?_, exec_deaf out loading after, exec_deaf out loading after, exec_deaf out loading after,
      exec_deaf out loading after⟩
    rw [exec_lineIdle out, if_pos (.inl loading)]
  case heard =>
    refine ⟨exec_received hears after, exec_received hears after, exec_received hears after,
      fun sender other => State.event_arrive hears other (by simp [maintenanceKind]), fun f other => ?_⟩
    have fate {g : FrameFate} (is : frameFate s.cfl.station f = g) :
        exec (.frameIgnored after f) s = .next ((s.heard after).afterFate g) := by
      subst is
      rw [exec_frameIgnored_heard hears, State.ignoreFrame_eq]
      rfl
    intro known addressed
    refine ⟨fun unknown => fate (frameFate_unknown other unknown), fun named elsewhere => ?_, fun k is here => ⟨fun bad => ?_,
      fun suits fits maintenance carrier => ?_⟩⟩
    · obtain ⟨k, is⟩ := exists_kind_of_index named
      refine fate ((frameFate_known other is).trans (if_pos ?_))
      simpa [addressed, not_or] using elsewhere
    · have own : ¬(f.addressee ≠ 0xFF ∧ f.addressee.toNat ≠ s.cfl.station.toNat) := by
        simpa [addressed, ← or_iff_not_imp_left] using here
      refine fate (g := .malformed) ((frameFate_known other is).trans ((if_neg own).trans ?_))
      rcases bad with address | length
      · exact if_pos address
      · rw [if_pos length]
        exact ite_self _
    · have own : ¬(f.addressee ≠ 0xFF ∧ f.addressee.toNat ≠ s.cfl.station.toNat) := by
        simpa [addressed, ← or_iff_not_imp_left] using here
      refine fate (g := .maintenanceFromCarrier) ((frameFate_known other is).trans ((if_neg own).trans ?_))
      rw [if_neg (by simp [suits]), if_neg (by simp [fits]), if_pos ⟨maintenance, carrier⟩]

end Sys2Proof.Machine
end

section
/-! PROOFS. The STATUS pages: the answer to an ASK-STATUS, the sections and the bytes of page 0 (R149, R168, R170, R171;
O45). -/

namespace Sys2Proof.Machine

variable {s : State}

/-! ## The counters of page 3 -/

/-- The section of page 3 that carries a counter (R171). -/
def homeSection (c : Counter) : Nat :=
  match c with
  | .restsEntered | .deepEntries | .deepDecisions | .dozeBeacons => 0
  | .granted | .removed _ | .asksReceived | .asksUnanswered | .unmatchedResumes | .overloadRecalls
  | .continuousRecalls | .recallsSent => 1
  | .deniesSent _ | .deniesReceived _ => 2
  | .asksSent | .grantsReceived | .misses | .askWaitExpiries | .abandonedAsks | .drainFailures | .lateGrants
  | .recallsReceived | .recallsAnswered | .wakes _ | .orphanWakes | .unsettledRaisings => 3
  | .setAside | .malformedBeacons | .otherSectorRemovals | .evictions | .ageRemovals | .fullViewDrops | .windowsTaken
  | .profilesTaken | .flagsTaken | .maskedOut | .malformedProfiles | .windowOpenings | .closingsByNotice
  | .closingsByExpiry | .profileChanges | .unrecognizedStatus => 4
  | .contentionLosses | .abandons | .statusReplaced | .framingErrors | .badChecks | .malformedFrames | .unknownKind
  | .maintenanceFromCarrier | .clashFrames | .validSamples | .linkBadRecords | .unrecognizedRecords | .repliesSent
  | .repliesDropped | .linkLosses | .linkReturns | .carrierFaults | .readsAbsent | .readsTimedOut | .fallbackLoads
  | .loadingExits | .lineRestarts => 5
  | .sent _ => 6
  | .arrivals _ => 7
  | .abandonDiscards _ => 8
  | .queueDiscards _ => 9

theorem sectionCounters_nodup : ∀ n < 10, (sectionCounters n).Nodup := by decide

theorem homeSection_of_mem : ∀ n < 10, ∀ c ∈ sectionCounters n, homeSection c = n := by decide

theorem mem_homeSection (c : Counter) : c ∈ sectionCounters (homeSection c) := by
  cases c with
  | sent k => cases k <;> decide
  | arrivals k => cases k <;> decide
  | abandonDiscards k => cases k <;> decide
  | queueDiscards k => cases k <;> decide
  | removed k => cases k <;> decide
  | deniesSent k => cases k <;> decide
  | deniesReceived k => cases k <;> decide
  | wakes k => cases k <;> decide
  | _ => decide

/-- Each counter is read once, in its own section (R171). -/
theorem State.readCounters_filter (s : State) {n : Nat} (range : n < 10) (c : Counter) :
    (s.readCounters n).filter (fun row => row.1 == c) = if homeSection c = n then [(c, s.count c)] else [] := by
  have rows : (s.readCounters n).filter (fun row => row.1 == c) =
      ((sectionCounters n).filter (· == c)).map fun d => (d, s.count d) := by
    rw [State.readCounters, List.filter_map]
    rfl
  rw [rows, List.filter_beq]
  by_cases home : homeSection c = n
  · rw [if_pos home, List.count_eq_one_of_mem (sectionCounters_nodup n range) (home ▸ mem_homeSection c)]
    rfl
  · rw [if_neg home, List.count_eq_zero_of_not_mem fun mem => home (homeSection_of_mem n range c mem)]
    rfl

/-! ## Numbers on the bytes of page 0 -/

theorem twoBytes_toNat (n : Nat) : (twoBytes (BitVec.ofNat 16 n)).map (·.toNat) = [n / 256 % 256, n % 256] := by
  simp [twoBytes, Nat.shiftRight_eq_div_pow]
  omega

/-- A row of bits as a number. -/
def bitSum (f : Nat → Bool) (k : Nat) : Nat := ((List.range k).map fun n => if f n then 2 ^ n else 0).sum

theorem bitSum_lt (f : Nat → Bool) (k : Nat) : bitSum f k < 2 ^ k := by
  induction k with
  | zero => exact Nat.one_pos
  | succ k ih =>
    have step : bitSum f (k + 1) = bitSum f k + if f k then 2 ^ k else 0 := by
      simp [bitSum, List.range_succ]
    rw [step, Nat.pow_succ]
    split <;> omega

theorem bitSum_add (f : Nat → Bool) (k l : Nat) :
    bitSum f (k + l) = bitSum f k + 2 ^ k * bitSum (fun n => f (k + n)) l := by
  induction l with
  | zero => simp [bitSum]
  | succ l ih =>
    have step (g : Nat → Bool) (m : Nat) : bitSum g (m + 1) = bitSum g m + if g m then 2 ^ m else 0 := by
      simp [bitSum, List.range_succ]
    rw [← Nat.add_assoc, step, step, ih, Nat.mul_add]
    split
    · rw [Nat.pow_add]; omega
    · omega

/-- The byte of a number below 256. -/
theorem byte_toNat {n : Nat} (range : n < 256) : (BitVec.ofNat 8 n).toNat = n := by
  rw [BitVec.toNat_ofNat]
  omega

theorem bit_le (b : Bool) (n : Nat) : (if b = true then 2 ^ n else 0) ≤ 2 ^ n := by split <;> simp

/-- The two bytes of the sixteen conditions (13.3). -/
theorem State.conditionSet_bytes (s : State) :
    (twoBytes s.conditionSet).map (·.toNat) =
      [bitSum (fun n => s.condition (BitVec.ofNat 4 (8 + n))) 8, bitSum (fun n => s.condition (BitVec.ofNat 4 (0 + n))) 8] := by
  have set : s.conditionSet = BitVec.ofNat 16 (bitSum (fun n => s.condition (BitVec.ofNat 4 n)) (8 + 8)) := by
    rw [State.conditionSet, bitSum]
  have parts {low high : Nat} (l : low < 2 ^ 8) (h : high < 2 ^ 8) :
      (low + 2 ^ 8 * high) / 256 % 256 = high ∧ (low + 2 ^ 8 * high) % 256 = low := by omega
  obtain ⟨high, low⟩ := parts (bitSum_lt (fun n => s.condition (BitVec.ofNat 4 n)) 8)
    (bitSum_lt (fun n => s.condition (BitVec.ofNat 4 (8 + n))) 8)
  rw [set, twoBytes_toNat, bitSum_add, high, low]
  simp only [Nat.zero_add]

/-- The flags' byte, bit by bit (13.3). -/
theorem flagBits_eq (f : SiteFlags) :
    bitSum (flagValue f) 8 =
      (if f.sf0 then 1 else 0) + (if f.sf1 then 2 else 0) + (if f.sf2 then 4 else 0) + (if f.sf3 then 8 else 0) +
        (if f.sf4 then 16 else 0) + (if f.sf5 then 32 else 0) + (if f.sf6 then 64 else 0) + (if f.sf7 then 128 else 0) := by
  simp [bitSum, List.range_succ, flagValue]
  omega

theorem phaseCode_lt (p : Phase) : phaseCode p < 256 := by cases p <;> decide

theorem orderCode_le (o : Order) : orderCode o ≤ 3 := by cases o <;> decide

/-- Page 0 byte by byte (R171, 13.3). -/
theorem State.stationBytes_toNat (s : State) :
    (stationBytes s.stationPage).map (·.toNat) =
      [s.cfl.station.toNat, (if s.cfl.configBad then 128 else 0) + 8 * roleCode s.image.role + s.image.sector.toNat,
        s.image.capacity / 256 % 256, s.image.capacity % 256, s.cfl.clampCount % 256, phaseCode s.rsq.phase,
        64 * orderCode s.rsq.order + 16 * orderCode s.clp.currentOrder +
          (match s.clp.link with
            | .waiting => 0
            | .up => 4
            | .lost => 8) +
          (match s.lde.state with
            | .unseeded => 0
            | .tracking => 1
            | .blind => 2),
        (match s.rsq.cover with
          | some cover => cover % 256
          | none => 255),
        (if s.plu.windowOpen then 128 else 0) + (if s.plu.hold then 32 else 0) + (if s.plu.rouse then 16 else 0) +
          (if s.pvt.viewFull then 8 else 0) + s.plu.activeProfile.toNat,
        s.remainingMinutes / 256 % 256, s.remainingMinutes % 256,
        bitSum (flagValue s.plu.flags) 8,
        bitSum (fun n => s.condition (BitVec.ofNat 4 (8 + n))) 8, bitSum (fun n => s.condition (BitVec.ofNat 4 (0 + n))) 8,
        s.workingLevel / 256 % 256, s.workingLevel % 256, s.room / 256 % 256, s.room % 256,
        s.cvu.book.length % 256, s.pvt.entries.length % 256] := by
  have strap := s.cfl.station.isLt
  have sector := s.image.sector.isLt
  have role := roleCode_le s.image.role
  have phase := phaseCode_lt s.rsq.phase
  have implied := orderCode_le s.rsq.order
  have current := orderCode_le s.clp.currentOrder
  have profile := s.plu.activeProfile.isLt
  have flags := bitSum_lt (flagValue s.plu.flags) 8
  simp only [stationBytes, State.stationPage, List.map_append, twoBytes_toNat, State.conditionSet_bytes]
  simp only [List.map_cons, List.map_nil, List.cons_append, List.nil_append, List.cons.injEq,
    true_and, and_true]
  refine ⟨?strap, ?config, ?clamps, ?phase, ?orders, ?cover, ?policy, ?flags, ?pledges, ?entries⟩
  case strap => exact byte_toNat (by omega)
  case config =>
    have bad := bit_le s.cfl.configBad 7
    exact byte_toNat (n := (if s.cfl.configBad then 2 ^ 7 else 0) + 8 * roleCode s.image.role + s.image.sector.toNat)
      (by omega)
  case clamps => exact BitVec.toNat_ofNat _ _
  case phase => exact byte_toNat phase
  case orders => cases s.clp.link <;> cases s.lde.state <;> exact byte_toNat (by simp only []; omega)
  case cover =>
    cases s.rsq.cover with
    | none => rfl
    | some c => exact BitVec.toNat_ofNat _ _
  case policy =>
    have isOpen := bit_le s.plu.windowOpen 7
    have hold := bit_le s.plu.hold 5
    have rouse := bit_le s.plu.rouse 4
    have full := bit_le s.pvt.viewFull 3
    exact byte_toNat
      (n := (if s.plu.windowOpen then 2 ^ 7 else 0) + (if s.plu.hold then 2 ^ 5 else 0) + (if s.plu.rouse then 2 ^ 4 else 0) +
        (if s.pvt.viewFull then 2 ^ 3 else 0) + s.plu.activeProfile.toNat) (by omega)
  case flags => exact byte_toNat flags
  case pledges => exact BitVec.toNat_ofNat _ _
  case entries => exact BitVec.toNat_ofNat _ _

/-! ## The answer -/

/-- An ASK-STATUS from a maintenance station reaches its answer (R146, R170). -/
theorem exec_askStatus_heard {sender : BitVec 6} (hears : Hears s) (other : sender ≠ s.cfl.station)
    (maintenance : fromMaintenance sender = true) (after : Micros) (page : BitVec 3) (clear : Bool) :
    exec (.askStatus after sender page clear) s =
      .next ((s.arrived after .askStatus).answerStatus sender.toNat page clear) := by
  rw [exec_askStatus, execAskStatus, State.event_arrive hears other fun _ => maintenance]

/-- Page 3's section, as counters (R171). -/
theorem State.readCounters_of_section (s : State) (n : Nat) :
    (match s.sectionOf 3 n with
      | .energy _ _ _ _ _ counts | .counts counts => counts
      | _ => []) = s.readCounters n := by
  by_cases zero : n = 0
  · subst zero
    rfl
  · have is : s.sectionOf 3 n = .counts (s.readCounters n) := if_neg zero
    rw [is]

/-- Settles O45: the answer without its clear, the bytes of page 0, and the sections read field by field. -/
theorem statusAnswered : Obligations.StatusAnswered := by
  refine ⟨fun after sender page clear s hears other maintenance => ⟨fun above => ?unrecognized, fun known => ?recognized⟩,
    fun s measured => ?sections⟩
  case unrecognized =>
    rw [exec_askStatus_heard hears other maintenance, State.answerStatus, if_neg (Nat.not_le.mpr above)]
  case recognized =>
    intro base last next
    rw [exec_askStatus_heard hears other maintenance, State.answerStatus, if_pos known]
    have pages : page.toNat = 0 ∨ page.toNat = 1 ∨ page.toNat = 2 ∨ page.toNat = 3 := by omega
    rcases pages with is | is | is | is
    all_goals simp only [is, next, last, doWhen]
    all_goals rfl
  case sections =>
    intro left bit condition minutes
    refine ⟨?station, rfl, ?sequencer, fun position range => ?pledge, fun n range => ?profile, rfl, fun slot range => ?slot, ?_⟩
    case station =>
      have bytes := s.stationBytes_toNat
      rw [flagBits_eq] at bytes
      exact congrArg (fun rest => 128 :: 0 :: rest) bytes
    case sequencer =>
      have seconds : s.rsq.restClock.seconds = min 4294967295 (s.rsq.restClock.measured / 1000000) :=
        (Nat.min_eq_right (Nat.div_le_of_le_mul (by rw [Nat.mul_comm]; exact measured))).symm
      rw [← seconds]
      rfl
    case pledge =>
      have place : 2 + position ≠ 0 ∧ 2 + position ≠ 1 ∧ 2 + position ≤ 7 := by omega
      rw [State.sectionOf, if_neg place.1, if_neg place.2.1, if_pos place.2.2, Nat.add_sub_cancel_left]
    case profile =>
      have place : 8 + n ≠ 0 ∧ 8 + n ≠ 1 ∧ ¬8 + n ≤ 7 := by omega
      rw [State.sectionOf, if_neg place.1, if_neg place.2.1, if_neg place.2.2, Nat.add_sub_cancel_left]
    case slot =>
      rw [State.sectionOf, if_neg (by omega), Nat.add_sub_cancel_left, List.getD_eq_getElem?_getD]
      rcases s.pvt.slots[slot]? with _ | _ | e <;> rfl
    intro counted
    refine ⟨⟨_, rfl⟩, fun n range c => ?_⟩
    exact (congrArg (List.filter _) (s.readCounters_of_section n)).trans (s.readCounters_filter range c)

end Sys2Proof.Machine
end

section
/-! PROOFS. What is written on the line and on the carrier link, read back: bytes, frames, payloads (R136, R144, R174 to
R177). -/

namespace Sys2Proof.Machine

/-! ## Fields within bytes -/

/-- A word is its two bytes. -/
theorem join_bytes (v : BitVec 16) : v.extractLsb' 8 8 ++ v.extractLsb' 0 8 = v :=
  BitVec.extractLsb'_append_extractLsb'

/-- A 24-bit field is its three bytes. -/
theorem join_three_bytes (v : BitVec 24) :
    v.extractLsb' 16 8 ++ v.extractLsb' 8 8 ++ v.extractLsb' 0 8 = v := by
  have upper : v.extractLsb' 16 8 ++ v.extractLsb' 8 8 = v.extractLsb' 8 16 :=
    BitVec.extractLsb'_append_extractLsb'_eq_extractLsb' rfl
  rw [upper]
  exact BitVec.extractLsb'_append_extractLsb'

/-- The three bytes of a level and a room of twelve bits each (R175). -/
theorem level_room_bytes (level room : BitVec 12) :
    (level ++ room).extractLsb' 16 8 = level.extractLsb' 4 8 ∧
      (level ++ room).extractLsb' 8 8 = level.extractLsb' 0 4 ++ room.extractLsb' 8 4 ∧
      (level ++ room).extractLsb' 0 8 = room.extractLsb' 0 8 := by
  refine ⟨BitVec.extractLsb'_append_eq_of_le (by omega), ?middle, BitVec.extractLsb'_append_eq_of_add_le (by omega)⟩
  case middle =>
    have split : (level ++ room).extractLsb' 12 4 ++ (level ++ room).extractLsb' 8 4 = (level ++ room).extractLsb' 8 8 :=
      BitVec.extractLsb'_append_extractLsb'_eq_extractLsb' rfl
    rw [← split, BitVec.extractLsb'_append_eq_of_le (by omega), BitVec.extractLsb'_append_eq_of_add_le (by omega)]

/-- The four fields of a BEACON's first byte (R175). -/
theorem beacon_first_byte (phase : BitVec 3) (role profile : BitVec 2) (clash : Bool) :
    let byte : BitVec 8 := phase ++ role ++ profile ++ BitVec.ofBool clash
    byte.extractLsb' 5 3 = phase ∧ byte.extractLsb' 3 2 = role ∧ byte.extractLsb' 1 2 = profile ∧
      byte.getLsbD 0 = clash := by
  revert phase role profile clash
  decide

/-- A station number as an addressee character. -/
theorem ofNat_station (peer : BitVec 6) : BitVec.ofNat 8 peer.toNat = peer.setWidth 8 := by
  rw [BitVec.ofNat_toNat]

/-! ## Frames -/

theorem length_frameHeader (f : Frame) : (frameHeader f).length = 4 := rfl

theorem length_frameCharacters (f : Frame) : (frameCharacters f).length = 6 + f.payload.length := by
  rw [frameCharacters, length_withCheck, List.length_append, length_frameHeader]
  omega

/-- The characters of a frame: its four header characters, its payload and the check's two. -/
theorem frameCharacters_eq (f : Frame) :
    frameCharacters f =
      (f.priority ++ f.sender : BitVec 8) :: (f.kind ++ f.sector : BitVec 8) :: f.addressee ::
        BitVec.ofNat 8 f.payload.length :: (f.payload ++ twoBytes (crc (frameHeader f ++ f.payload))) := rfl

/-- A run of four characters or more, by its length character (R144). -/
theorem readFrame_cons (c1 c2 c3 c4 : Byte) (rest : List Byte) :
    readFrame (c1 :: c2 :: c3 :: c4 :: rest) =
      if 48 < c4.toNat then .inr .oversize
      else if rest.length < c4.toNat + 2 then .inr .framing
      else
        match checkedBody ((c1 :: c2 :: c3 :: c4 :: rest).take (6 + c4.toNat)) with
        | none => .inr .badCheck
        | some _ =>
          .inl
            { priority := c1.extractLsb' 6 2, sender := c1.extractLsb' 0 6, kind := c2.extractLsb' 3 5
              sector := c2.extractLsb' 0 3, addressee := c3, payload := rest.take c4.toNat } := rfl

/-- A run of three characters or fewer is no frame (R144). -/
theorem readFrame_short {characters : List Byte} (short : characters.length < 4) :
    readFrame characters = .inr .framing := by
  match characters with
  | [] | [_] | [_, _] | [_, _, _] => rfl
  | _ :: _ :: _ :: _ :: _ =>
    simp only [List.length_cons] at short
    omega

/-- The length character of a well-formed frame is its payload's length. -/
theorem length_character {f : Frame} (fits : f.payload.length ≤ 48) :
    (BitVec.ofNat 8 f.payload.length).toNat = f.payload.length := byte_toNat (by omega)

/-- A frame is read back as it was written, whatever follows it (R136, R144). -/
theorem readFrame_frameCharacters {f : Frame} (fits : f.wellFormed = true) (more : List Byte) :
    readFrame (frameCharacters f ++ more) = .inl f := by
  have fits : f.payload.length ≤ 48 := by simpa [Frame.wellFormed] using fits
  have count := length_character fits
  have whole : (frameCharacters f ++ more).take (6 + f.payload.length) = frameCharacters f :=
    List.take_left' (length_frameCharacters f)
  have checked : checkedBody (frameCharacters f) = some (frameHeader f ++ f.payload) := checkedBody_eq_some_iff.mpr rfl
  rw [frameCharacters_eq] at whole checked ⊢
  simp only [List.cons_append] at whole ⊢
  rw [readFrame_cons, count, if_neg (by omega), if_neg (by simp; omega), whole, checked]
  simp only [BitVec.extractLsb'_append_eq_left, BitVec.extractLsb'_append_eq_right, List.append_assoc]
  rw [List.take_left' rfl]

/-- A frame cut short is a framing error (R144). -/
theorem readFrame_cut {f : Frame} (fits : f.wellFormed = true) {n : Nat} (cut : n < (frameCharacters f).length) :
    readFrame ((frameCharacters f).take n) = .inr .framing := by
  have fits : f.payload.length ≤ 48 := by simpa [Frame.wellFormed] using fits
  have count := length_character fits
  rw [length_frameCharacters] at cut
  by_cases short : n < 4
  · exact readFrame_short (by rw [List.length_take]; omega)
  · obtain ⟨m, rfl⟩ : ∃ m, n = m + 4 := ⟨n - 4, by omega⟩
    rw [frameCharacters_eq]
    simp only [List.take_succ_cons]
    rw [readFrame_cons, count, if_neg (by omega), if_pos]
    rw [List.length_take]
    omega

theorem readFrame_oversize {c1 c2 c3 c4 : Byte} {rest : List Byte} (oversize : 48 < c4.toNat) :
    readFrame (c1 :: c2 :: c3 :: c4 :: rest) = .inr .oversize := by
  rw [readFrame_cons, if_pos oversize]

/-- A run of a frame's length whose last two bytes are not the check of those before them (R144, R177). -/
theorem readFrame_badCheck {c1 c2 c3 c4 : Byte} {payload more : List Byte} {check : BitVec 16}
    (length : payload.length = c4.toNat) (fits : c4.toNat ≤ 48) (wrong : check ≠ crc (c1 :: c2 :: c3 :: c4 :: payload)) :
    readFrame (c1 :: c2 :: c3 :: c4 :: payload ++ twoBytes check ++ more) = .inr .badCheck := by
  have whole : (c1 :: c2 :: c3 :: c4 :: payload ++ twoBytes check ++ more).take (6 + c4.toNat) =
      c1 :: c2 :: c3 :: c4 :: payload ++ twoBytes check :=
    List.take_left' (by simp [length]; omega)
  have unmatched : checkedBody (c1 :: c2 :: c3 :: c4 :: payload ++ twoBytes check) = none := by
    refine Option.eq_none_iff_forall_not_mem.mpr fun body found => wrong ?_
    have ends := checkedBody_eq_some_iff.mp found
    obtain ⟨rfl, same⟩ := List.append_inj' ends rfl
    have same := List.cons.inj same
    rw [← join_bytes check, same.1, (List.cons.inj same.2).1, join_bytes]
  simp only [List.cons_append] at whole unmatched ⊢
  rw [readFrame_cons, if_neg (by omega), if_neg (by simp [length]; omega), whole, unmatched]

/-! ## What is driven -/

/-- The codes of the deny reasons (R175). -/
def reasonCodes : List (DenyReason × Byte) :=
  [(.sector, 1), (.role, 2), (.clash, 3), (.blind, 4), (.closed, 5), (.notAwake, 6), (.full, 7), (.noRoom, 8)]

theorem reasonOf_eq_some_iff (reason : DenyReason) (code : Byte) :
    reasonOf code = some reason ↔ (reason, code) ∈ reasonCodes := by
  cases reason <;> (revert code; decide +kernel)

theorem reasonCode_of_mem {reason : DenyReason} {code : Byte} (mem : (reason, code) ∈ reasonCodes) :
    BitVec.ofNat 8 (reasonCode reason) = code := by
  have every : ∀ pair ∈ reasonCodes, BitVec.ofNat 8 (reasonCode pair.1) = pair.2 := by decide
  exact every _ mem

/-- A frame this station drives, character by character (R174). -/
theorem State.frameCharacters_frameOf (s : State) {n : Notice} {b : BeaconFields} {addressee : Byte}
    {payload : List Byte} (addressed : n.addressee = addressee) (contents : n.payload b = payload) :
    frameCharacters (s.frameOf n b) =
      withCheck
        ([(BitVec.ofNat 2 n.priority ++ s.cfl.station : BitVec 8), (kindCode n.kind ++ s.image.sector : BitVec 8),
            addressee, BitVec.ofNat 8 payload.length] ++
          payload) := by
  subst addressed contents
  rfl

/-- No section is longer than a STATUS payload's 46 bytes (R171). -/
theorem length_sectionPayload (contents : Section) : (sectionPayload contents).length ≤ 46 := by
  cases contents with
  | station p => exact (show (stationBytes p).length = 20 from rfl) ▸ (by omega)
  | _ => exact List.length_take_le ..

/-- The first byte of an answered STATUS: bit 7 set, the page below (R175). -/
theorem status_first_byte (page : BitVec 3) : BitVec.ofNat 8 (128 + page.toNat) = 1#1 ++ 0#4 ++ page := by
  revert page
  decide

theorem status_first_byte_unrecognized (page : BitVec 3) : BitVec.ofNat 8 page.toNat = 0#5 ++ page := by
  revert page
  decide

theorem beaconPayload_eq (b : BeaconFields) :
    beaconPayload b =
      [(b.phase ++ b.role ++ b.profile ++ BitVec.ofBool b.clash : BitVec 8), b.capacity.extractLsb' 8 8,
          b.capacity.extractLsb' 0 8, b.level.extractLsb' 4 8,
          (b.level.extractLsb' 0 4 ++ b.room.extractLsb' 8 4 : BitVec 8), b.room.extractLsb' 0 8, b.cover,
          (BitVec.ofNat 4 b.covering.length ++ BitVec.ofNat 4 b.resting.length : BitVec 8)] ++
        b.covering ++ b.resting := by
  obtain ⟨high, middle, low⟩ := level_room_bytes b.level b.room
  rw [← high, ← middle, ← low]
  rfl

/-- A REPLY's fields byte (13.4). -/
theorem reply_fields_byte (r : Reply) :
    BitVec.ofNat 8 ((if r.recognized then 128 else 0) + 16 * orderCode r.order + phaseCode r.phase) =
      BitVec.ofBool r.recognized ++ (0 : BitVec 1) ++ BitVec.ofNat 2 (orderCode r.order) ++
        BitVec.ofNat 4 (phaseCode r.phase) := by
  obtain ⟨recognized, order, phase⟩ := r
  cases recognized <;> cases order <;> cases phase <;> rfl

/-! ## What is read -/

/-- A well-formed BEACON payload is read back field by field (R175). -/
theorem readBeaconPayload_beaconPayload {b : BeaconFields} (fits : b.wellFormed = true) :
    readBeaconPayload (beaconPayload b) = some b := by
  obtain ⟨covering, resting⟩ : b.covering.length ≤ 15 ∧ b.resting.length ≤ 15 := by
    simpa [BeaconFields.wellFormed] using fits
  have count {n : Nat} (small : n ≤ 15) : (BitVec.ofNat 4 n).toNat = n := by
    rw [BitVec.toNat_ofNat]
    omega
  obtain ⟨phase, role, profile, clash⟩ := beacon_first_byte b.phase b.role b.profile b.clash
  rw [beaconPayload]
  simp only [List.cons_append, List.nil_append, readBeaconPayload, BitVec.extractLsb'_append_eq_left,
    BitVec.extractLsb'_append_eq_right, count covering, count resting, List.length_append, if_true, List.take_left',
    List.drop_left', phase, role, profile, clash, join_bytes, join_three_bytes]

end Sys2Proof.Machine
end

section
/-! PROOFS. The commands that received runs and records are, and what this station's frames read back as (R144 to R146, R152,
R153, R173 to R177; O56). -/

namespace Sys2Proof.Machine

variable {own : BitVec 6} {after : Micros} {straps : BitVec 6}

/-! ## Records of the carrier link -/

/-- A record joined to its check, by its first byte and its three fields (R153, R176). -/
theorem linkCommand_record (after : Micros) (kind : Byte) (fields : BitVec 24) :
    linkCommand after
        (withCheck [kind, fields.extractLsb' 16 8, fields.extractLsb' 8 8, fields.extractLsb' 0 8]) =
      match conditionOf (fields.extractLsb' 0 3) with
      | some condition =>
        if kind = 0x01 then .validSample after (fields.extractLsb' 14 10) (fields.extractLsb' 3 11) condition
        else .unrecognizedRecord after
      | none => .unrecognizedRecord after := by
  rw [linkCommand, if_neg (by simp), checkedBody_eq_some_iff.mpr rfl]
  simp only [join_three_bytes] <;> rfl

theorem linkCommand_short (after : Micros) (b1 b2 : Byte) :
    linkCommand after (withCheck [b1, b2]) = .unrecognizedRecord after := by
  rw [linkCommand, if_neg (by simp), checkedBody_eq_some_iff.mpr rfl]

/-- A record of another length, or one that ends in no check of its own, is a bad record (R152). -/
theorem linkCommand_bad {bytes : List Byte}
    (bad : bytes.length ≠ 4 ∧ bytes.length ≠ 6 ∨ ∀ body, bytes ≠ withCheck body) :
    linkCommand after bytes = .linkBadRecord after := by
  rw [linkCommand]
  split
  next => rfl
  next length =>
    have unmatched : checkedBody bytes = none :=
      Option.eq_none_iff_forall_not_mem.mpr fun body found =>
        (bad.resolve_left length) body (checkedBody_eq_some_iff.mp found)
    rw [unmatched]

/-- The fields of a SAMPLE (13.4). -/
theorem sample_fields (u : BitVec 10) (n : BitVec 11) (code : BitVec 3) :
    (u ++ n ++ code : BitVec 24).extractLsb' 14 10 = u ∧ (u ++ n ++ code : BitVec 24).extractLsb' 3 11 = n ∧
      (u ++ n ++ code : BitVec 24).extractLsb' 0 3 = code := by
  refine ⟨?first, ?second, BitVec.extractLsb'_append_eq_right⟩
  case first =>
    rw [BitVec.extractLsb'_append_eq_of_le (by omega)]
    exact BitVec.extractLsb'_append_eq_left
  case second =>
    rw [BitVec.extractLsb'_append_eq_of_le (by omega)]
    exact BitVec.extractLsb'_append_eq_right

/-- A record of three fields (R153). -/
theorem linkCommand_sample (after : Micros) (kind : Byte) (u : BitVec 10) (n : BitVec 11) (code : BitVec 3) :
    let fields : BitVec 24 := u ++ n ++ code
    linkCommand after
        (withCheck [kind, fields.extractLsb' 16 8, fields.extractLsb' 8 8, fields.extractLsb' 0 8]) =
      if kind = 0x01 then
        match code.toNat with
        | 0 => .validSample after u n .onAir
        | 1 => .validSample after u n .draining
        | 2 => .validSample after u n .drained
        | 3 => .validSample after u n .resting
        | 4 => .validSample after u n .dark
        | 5 => .validSample after u n .warming
        | 6 => .validSample after u n .fault
        | _ => .unrecognizedRecord after
      else .unrecognizedRecord after := by
  obtain ⟨first, second, third⟩ := sample_fields u n code
  intro fields
  rw [linkCommand_record, first, second, third, conditionOf]
  by_cases sample : kind = 0x01
  · simp only [sample, if_true]
    split <;> split <;> simp_all
  · simp only [sample, if_false]
    split <;> rfl

/-! ## Frames received -/

/-- A good frame that passes every test is the command of its kind (R146). -/
theorem lineCommand_of_fate {f : Frame} {k : Kind} (fits : f.wellFormed = true) (fate : frameFate own f = .arrival k) :
    lineCommand own after straps (frameCharacters f) = arrivalCommand after straps f k := by
  have read : readFrame (frameCharacters f) = .inl f := by simpa using readFrame_frameCharacters fits []
  rw [lineCommand, read]
  simp only [fate]

/-- A frame this station is addressed to, of a suiting form, is an arrival (R146). -/
theorem frameFate_arrival {f : Frame} {k : Kind} (other : f.sender ≠ own) (is : f.kind.toNat = kindIndex k + 1)
    (addressed : f.addressee = 0xFF ∨ f.addressee.toNat = own.toNat) (suits : addressSuits k f.addressee = true)
    (length : lengthSuits k f.payload = true) (driver : maintenanceKind k = true → fromMaintenance f.sender = true) :
    frameFate own f = .arrival k := by
  have here : ¬(f.addressee ≠ 0xFF ∧ f.addressee.toNat ≠ own.toNat) := by
    rwa [not_and_or, not_not, not_not]
  rw [frameFate_known other is, if_neg here, if_neg (by simp [suits]), if_neg (by simp [length]), if_neg]
  rintro ⟨kind, carrier⟩
  simp [driver kind] at carrier

theorem actionOf_eq (code : BitVec 2) :
    actionOf code =
      if code = 0 then FlagAction.keep else if code = 1 then .set else if code = 2 then .clear else .invert := by
  revert code
  decide

/-- The notices of a maintenance station (R146, R175). -/
theorem lineCommand_maintenance {sender : BitVec 6} (priority : BitVec 2) {code : BitVec 5} (sector : BitVec 3)
    {addressee : Byte} {payload : List Byte} {k : Kind} (maintenance : fromMaintenance sender = true)
    (other : sender ≠ own) (addressed : addressee = 0xFF ∨ addressee.toNat = own.toNat)
    (is : code.toNat = kindIndex k + 1) (suits : addressSuits k addressee = true)
    (length : lengthSuits k payload = true) (fits : payload.length ≤ 48) :
    let f : Frame :=
      { priority := priority, sender := sender, kind := code, sector := sector, addressee := addressee
        payload := payload }
    lineCommand own after straps (frameCharacters f) = arrivalCommand after straps f k :=
  lineCommand_of_fate (decide_eq_true fits)
    (frameFate_arrival other is addressed suits length fun _ => maintenance)

/-! ## Notices of this station -/

theorem kindCode_toNat (k : Kind) : (kindCode k).toNat = kindIndex k + 1 := by cases k <;> rfl

/-- A notice this station drives, at a station of another number it is addressed to (R146, R174). -/
theorem State.lineCommand_frameOf {s : State} {n : Notice} {b : BeaconFields} (other : own ≠ s.cfl.station)
    (addressed : n.addressee = 0xFF ∨ n.addressee.toNat = own.toNat) (suits : addressSuits n.kind n.addressee = true)
    (length : lengthSuits n.kind (n.payload b) = true) (fits : (n.payload b).length ≤ 48)
    (carriers : maintenanceKind n.kind = false) :
    lineCommand own after straps (frameCharacters (s.frameOf n b)) =
      arrivalCommand after straps (s.frameOf n b) n.kind :=
  lineCommand_of_fate (decide_eq_true fits)
    (frameFate_arrival (Ne.symm other) (kindCode_toNat _) addressed suits length (by simp [carriers]))

/-- A station's number as an addressee is not ALL (R136). -/
theorem station_addressee (own : BitVec 6) :
    (BitVec.ofNat 8 own.toNat).toNat = own.toNat ∧ BitVec.ofNat 8 own.toNat ≠ 0xFF := by
  revert own
  decide

/-- A notice this station drives to one station (R146, R174). -/
theorem State.lineCommand_frameOf_one {s : State} {n : Notice} {b : BeaconFields} (other : own ≠ s.cfl.station)
    (one : n.addressee = BitVec.ofNat 8 own.toNat) (length : lengthSuits n.kind (n.payload b) = true)
    (fits : (n.payload b).length ≤ 48) (kind : n.kind ≠ .beacon) (carriers : maintenanceKind n.kind = false) :
    lineCommand own after straps (frameCharacters (s.frameOf n b)) =
      arrivalCommand after straps (s.frameOf n b) n.kind := by
  obtain ⟨number, notAll⟩ := station_addressee own
  refine State.lineCommand_frameOf other (.inr (one ▸ number)) ?_ length fits carriers
  rw [addressSuits_iff, one]
  split <;> simp_all

theorem length_beaconPayload {b : BeaconFields} (fits : b.wellFormed = true) : (beaconPayload b).length ≤ 48 := by
  obtain ⟨covering, resting⟩ : b.covering.length ≤ 15 ∧ b.resting.length ≤ 15 := by
    simpa [BeaconFields.wellFormed] using fits
  simp only [beaconPayload, List.length_append, List.length_cons, List.length_nil]
  omega

/-- A STATUS payload has its two bytes and at most 46 of contents (R171, R175). -/
theorem length_statusPayload (r : StatusReport) : 2 ≤ r.payload.length ∧ r.payload.length ≤ 48 := by
  rw [StatusReport.payload]
  split
  next number contents _ =>
    have := length_sectionPayload contents
    simp only [List.length_append, List.length_cons, List.length_nil]
    omega
  next => exact ⟨le_refl 2, (by omega : 2 ≤ 48)⟩

theorem arrivalCommand_beacon {f : Frame} {b : BeaconFields} (read : readBeaconPayload f.payload = some b) :
    arrivalCommand after straps f .beacon = .beacon after f.sender f.sector b := by
  rw [arrivalCommand.eq_def]
  simp only [read]

theorem ofNat_word (value : BitVec 16) : BitVec.ofNat 16 value.toNat = value := BitVec.ofNat_toNat 16 value |>.trans
  (BitVec.setWidth_eq value)

/-- Settles O56: the codes, the characters driven, frames and records read back, then the commands the notices are. -/
theorem sentNoticesReadBack : Obligations.SentNoticesReadBack := by
  refine ⟨reasonOf_eq_some_iff, fun s b peer tag value => ?driven,
    fun f fits => ⟨readFrame_frameCharacters fits, fun n => readFrame_cut fits⟩, fun _ _ _ _ _ => readFrame_oversize,
    fun _ _ _ _ _ _ _ length fits wrong => readFrame_badCheck length fits wrong, ⟨rfl, rfl, rfl⟩,
    fun r => congrArg (fun byte => withCheck [0x02, byte]) (reply_fields_byte r), linkCommand_sample, linkCommand_short,
    fun _ _ => linkCommand_bad,
    fun own sender after straps priority sector addressee maintenance other addressed => ?maintenance,
    fun s own after straps b other fits => ?notices⟩
  case driven =>
    have word : twoBytes (BitVec.ofNat 16 value.toNat) = [value.extractLsb' 8 8, value.extractLsb' 0 8] :=
      congrArg twoBytes (ofNat_word value)
    have number := ofNat_station peer
    refine ⟨s.frameCharacters_frameOf number rfl, s.frameCharacters_frameOf number (congrArg (List.cons tag) word),
      s.frameCharacters_frameOf number (congrArg (List.cons tag) word),
      fun reason code mem => s.frameCharacters_frameOf number ?deny, s.frameCharacters_frameOf number rfl,
      s.frameCharacters_frameOf rfl (beaconPayload_eq b), fun page part contents =>
      ⟨length_sectionPayload contents, s.frameCharacters_frameOf number ?answered,
        Config.unrecognizedSectionByte page, s.frameCharacters_frameOf number ?unrecognized⟩⟩
    case deny => exact congrArg₂ (fun byte room => tag :: byte :: room) (reasonCode_of_mem mem) word
    case answered =>
      refine congrArg₂ (fun first second => first :: second :: sectionPayload contents) (status_first_byte page) ?_
      exact (BitVec.ofNat_toNat 8 part).trans (BitVec.setWidth_eq part)
    case unrecognized =>
      exact congrArg (fun first => [first, Config.unrecognizedSectionByte page]) (status_first_byte_unrecognized page)
  case maintenance =>
    refine ⟨fun b d1 d2 mask => ?_, fun b0 b1 mask => ?_, fun profile mask => ?_, fun one => ⟨?_, fun b => ?_⟩⟩
    · refine (lineCommand_maintenance (code := 7) (k := .window) (payload := [b, d1, d2, mask]) priority sector maintenance
        other addressed rfl rfl rfl (by simp)).trans ?_
      rfl
    · have actions : arrivalCommand after straps
          { priority := priority, sender := sender, kind := 8, sector := sector, addressee := addressee
            payload := [b0, b1, mask] } .flags = .flags after sender (actionsOf b0 b1) mask := rfl
      refine (lineCommand_maintenance (code := 8) (k := .flags) (payload := [b0, b1, mask]) priority sector maintenance
        other addressed rfl rfl rfl (by simp)).trans ?_
      rw [actions, actionsOf]
      simp only [actionOf_eq]
    · refine (lineCommand_maintenance (code := 9) (k := .profile) (payload := [profile, mask]) priority sector maintenance
        other addressed rfl rfl rfl (by simp)).trans ?_
      rfl
    · refine (lineCommand_maintenance (code := 10) (k := .restart) (payload := []) priority sector maintenance other
        addressed rfl (by simpa [addressSuits] using one) rfl (by simp)).trans ?_
      rfl
    · refine (lineCommand_maintenance (code := 11) (k := .askStatus) (payload := [b]) priority sector maintenance other
        addressed rfl (by simpa [addressSuits] using one) rfl (by simp)).trans ?_
      rfl
  case notices =>
    refine ⟨?_, fun tag => ?_, fun tag => ?_, fun tag amount => ?_, fun tag amount => ?_,
      fun tag reason code room mem => ?_, fun report => ?_⟩
    · have read := readBeaconPayload_beaconPayload fits
      refine (State.lineCommand_frameOf (n := .beacon) other (.inl rfl) rfl ?_ (length_beaconPayload fits) rfl).trans
        (arrivalCommand_beacon read)
      exact congrArg Option.isSome read
    · exact State.lineCommand_frameOf_one (n := .recall own.toNat tag) other rfl rfl (by simp [Notice.payload])
        (by simp [Notice.kind]) rfl
    · exact State.lineCommand_frameOf_one (n := .resume own.toNat tag) other rfl rfl (by simp [Notice.payload])
        (by simp [Notice.kind]) rfl
    · refine (State.lineCommand_frameOf_one (n := .coverAsk own.toNat tag amount.toNat) other rfl rfl
        (by simp [Notice.payload]) (by simp [Notice.kind]) rfl).trans ?_
      exact congrArg (Instr.coverAsk after _ _ tag) ((join_bytes _).trans (ofNat_word amount))
    · refine (State.lineCommand_frameOf_one (n := .coverGrant own.toNat tag amount.toNat) other rfl rfl
        (by simp [Notice.payload]) (by simp [Notice.kind]) rfl).trans ?_
      exact congrArg (Instr.coverGrant after _ tag) ((join_bytes _).trans (ofNat_word amount))
    · refine (State.lineCommand_frameOf_one (n := .coverDeny own.toNat tag reason room.toNat) other rfl rfl
        (by simp [Notice.payload]) (by simp [Notice.kind]) rfl).trans ?_
      exact congrArg₂ (Instr.coverDeny after _ tag) (reasonCode_of_mem mem) ((join_bytes _).trans (ofNat_word room))
    · obtain ⟨least, most⟩ := length_statusPayload report
      exact State.lineCommand_frameOf_one (n := .status own.toNat report) other rfl
        ((lengthSuits_iff _ _).mpr ⟨least, most⟩) most (by simp [Notice.kind]) rfl

end Sys2Proof.Machine
end

section
/-! PROOFS. The Peer View Table's lookup, its slot for a station's entry, its free slot and its victim (R37, R40 to R44). -/

namespace Sys2Proof.Machine

variable {own i : Nat} {v : PeerView} {e : ViewEntry} {pinned : Nat → Bool}

/-! ## The slot of a station -/

theorem PeerView.find_isSome_iff {station : Nat} :
    (v.find station).isSome = true ↔ ∃ e ∈ v.entries, e.station = station := by
  simp [PeerView.find]

/-- An entry of the view stands in a slot. -/
theorem PeerView.exists_slot (entry : e ∈ v.entries) : ∃ i : Nat, v.slots[i]? = some (some e) :=
  List.mem_iff_getElem?.mp (PeerView.mem_entries.mp entry)

theorem PeerView.entry_of_slot (slot : v.slots[i]? = some (some e)) : e ∈ v.entries :=
  PeerView.mem_entries.mpr (List.mem_of_getElem? slot)

/-- No two slots hold entries of one station (R37). -/
theorem ViewKept.slot_unique (kept : ViewKept own v) {j : Nat} {f : ViewEntry} (slot : v.slots[i]? = some (some e))
    (other : v.slots[j]? = some (some f)) (same : f.station = e.station) : j = i := by
  have each := kept.oneEach
  rw [PeerView.entries_eq, List.pairwise_map, List.pairwise_filterMap, List.pairwise_iff_getElem] at each
  obtain ⟨hi, hei⟩ := List.getElem?_eq_some_iff.mp slot
  obtain ⟨hj, hej⟩ := List.getElem?_eq_some_iff.mp other
  rcases Nat.lt_trichotomy i j with before | is | after
  · exact absurd same.symm (each i j hi hj before e hei f hej)
  · exact is.symm
  · exact absurd same (each j i hj hi after f hej e hei)

/-- A change of every slot that leaves all but one is a change of that one. -/
theorem map_eq_set {α : Type} {slots : List α} {x : α} {g : α → α} (here : slots[i]? = some x)
    (others : ∀ (j : Nat) (y : α), slots[j]? = some y → j ≠ i → g y = y) : slots.map g = slots.set i (g x) := by
  refine List.ext_getElem? fun j => ?_
  rw [List.getElem?_map, List.getElem?_set]
  by_cases is : i = j
  · subst is
    obtain ⟨inside, stands⟩ := List.getElem?_eq_some_iff.mp here
    simp [inside, stands]
  · rw [if_neg is]
    cases there : slots[j]? with
    | none => rfl
    | some y => exact congrArg some (others j y there (Ne.symm is))

/-- A change of one station's entry, in its slot (R40, R49). -/
theorem ViewKept.changeEntry_eq (kept : ViewKept own v) (slot : v.slots[i]? = some (some e)) (f : ViewEntry → ViewEntry) :
    changeEntry e.station f v.slots = v.slots.set i (some (f e)) := by
  refine (map_eq_set slot fun j y there away => ?_).trans (by simp)
  cases y with
  | none => rfl
  | some g => exact congrArg some (if_neg fun same => away (kept.slot_unique slot there same))

/-- The removal of one station's entry frees its slot (R41). -/
theorem ViewKept.freeEntry_eq (kept : ViewKept own v) (slot : v.slots[i]? = some (some e)) :
    freeEntry e.station v.slots = v.slots.set i none := by
  have gone : (some e).filter (fun f => f.station != e.station) = none := by simp [Option.filter]
  refine (map_eq_set slot fun j y there away => ?_).trans (congrArg (v.slots.set i) gone)
  cases y with
  | none => rfl
  | some g =>
    have other : g.station ≠ e.station := fun same => away (kept.slot_unique slot there same)
    simp [Option.filter, other]

/-- The view without a station it holds an entry of (R41, R44). -/
theorem ViewKept.remove_eq (kept : ViewKept own v) (slot : v.slots[i]? = some (some e)) :
    v.remove e.station = { v with slots := v.slots.set i none, viewFull := false } := by
  obtain ⟨inside, -⟩ := List.getElem?_eq_some_iff.mp slot
  have free : PeerView.hasFree { v with slots := v.slots.set i none } = true :=
    List.any_eq_true.mpr ⟨none, List.mem_set inside _, rfl⟩
  rw [PeerView.remove, kept.freeEntry_eq slot, PeerView.clearFull, if_pos free]

/-! ## The free slot and the victim -/

theorem ViewKept.firstFree_eq (kept : ViewKept own v) (free : v.slots[i]? = some none)
    (lowest : ∀ j < i, v.slots[j]? ≠ some none) : v.firstFree = some i := by
  obtain ⟨inside, -⟩ := List.getElem?_eq_some_iff.mp free
  refine List.find?_range_eq_some.mpr ⟨by simp [free], List.mem_range.mpr (kept.sixteen ▸ inside), fun j below => ?_⟩
  simpa using lowest j below

theorem PeerView.firstFree_none (taken : ∀ slot ∈ v.slots, slot ≠ none) : v.firstFree = none := by
  refine List.find?_eq_none.mpr fun j _ free => ?_
  exact taken none (List.mem_of_getElem? (by simpa using free)) rfl

theorem evictable_iff {slot : Option ViewEntry} :
    evictable pinned slot = true ↔ ∃ e, slot = some e ∧ 3 ≤ e.age ∧ pinned e.station = false := by
  cases slot <;> simp [evictable]

theorem State.pinned_eq_false_iff {s : State} {station : Nat} :
    s.pinned station = false ↔ s.rsq.cover ≠ some station ∧ ∀ p ∈ s.cvu.book, p.leaner ≠ station := by
  simp [State.pinned, CoverUnit.holds]

/-- The greatest age among the candidates is that of a candidate none is older than (R43). -/
theorem greatestAge_eq {slots : List (Option ViewEntry)} (among : some e ∈ slots)
    (candidate : evictable pinned (some e) = true)
    (oldest : ∀ f, some f ∈ slots → evictable pinned (some f) = true → f.age ≤ e.age) :
    greatestAge pinned slots = e.age := by
  have ages : ((slots.filter (evictable pinned)).map slotAge).max? = some e.age := by
    refine List.max?_eq_some_iff.mpr ⟨List.mem_map.mpr ⟨some e, List.mem_filter.mpr ⟨among, candidate⟩, rfl⟩, ?_⟩
    intro age mem
    obtain ⟨slot, filtered, rfl⟩ := List.mem_map.mp mem
    obtain ⟨there, suits⟩ := List.mem_filter.mp filtered
    obtain ⟨f, rfl, -⟩ := evictable_iff.mp suits
    exact oldest f there suits
  rw [greatestAge, List.foldl_max, ages]
  exact Nat.zero_max _

/-- The victim is the candidate of the greatest age that the scan from the pointer meets first (R43). -/
theorem ViewKept.victim_eq (kept : ViewKept own v) (slot : v.slots[i]? = some (some e))
    (candidate : evictable pinned (some e) = true)
    (oldest : ∀ f, some f ∈ v.slots → evictable pinned (some f) = true → f.age ≤ e.age)
    (first : ∀ (j : Nat) (f : ViewEntry), v.slots[j]? = some (some f) → evictable pinned (some f) = true → f.age = e.age →
      (i + 16 - v.pointer) % 16 ≤ (j + 16 - v.pointer) % 16) : v.victim pinned = some i := by
  have pointer := kept.pointer
  obtain ⟨inside, -⟩ := List.getElem?_eq_some_iff.mp slot
  have below : i < 16 := kept.sixteen ▸ inside
  have turned : (v.pointer + (i + 16 - v.pointer) % 16) % 16 = i := by omega
  rw [PeerView.victim, scanOrder, List.find?_map, greatestAge_eq (List.mem_of_getElem? slot) candidate oldest]
  refine Option.map_eq_some_iff.mpr ⟨(i + 16 - v.pointer) % 16, List.find?_range_eq_some.mpr ⟨?found, ?range, ?before⟩, turned⟩
  case found => simp [turned, slot, candidate, slotAge]
  case range => exact List.mem_range.mpr (Nat.mod_lt _ (by decide))
  case before =>
    intro k earlier
    rw [Bool.not_eq_true']
    refine Bool.eq_false_iff.mpr fun chosen => ?_
    obtain ⟨suits, age⟩ := Bool.and_eq_true_iff.mp chosen
    obtain ⟨f, there, -⟩ := evictable_iff.mp suits
    have age : slotAge (v.slots.getD ((v.pointer + k) % 16) none) = e.age := beq_iff_eq.mp age
    have held : v.slots[(v.pointer + k) % 16]? = some (some f) := by
      cases stands : v.slots[(v.pointer + k) % 16]? with
      | none => simp [stands] at there
      | some slot => simpa [stands] using there
    rw [there] at suits age
    have sooner := first _ f held suits age
    omega

theorem PeerView.victim_none (unsuited : ∀ slot ∈ v.slots, evictable pinned slot = false) : v.victim pinned = none := by
  refine List.find?_eq_none.mpr fun j _ chosen => ?_
  obtain ⟨suits, -⟩ := Bool.and_eq_true_iff.mp chosen
  cases there : v.slots[j]? with
  | none => simp [there, evictable] at suits
  | some slot =>
    have unsuited := unsuited slot (List.mem_of_getElem? there)
    simp [there, unsuited] at suits

/-! ## What a beacon of the own sector does to the table -/

/-- A beacon of a station with an entry updates it (R40). -/
theorem ViewKept.store_updates (kept : ViewKept own v) {b : Heard} (slot : v.slots[i]? = some (some e))
    (sent : e.station = b.station) :
    v.store own pinned b = .updated { v with slots := v.slots.set i (some (updateEntry own b e)) } := by
  have known : (v.find b.station).isSome = true := PeerView.find_isSome_iff.mpr ⟨e, PeerView.entry_of_slot slot, sent⟩
  rw [PeerView.store, if_pos known, ← sent, kept.changeEntry_eq slot]

theorem PeerView.unknown_of_new {station : Nat} (new : ∀ e ∈ v.entries, e.station ≠ station) :
    ¬(v.find station).isSome = true := by
  rw [PeerView.find_isSome_iff]
  rintro ⟨e, entry, sent⟩
  exact new e entry sent

/-- A beacon of a station new to a view with a free slot takes the lowest (R42). -/
theorem ViewKept.store_inserts (kept : ViewKept own v) {b : Heard} (new : ∀ e ∈ v.entries, e.station ≠ b.station)
    (free : v.slots[i]? = some none) (lowest : ∀ j < i, v.slots[j]? ≠ some none) :
    v.store own pinned b = .inserted { v with slots := v.slots.set i (some (newEntry own b)) } := by
  rw [PeerView.store, if_neg (PeerView.unknown_of_new new), kept.firstFree_eq free lowest]

/-- With every slot taken, a beacon of a station new to the view takes the victim's slot (R43). -/
theorem PeerView.store_evicts {b : Heard} (new : ∀ e ∈ v.entries, e.station ≠ b.station)
    (taken : ∀ slot ∈ v.slots, slot ≠ none) (victim : v.victim pinned = some i) :
    v.store own pinned b =
      .evicted { v with slots := v.slots.set i (some (newEntry own b)), pointer := (v.pointer + 1) % 16 } := by
  rw [PeerView.store, if_neg (PeerView.unknown_of_new new), PeerView.firstFree_none taken, victim]

/-- With every slot taken and no victim, a beacon of a station new to the view is dropped (R44). -/
theorem PeerView.store_drops {b : Heard} (new : ∀ e ∈ v.entries, e.station ≠ b.station)
    (taken : ∀ slot ∈ v.slots, slot ≠ none) (none : v.victim pinned = none) : v.store own pinned b = .dropped := by
  rw [PeerView.store, if_neg (PeerView.unknown_of_new new), PeerView.firstFree_none taken, none]

end Sys2Proof.Machine
end

section
/-! PROOFS. What a change of the view forms: ISOLATED, and in STANDBY settled and UNSETTLED; and the rouse term that tests
one of them (R53, R107, R108, R134). -/

namespace Sys2Proof.Machine

variable {s t u w z : State} {station : Nat}

/-! ## A forming that wakes no station -/

/-- A state that has the sequencer, the line, the Cover Unit and the counters of another: the term values, and with them the
rest clock's mode, aside. -/
structure Alike (s t : State) : Prop where
  rsq : t.rsq = { s.rsq with restClock := t.rsq.restClock }
  lif : t.lif = s.lif
  cvu : t.cvu = s.cvu
  count : ∀ c, t.count c = s.count c
  mode : t.continuousRecall = s.continuousRecall
  clock : t.clock = s.clock
  profile : t.profile = s.profile
  loader : t.cfl = s.cfl

theorem Alike.refl (s : State) : Alike s s := ⟨rfl, rfl, rfl, fun _ => rfl, rfl, rfl, rfl, rfl⟩

theorem Alike.of_view (v : PeerView) (s : State) : Alike s (s.onPvt fun _ => v) :=
  ⟨rfl, rfl, rfl, fun _ => rfl, rfl, rfl, rfl, rfl⟩

theorem Alike.trans (h : Alike s t) (k : Alike t u) : Alike s u where
  rsq := by rw [k.rsq, h.rsq]
  lif := k.lif.trans h.lif
  cvu := k.cvu.trans h.cvu
  count c := (k.count c).trans (h.count c)
  mode := k.mode.trans h.mode
  clock := k.clock.trans h.clock
  profile := k.profile.trans h.profile
  loader := k.loader.trans h.loader

theorem State.formValues_alike (s : State) : Alike s s.formValues where
  rsq := by
    rw [State.formValues_rsq]
  lif := by simp
  cvu := by simp
  count c := by simp
  mode := by simp [State.continuousRecall]
  clock := by simp
  profile := State.profile_formValues
  loader := by simp

/-- Whatever the rouse term was, a forming that finds it false starts no wake. -/
theorem State.formTerms_of_false (tests : s.testTerm s.profile.rouse = false) : s.formTerms = s.formValues := by
  by_cases loading : s.rsq.phase = .loading
  · rw [State.formTerms, State.formValues_loading loading]
    cases s.plu.rouse <;> rfl
  · rw [State.formTerms, (State.formValues_values loading).2, tests]
    cases s.plu.rouse <;> rfl

/-- The factory rouse term, which is never true (R126). -/
theorem State.testTerm_factory (term : s.profile.rouse = { code := 15, inverted := true }) :
    s.testTerm s.profile.rouse = false := by
  rw [term]
  rfl

/-! ## ISOLATED -/

/-- ISOLATED as the view and the phase give it (R53). -/
def State.isolatedNow (s : State) : Bool :=
  !(s.rsq.phase == .loading || s.rsq.phase == .mute) && !s.pvt.entries.any viewFresh

/-- The state with ISOLATED written, its report still to be made (R53). -/
def State.reviewed (s : State) : State := s.onPvt fun v => { v with isolated := s.isolatedNow }

theorem State.reviewed_alike (s : State) : Alike s s.reviewed :=
  ⟨rfl, rfl, rfl, fun _ => rfl, rfl, rfl, rfl, rfl⟩

theorem State.formIsolated_eq (s : State) :
    s.formIsolated = if s.pvt.isolated = s.isolatedNow then s else s.reviewed.formTerms := rfl

theorem State.formIsolated_pvt (s : State) : s.formIsolated.pvt = { s.pvt with isolated := s.isolatedNow } := by
  rw [State.formIsolated_eq]
  split
  next same => rw [← same]
  next => simp [State.reviewed]

/-- A forming of ISOLATED that wakes no station. -/
theorem State.formIsolated_alike (quiet : s.reviewed.formTerms = s.reviewed.formValues) : Alike s s.formIsolated := by
  rw [State.formIsolated_eq]
  split
  · exact .refl s
  · rw [quiet]
    exact s.reviewed_alike.trans (State.formValues_alike _)

/-- In a phase that takes no wake cause ISOLATED is formed alone (R96). -/
theorem State.formIsolated_alike_of_up (draining : s.rsq.phase ≠ .draining) (standby : s.rsq.phase ≠ .standby)
    (deep : s.rsq.phase ≠ .deep) : Alike s s.formIsolated :=
  State.formIsolated_alike (State.formTerms_of_up (by simpa [State.reviewed] using draining)
    (by simpa [State.reviewed] using standby) (by simpa [State.reviewed] using deep))

/-- A rouse term that ISOLATED leaves false is false when it is formed. -/
theorem State.formIsolated_rouse (tests : s.reviewed.testTerm s.profile.rouse = false) (was : s.plu.rouse = false) :
    s.formIsolated.plu.rouse = false := by
  rw [State.formIsolated_eq]
  split
  · exact was
  · rw [State.formTerms_of_false (s := s.reviewed) tests]
    by_cases loading : s.rsq.phase = .loading
    · rw [State.formValues_loading (s := s.reviewed) loading]
      exact was
    · exact (State.formValues_values (s := s.reviewed) loading).2.trans tests

/-- With the factory rouse term ISOLATED is formed alone. -/
theorem State.formIsolated_alike_of_factory (term : s.profile.rouse = { code := 15, inverted := true }) :
    Alike s s.formIsolated :=
  State.formIsolated_alike (State.formTerms_of_false (State.testTerm_factory (s := s.reviewed) term))

/-! ## Settled and UNSETTLED -/

theorem State.formSettled_of_ne (other : s.rsq.phase ≠ .standby) : s.formSettled = s := if_neg other

/-- The fresh awake-side entries are those that settlement may wait for (R107). -/
theorem PeerView.allSeen_iff {v : PeerView} : v.allSeen = true ↔ ∀ e ∈ v.entries, ¬Unheard e := by
  have side (p : Phase) : awakeSide p = true ↔
      p = .awake ∨ p = .seeking ∨ p = .draining ∨ p = .waking ∨ p = .warming := by cases p <;> simp [awakeSide]
  rw [PeerView.allSeen, List.all_eq_true]
  refine forall₂_congr fun e _ => ?_
  rw [Unheard, ← side e.phase, ← Bool.not_eq_true]
  simp [viewFresh, imp_iff_not_or]
  tauto

/-- The state with settled written, and UNSETTLED where that changes, in STANDBY, before the report (R107, R108). -/
def State.settlementWritten (s : State) (unsettled : Bool) : State :=
  doWhen unsettled (State.bump .unsettledRaisings)
    (s.onRsq fun q => { q with settled := s.pvt.allSeen, unsettled := unsettled })

/-- A forming of settlement in STANDBY that leaves UNSETTLED. -/
theorem State.formSettled_same (standby : s.rsq.phase = .standby)
    (same : s.rsq.unsettled = (!s.pvt.allSeen && s.rsq.settleCount == Config.settleLimit)) :
    s.formSettled = s.onRsq fun q => { q with settled := s.pvt.allSeen } := by
  rw [State.formSettled, if_pos standby]
  dsimp only
  rw [← same]
  exact State.setCondition_same _ s.rsq.unsettled _

/-- A forming of settlement in STANDBY that changes UNSETTLED. -/
theorem State.formSettled_changes (standby : s.rsq.phase = .standby)
    (changes : s.rsq.unsettled ≠ (!s.pvt.allSeen && s.rsq.settleCount == Config.settleLimit)) :
    s.formSettled = (s.settlementWritten (!s.rsq.unsettled)).formTerms := by
  have new : (!s.pvt.allSeen && s.rsq.settleCount == Config.settleLimit) = !s.rsq.unsettled := by
    rw [← Bool.not_eq_eq_eq_not]
    revert changes
    generalize (!s.pvt.allSeen && s.rsq.settleCount == Config.settleLimit) = b
    cases b <;> cases s.rsq.unsettled <;> simp
  rw [State.formSettled, if_pos standby]
  dsimp only
  rw [new]
  exact State.setCondition_changes _ _ (show s.rsq.unsettled ≠ !s.rsq.unsettled by simp)

/-! ## The rouse term that a change of the view turns -/

/-- What the work that follows the forming of ISOLATED does with a station's beacon or removal, while the book is empty:
nothing where the station is not the recorded cover, and in a phase that takes no wake at most a count of omissions. -/
structure ViewWork (station : Nat) (work : State → State) : Prop where
  view : ∀ u : State, (work u).pvt = u.pvt
  plain : ∀ u : State, u.cvu.book = [] → u.rsq.cover ≠ some station → work u = u
  returning : ∀ u : State, u.cvu.book = [] →
    u.rsq.phase ≠ .draining → u.rsq.phase ≠ .standby → u.rsq.phase ≠ .deep →
    ∃ n, work u = u.onRsq fun q => { q with omissions := n }

/-- A state whose view alone, and counts that are no wake's, the work so far has changed. -/
structure ViewChanged (s z w : State) : Prop extends WakesAs s w where
  started : z.rsq.phase = s.rsq.phase
  line : w.lif = z.lif
  book : w.cvu.book = s.cvu.book
  unsettled : w.rsq.unsettled = s.rsq.unsettled
  settleCount : w.rsq.settleCount = s.rsq.settleCount
  rouse : w.plu.rouse = s.plu.rouse
  profile : w.profile = s.profile
  isolated : w.pvt.isolated = s.pvt.isolated
  raisings : w.count .unsettledRaisings = s.count .unsettledRaisings

theorem WakesAs.alike (h : WakesAs s w) (k : Alike w u) : WakesAs s u where
  phase := by rw [k.rsq]; exact h.phase
  cover := by rw [k.rsq]; exact h.cover
  tag := by rw [k.rsq]; exact h.tag
  backoff := by rw [k.rsq]; exact h.backoff
  dark := by rw [k.rsq]; exact h.dark
  failures := (k.count _).trans h.failures
  wakes := (k.count _).trans h.wakes

/-- A state in which settlement is to be reported has what a wake reads. -/
theorem WakesAs.settlementWritten (h : WakesAs s w) (b : Bool) : WakesAs s (w.settlementWritten b) := by
  refine ⟨?_, ?_, ?_, ?_, ?_, ?_, ?_⟩
  all_goals cases b
  all_goals simp [State.settlementWritten, doWhen, State.count_bump, h.phase, h.cover, h.tag, h.backoff, h.dark, h.failures,
    h.wakes]

/-- A rouse report stands whatever omissions are counted after it. -/
theorem Roused.omissions (h : Roused s z u) (n : Nat) : Roused s z (u.onRsq fun q => { q with omissions := n }) where
  draining := h.draining
  resting := h.resting
  counted := h.counted
  aborted := h.aborted
  kept := h.kept

/-- After a rouse report the phase takes no wake cause. -/
theorem RouseWake.up (h : RouseWake s u) (taken : s.rsq.phase = .draining ∨ s.rsq.phase = .standby ∨ s.rsq.phase = .deep) :
    u.rsq.phase ≠ .draining ∧ u.rsq.phase ≠ .standby ∧ u.rsq.phase ≠ .deep := by
  rcases taken with draining | resting
  · obtain ⟨phase, -⟩ := h.draining draining
    simp [phase]
  · obtain ⟨phase, -⟩ := h.resting resting
    rw [phase]
    split <;> simp

/-- An ISOLATED that turns, and with it the rouse term that tests it, is a wake cause (R53, R134). -/
theorem ViewChanged.roused_by_isolated (h : ViewChanged s z w) (changed : w.isolatedNow ≠ s.pvt.isolated)
    (term : s.profile.rouse = { code := 14, inverted := s.pvt.isolated }) (was : s.plu.rouse = false) :
    Roused s z w.formIsolated := by
  rw [State.formIsolated_eq, if_neg (by rw [h.isolated]; exact changed.symm)]
  refine (h.toWakesAs.alike w.reviewed_alike).roused_by_forming h.started h.line (h.rouse.trans was) ?_
  change State.testTerm _ w.profile.rouse = true
  rw [h.profile, term]
  revert changed
  change _ → (w.isolatedNow ^^ s.pvt.isolated) = true
  cases w.isolatedNow <;> cases s.pvt.isolated <;> simp

/-- A rouse term that tests UNSETTLED and is false wakes no station when ISOLATED is formed. -/
theorem ViewChanged.untested_by_isolated (h : ViewChanged s z w)
    (term : s.profile.rouse = { code := 11, inverted := s.rsq.unsettled }) :
    w.reviewed.testTerm w.profile.rouse = false := by
  rw [h.profile, term]
  change (w.rsq.unsettled ^^ s.rsq.unsettled) = false
  rw [h.unsettled, Bool.xor_self]

/-- An UNSETTLED that turns in STANDBY, and with it the rouse term that tests it, is a wake cause (R108, R134). -/
theorem WakesAs.roused_by_settlement (h : WakesAs s u) (started : z.rsq.phase = s.rsq.phase) (line : u.lif = z.lif)
    (standby : u.rsq.phase = .standby)
    (changes : u.rsq.unsettled ≠ (!u.pvt.allSeen && u.rsq.settleCount == Config.settleLimit))
    (term : u.profile.rouse = { code := 11, inverted := u.rsq.unsettled }) (was : u.plu.rouse = false) :
    Roused s z u.formSettled := by
  rw [State.formSettled_changes standby changes]
  have writes (b : Bool) : (u.settlementWritten b).lif = u.lif ∧ (u.settlementWritten b).plu = u.plu ∧
      (u.settlementWritten b).profile = u.profile ∧ (u.settlementWritten b).rsq.unsettled = b := by
    cases b <;> exact ⟨rfl, rfl, rfl, rfl⟩
  obtain ⟨lines, policy, profile, unsettled⟩ := writes (!u.rsq.unsettled)
  refine (h.settlementWritten _).roused_by_forming started (lines.trans line) (by rw [policy, was]) ?_
  rw [profile, term]
  change ((u.settlementWritten (!u.rsq.unsettled)).rsq.unsettled ^^ u.rsq.unsettled) = true
  rw [unsettled]
  cases u.rsq.unsettled <;> rfl

/-- A beacon's work on the view: what turns with ISOLATED or UNSETTLED (R53, R108, R134). -/
theorem ViewChanged.rousedByView (h : ViewChanged s z w) {work : State → State} (does : ViewWork station work)
    (empty : s.rsq.phase ≠ .awake → s.cvu.book = []) :
    RousedByView s z (work w.formIsolated).formSettled (s.rsq.cover ≠ some station) := by
  have view : (work w.formIsolated).formSettled.pvt = { w.pvt with isolated := w.isolatedNow } := by
    simp [does.view, w.formIsolated_pvt]
  have book (phase : s.rsq.phase ≠ .awake) : w.formIsolated.cvu.book = [] := by simpa [h.book] using empty phase
  have plain {u : State} (k : Alike w u) (is : u = w.formIsolated) (other : s.rsq.cover ≠ some station)
      (standby : s.rsq.phase = .standby) : work u = u :=
    does.plain u (by rw [is]; exact book (by simp [standby])) (by rw [k.rsq]; simpa [h.cover] using other)
  have raised {u : State} (k : Alike w u) (is : u = w.formIsolated) (other : s.rsq.cover ≠ some station)
      (standby : s.rsq.phase = .standby)
      (changes : s.rsq.unsettled ≠ (!w.pvt.allSeen && s.rsq.settleCount == Config.settleLimit))
      (term : s.profile.rouse = { code := 11, inverted := s.rsq.unsettled }) (still : u.plu.rouse = false) :
      Roused s z (work u).formSettled ∧ (s.rsq.unsettled = false →
        (work u).formSettled.count .unsettledRaisings = min Config.counterLimit (s.count .unsettledRaisings + 1)) := by
    rw [plain k is other standby]
    have inStandby : u.rsq.phase = .standby := by rw [k.rsq]; exact h.phase.trans standby
    have unsettled : u.rsq.unsettled = s.rsq.unsettled := by rw [k.rsq]; exact h.unsettled
    have seen : u.pvt.allSeen = w.pvt.allSeen := by rw [is, w.formIsolated_pvt]; rfl
    have limit : u.rsq.settleCount = s.rsq.settleCount := by rw [k.rsq]; exact h.settleCount
    have turns : u.rsq.unsettled ≠ (!u.pvt.allSeen && u.rsq.settleCount == Config.settleLimit) := by
      rwa [unsettled, seen, limit]
    refine ⟨(h.toWakesAs.alike k).roused_by_settlement h.started (k.lif.trans h.line) inStandby turns
      (by rw [k.profile, h.profile, unsettled, term]) still, fun low => ?_⟩
    rw [State.formSettled_changes inStandby turns, State.count_formTerms_class _ rfl, unsettled, low]
    simp [State.settlementWritten, doWhen, k.count, h.raisings, saturatingSucc]
  refine ⟨fun changed term was => ?isolated, fun other standby low limit unheard term was => ?unsettled,
    fun other standby high heard term was => ?settled⟩
  case isolated =>
    by_cases taken : s.rsq.phase = .draining ∨ s.rsq.phase = .standby ∨ s.rsq.phase = .deep
    · have woken := h.roused_by_isolated (by rw [view] at changed; exact changed) term was
      obtain ⟨draining, standby, deep⟩ := woken.toRouseWake.up taken
      obtain ⟨n, is⟩ := does.returning _ (book (by rcases taken with is | is | is <;> simp [is])) draining standby deep
      rw [is, State.formSettled_of_ne (by exact standby)]
      exact woken.omissions n
    · rw [not_or, not_or] at taken
      exact .of_up taken.1 taken.2.1 taken.2.2
  case unsettled =>
    have term : s.profile.rouse = { code := 11, inverted := s.rsq.unsettled } := by rw [low, term]
    obtain ⟨e, entry, waits⟩ := unheard
    have seen : w.pvt.allSeen = false := by
      rw [← Bool.not_eq_true, PeerView.allSeen_iff]
      rw [view] at entry
      exact fun all => all e entry waits
    have tests := h.untested_by_isolated term
    obtain ⟨roused, count⟩ := raised (State.formIsolated_alike (State.formTerms_of_false (s := w.reviewed) tests)) rfl other
      standby (by simp [low, seen, limit]; rfl) term (State.formIsolated_rouse tests (h.rouse.trans was))
    exact ⟨roused, count low⟩
  case settled =>
    have term : s.profile.rouse = { code := 11, inverted := s.rsq.unsettled } := by rw [high, term]
    have seen : w.pvt.allSeen = true := by
      rw [PeerView.allSeen_iff]
      rw [view] at heard
      exact heard
    have tests := h.untested_by_isolated term
    exact (raised (State.formIsolated_alike (State.formTerms_of_false (s := w.reviewed) tests)) rfl other standby
      (by simp [high, seen]) term (State.formIsolated_rouse tests (h.rouse.trans was))).1

end Sys2Proof.Machine
end

section
/-! PROOFS. The beacons that the view takes: an entry updated, inserted or written over a victim's, and the drop with the
view full (R38, R40, R42 to R44, R53; O29, O30). -/

namespace Sys2Proof.Machine

variable {s z w : State} {after : Micros} {sender : BitVec 6} {b : BeaconFields} {h : Heard} {v : PeerView}

/-! ## A beacon that passed its checks -/

theorem station_of_readBeacon (read : readBeacon sender.toNat b = some h) : h.station = sender.toNat := by
  obtain ⟨-, -, -, -, -, rfl⟩ := (readBeacon_eq_some_iff _ _ _).mp read
  rfl

/-- A beacon of the own sector is brought to the table (R38). -/
theorem exec_beacon_stored (hears : Hears s) (other : sender ≠ s.cfl.station) (carrier : fromMaintenance sender = false)
    (up : s.rsq.phase ≠ .mute) (read : readBeacon sender.toNat b = some h) :
    exec (.beacon after sender s.image.sector b) s = .next ((s.arrived after .beacon).storeBeacon h) := by
  have phase : ¬(s.arrived after .beacon).rsq.phase = .mute := up
  have sector : ¬s.image.sector ≠ (s.arrived after .beacon).image.sector := fun ne => ne rfl
  rw [exec_beacon_heard hears other, State.hearBeacon, if_neg (by simp [carrier]), if_neg phase, read]
  exact congrArg _ (if_neg sector)

/-- A beacon of another sector is no entry's (R38). -/
theorem exec_beacon_otherSector (hears : Hears s) (other : sender ≠ s.cfl.station) (carrier : fromMaintenance sender = false)
    (up : s.rsq.phase ≠ .mute) (read : readBeacon sender.toNat b = some h) {sector : BitVec 3}
    (foreign : sector ≠ s.image.sector) :
    exec (.beacon after sender sector b) s = .next ((s.arrived after .beacon).otherSector sender.toNat) := by
  have phase : ¬(s.arrived after .beacon).rsq.phase = .mute := up
  have sector : sector ≠ (s.arrived after .beacon).image.sector := foreign
  rw [exec_beacon_heard hears other, State.hearBeacon, if_neg (by simp [carrier]), if_neg phase, read]
  exact congrArg _ (if_pos sector)

/-! ## What the Cover Unit and the orphan test do with it -/

theorem State.leanerBeacon_new (new : ∀ p ∈ s.cvu.book, p.leaner ≠ h.station) : s.leanerBeacon h = s := by
  have missing : s.cvu.pledgeOf h.station = none := List.find?_eq_none.mpr fun p held => by simpa using new p held
  rw [State.leanerBeacon, missing]

theorem State.coverBeacon_other (other : s.rsq.cover ≠ some h.station) : s.coverBeacon h = s :=
  if_neg fun both => other both.2

/-- In a phase that takes no wake the orphan test counts omissions alone (R96, R101). -/
theorem State.coverBeacon_returning (draining : s.rsq.phase ≠ .draining) (standby : s.rsq.phase ≠ .standby)
    (deep : s.rsq.phase ≠ .deep) : ∃ n, s.coverBeacon h = s.onRsq fun q => { q with omissions := n } := by
  have ignored (n : Nat) : (s.onRsq fun q => { q with omissions := n }).wake .orphan =
      s.onRsq fun q => { q with omissions := n } :=
    State.wake_ignored .orphan draining standby deep
  unfold State.coverBeacon
  dsimp only
  split
  · split
    · exact ⟨s.rsq.omissions, ignored s.rsq.omissions⟩
    · split
      · exact ⟨0, rfl⟩
      · split
        · exact ⟨_, ignored _⟩
        · exact ⟨_, rfl⟩
  · exact ⟨s.rsq.omissions, rfl⟩

/-- The orphan test counts no more than a wake (R101). -/
theorem State.count_coverBeacon_class {c : Counter} (wakes : wakeCounter c = false) :
    (s.coverBeacon h).count c = s.count c := by
  unfold State.coverBeacon
  dsimp only
  split_ifs
  · exact State.count_wake_class _ wakes _
  · rfl
  · exact State.count_wake_class _ wakes _
  · rfl
  · rfl

/-- A leaner's beacon counts a removal as SEEN_AWAKE, and the recall that may follow (R62). -/
theorem State.count_leanerBeacon_class {c : Counter} (recalls : recallCounter c = false) (removed : c ≠ .removed .seenAwake) :
    (s.leanerBeacon h).count c = s.count c := by
  unfold State.leanerBeacon
  split
  · rfl
  · split
    · exact State.count_removePledge_class _ recalls _ removed
    · rfl

/-- The hand-on of a stored beacon, up to settlement. -/
theorem ViewWork.handOn (h : Heard) : ViewWork h.station fun u => (u.leanerBeacon h).coverBeacon h where
  view u := by simp
  plain u empty other := by rw [State.leanerBeacon_new (by simp [empty]), State.coverBeacon_other other]
  returning u empty draining standby deep := by
    rw [State.leanerBeacon_new (by simp [empty])]
    exact State.coverBeacon_returning draining standby deep

/-! ## The view changed -/

theorem ViewChanged.arrival (after : Micros) (s : State) (isolated : v.isolated = s.pvt.isolated) :
    ViewChanged s (s.arrived after .beacon) ((s.arrived after .beacon).onPvt fun _ => v) where
  phase := rfl
  cover := rfl
  tag := rfl
  backoff := rfl
  dark := rfl
  failures := by simp
  wakes := by simp
  started := rfl
  line := rfl
  book := rfl
  unsettled := rfl
  settleCount := rfl
  rouse := rfl
  profile := rfl
  isolated := isolated
  raisings := by simp

theorem ViewChanged.bump (k : ViewChanged s z w) {c : Counter} (failure : c ≠ .drainFailures) (wake : c ≠ .wakes .rouse)
    (raising : c ≠ .unsettledRaisings) : ViewChanged s z (w.bump c) where
  phase := k.phase
  cover := k.cover
  tag := k.tag
  backoff := k.backoff
  dark := k.dark
  failures := (State.count_bump_ne _ failure.symm).trans k.failures
  wakes := (State.count_bump_ne _ wake.symm).trans k.wakes
  started := k.started
  line := k.line
  book := k.book
  unsettled := k.unsettled
  settleCount := k.settleCount
  rouse := k.rouse
  profile := k.profile
  isolated := k.isolated
  raisings := (State.count_bump_ne _ raising.symm).trans k.raisings

/-- A FRESH entry makes ISOLATED false (R53). -/
theorem State.isolatedNow_of_fresh {e : ViewEntry} (entry : e ∈ s.pvt.entries) (fresh : e.age = 0) :
    s.isolatedNow = false := by
  have any : s.pvt.entries.any viewFresh = true := List.any_eq_true.mpr ⟨e, entry, by simp [viewFresh, fresh]⟩
  rw [State.isolatedNow, any]
  simp

/-- A beacon stored: its entry is FRESH, and what the rouse term tests may turn. -/
theorem State.stored_view {y : State} {e : ViewEntry} (changed : ViewChanged s z (y.onPvt fun _ => v))
    (entry : e ∈ v.entries) (fresh : e.age = 0) :
    (y.stored v h).pvt = { v with isolated := false } ∧
      (BookOnlyAwake s → RousedByView s z (y.stored v h) (s.rsq.cover ≠ some h.station)) := by
  refine ⟨?view, fun only => changed.rousedByView (ViewWork.handOn h) only.empty⟩
  case view =>
    have now : (y.onPvt fun _ => v).isolatedNow = false := State.isolatedNow_of_fresh (by exact entry) fresh
    simp only [State.stored, State.handOn, State.formSettled_frame, State.coverBeacon_frame, State.leanerBeacon_frame,
      State.formIsolated_pvt, now]
    rfl

/-- The view with an entry written into a slot, its pointer at `pointer` (R40, R42, R43). -/
def PeerView.written (v : PeerView) (i : Nat) (e : ViewEntry) (pointer : Nat) : PeerView :=
  { v with slots := v.slots.set i (some e), pointer := pointer }

theorem PeerView.entry_written {i pointer : Nat} {x : Option ViewEntry} (e : ViewEntry) (slot : v.slots[i]? = some x) :
    e ∈ (v.written i e pointer).entries := by
  obtain ⟨inside, -⟩ := List.getElem?_eq_some_iff.mp slot
  exact PeerView.mem_entries.mpr (List.mem_set inside _)

/-! ## The table's four answers -/

theorem State.storeBeacon_updated (is : s.pvt.store s.own s.pinned h = .updated v) : s.storeBeacon h = s.stored v h := by
  rw [State.storeBeacon, is]

theorem State.storeBeacon_inserted (is : s.pvt.store s.own s.pinned h = .inserted v) :
    s.storeBeacon h = s.stored v h := by
  rw [State.storeBeacon, is]

theorem State.storeBeacon_evicted (is : s.pvt.store s.own s.pinned h = .evicted v) :
    s.storeBeacon h = (s.bump .evictions).stored v h := by
  rw [State.storeBeacon, is]

theorem State.storeBeacon_dropped (is : s.pvt.store s.own s.pinned h = .dropped) :
    s.storeBeacon h = (s.onPvt fun v => { v with viewFull := true }).bump .fullViewDrops := by
  rw [State.storeBeacon, is]

/-- A count that no wake, no recall, no removal as SEEN_AWAKE and no raising of UNSETTLED raises is that of before. -/
theorem State.count_stored {c : Counter} (wakes : wakeCounter c = false) (recalls : recallCounter c = false)
    (removed : c ≠ .removed .seenAwake) (raising : c ≠ .unsettledRaisings) : (s.stored v h).count c = s.count c := by
  rw [State.stored, State.handOn, State.count_formSettled_class _ wakes raising, State.count_coverBeacon_class wakes,
    State.count_leanerBeacon_class recalls removed, State.count_formIsolated_class _ wakes]
  rfl

/-- Settles O29: the table updates or inserts, the entry written is FRESH, and the report of what that turns follows. -/
theorem beaconUpdatesOrInserts : Obligations.BeaconUpdatesOrInserts := by
  intro after sender b h i s hears other carrier up kept read
  have station := station_of_readBeacon read
  have answered := exec_beacon_stored (after := after) hears other carrier up read
  refine ⟨fun e slot sent => ?updates, fun new free lowest => ?inserts⟩
  case updates =>
    have stores : (s.arrived after .beacon).pvt.store (s.arrived after .beacon).own (s.arrived after .beacon).pinned h = _ :=
      kept.store_updates (pinned := (s.arrived after .beacon).pinned) slot (sent.trans station.symm)
    rw [State.storeBeacon_updated stores] at answered
    have view := State.stored_view (h := h) 
      (ViewChanged.arrival (v := s.pvt.written i (updateEntry s.own h e) s.pvt.pointer) after s rfl)
      (PeerView.entry_written _ slot) rfl
    rw [station] at view
    exact ⟨_, answered, view⟩
  case inserts =>
    have stores : (s.arrived after .beacon).pvt.store (s.arrived after .beacon).own (s.arrived after .beacon).pinned h = _ :=
      kept.store_inserts (pinned := (s.arrived after .beacon).pinned) (fun e entry => by rw [station]; exact new e entry)
        free lowest
    rw [State.storeBeacon_inserted stores] at answered
    have view := State.stored_view (h := h) 
      (ViewChanged.arrival (v := s.pvt.written i (newEntry s.own h) s.pvt.pointer) after s rfl)
      (PeerView.entry_written _ free) rfl
    rw [station] at view
    exact ⟨_, answered, view⟩

/-- Settles O30: with the table full the candidate that the scan meets first gives its slot, and without one the beacon is
dropped. -/
theorem fullViewEvictsOrDrops : Obligations.FullViewEvictsOrDrops := by
  intro after sender b h s hears other carrier up kept read new taken
  have station := station_of_readBeacon read
  have answered := exec_beacon_stored (after := after) hears other carrier up read
  have new : ∀ e ∈ (s.arrived after .beacon).pvt.entries, e.station ≠ h.station := by
    rw [station]
    exact new
  have candidate {slot : Option ViewEntry} : evictable (s.arrived after .beacon).pinned slot = true ↔
      ∃ e, slot = some e ∧ 3 ≤ e.age ∧ s.rsq.cover ≠ some e.station ∧ ∀ p ∈ s.cvu.book, p.leaner ≠ e.station := by
    rw [evictable_iff]
    exact exists_congr fun e => and_congr_right fun _ => and_congr_right fun _ => State.pinned_eq_false_iff
  refine ⟨fun i e suits oldest first => ?evicts, fun unsuited => ?drops⟩
  case evicts =>
    obtain ⟨slot, stale, free⟩ := suits
    have victim : (s.arrived after .beacon).pvt.victim (s.arrived after .beacon).pinned = some i := by
      refine kept.victim_eq slot (candidate.mpr ⟨e, rfl, stale, free⟩) (fun f mem suits => ?_) fun j f there suits age => ?_
      · obtain ⟨j, there⟩ := List.mem_iff_getElem?.mp mem
        obtain ⟨_, ⟨⟩, suits⟩ := candidate.mp suits
        exact oldest j f ⟨there, suits⟩
      · obtain ⟨_, ⟨⟩, suits⟩ := candidate.mp suits
        exact first j f ⟨there, suits⟩ age
    rw [State.storeBeacon_evicted (PeerView.store_evicts new taken victim)] at answered
    have changed := (ViewChanged.arrival (v := s.pvt.written i (newEntry s.own h) ((s.pvt.pointer + 1) % 16)) after s
      rfl).bump (c := .evictions) (by simp) (by simp) (by simp)
    obtain ⟨view, roused⟩ := State.stored_view (h := h) (y := (s.arrived after .beacon).bump .evictions) changed
      (PeerView.entry_written _ slot) rfl
    rw [station] at roused
    refine ⟨_, answered, view, ?_, roused⟩
    rw [State.count_stored rfl rfl (by simp) (by simp), State.count_bump_same]
    simp [saturatingSucc, Config.counterLimit]
  case drops =>
    have victim : (s.arrived after .beacon).pvt.victim (s.arrived after .beacon).pinned = none := by
      refine PeerView.victim_none fun slot mem => Bool.eq_false_iff.mpr fun suits => ?_
      obtain ⟨e, rfl, tested⟩ := candidate.mp suits
      obtain ⟨i, there⟩ := List.mem_iff_getElem?.mp mem
      exact unsuited i e ⟨there, tested⟩
    rw [State.storeBeacon_dropped (PeerView.store_drops new taken victim)] at answered
    exact answered

end Sys2Proof.Machine
end

section
/-! PROOFS. Removals reported: the cover's as an orphan condition, a leaner's as LEANER_LOST; and the beacon of another
sector (R41, R48, R67, R96 to R98, R101; O31). -/

namespace Sys2Proof.Machine

variable {s t u w z : State} {p q : Pledge} {station : Nat}

/-! ## The orphan condition -/

theorem State.count_countWake_orphan (s : State) :
    (s.countWake .orphan).count .orphanWakes = min 65535 (s.count .orphanWakes + 1) := by
  simp [State.countWake, State.count_bump, saturatingSucc, Config.counterLimit]

/-- No wake leads to STANDBY, and none leaves a station in a phase that takes another (R97, R98). -/
theorem State.wake_leaves (cause : WakeCause) (s : State) :
    (s.wake cause).rsq.phase ≠ .draining ∧ (s.wake cause).rsq.phase ≠ .standby ∧ (s.wake cause).rsq.phase ≠ .deep := by
  by_cases draining : s.rsq.phase = .draining
  · simp [(State.wake_draining cause draining).1]
  by_cases resting : s.rsq.phase = .standby ∨ s.rsq.phase = .deep
  · rw [(State.wake_resting cause resting).1]
    split <;> simp
  · rw [not_or] at resting
    rw [State.wake_ignored cause draining resting.1 resting.2]
    exact ⟨draining, resting.1, resting.2⟩

/-- A wake with cause ORPHAN, in the statements' word for it. -/
theorem State.orphanWake (s : State) : Orphaned s (s.wake .orphan) where
  phase := by
    cases is : s.rsq.phase with
    | draining => exact (State.wake_draining .orphan is).1
    | standby =>
      rw [(State.wake_resting .orphan (.inl is)).1, is]
      cases s.rsq.darkGiven <;> simp
    | deep => rw [(State.wake_resting .orphan (.inr is)).1, is]; simp
    | _ => rw [State.wake_ignored .orphan (by simp [is]) (by simp [is]) (by simp [is]), is]
  woken taken := by
    refine ⟨?cause, State.count_wakes .orphan taken, ?count⟩
    case cause =>
      rcases taken with draining | resting
      · exact (State.wake_draining .orphan draining).2.2.2
      · obtain ⟨-, -, -, cause, -⟩ := State.wake_resting .orphan resting
        exact cause
    case count =>
      rw [State.count_wake_other rfl, if_pos taken]
      exact s.count_countWake_orphan
  aborted draining := by
    obtain ⟨-, cover, timer, -⟩ := State.wake_draining .orphan draining
    exact ⟨cover, timer, by simp, State.count_wake_kept (c := .drainFailures) rfl nofun nofun .orphan⟩
  ignored returning := by
    rw [State.wake_ignored .orphan (by rcases returning with is | is <;> simp [is])
      (by rcases returning with is | is <;> simp [is]) (by rcases returning with is | is <;> simp [is])]
    exact ⟨rfl, rfl⟩

/-- What a wake with cause ORPHAN reads, and what it counts, is in one state as in another. -/
structure OrphanAs (s u : State) : Prop where
  phase : u.rsq.phase = s.rsq.phase
  dark : u.rsq.darkGiven = s.rsq.darkGiven
  backoff : u.rsq.backoff = s.rsq.backoff
  cause : u.rsq.wakeCause = s.rsq.wakeCause
  failures : u.count .drainFailures = s.count .drainFailures
  wakes : u.count (.wakes .orphan) = s.count (.wakes .orphan)
  orphans : u.count .orphanWakes = s.count .orphanWakes

theorem OrphanAs.alike (h : OrphanAs s w) (k : Alike w u) : OrphanAs s u where
  phase := by rw [k.rsq]; exact h.phase
  dark := by rw [k.rsq]; exact h.dark
  backoff := by rw [k.rsq]; exact h.backoff
  cause := by rw [k.rsq]; exact h.cause
  failures := (k.count _).trans h.failures
  wakes := (k.count _).trans h.wakes
  orphans := (k.count _).trans h.orphans

theorem Orphaned.congr (h : Orphaned u t) (k : OrphanAs s u) : Orphaned s t where
  phase := by simpa only [k.phase, k.dark] using h.phase
  woken := by simpa only [k.phase, k.wakes, k.orphans] using h.woken
  aborted := by simpa only [k.phase, k.backoff, k.failures] using h.aborted
  ignored := by simpa only [k.phase, k.cause, k.orphans] using h.ignored

/-! ## The report -/

/-- The removal of the recorded cover's entry is an orphan condition; where it is not tested, no wake is taken either (R101).
-/
theorem State.reportRemoval_cover (recorded : s.rsq.cover = some station) : s.reportRemoval station = s.wake .orphan := by
  rw [State.reportRemoval, if_pos recorded]
  cases tested : orphanTested s.rsq.phase with
  | true => rfl
  | false =>
    have up : s.rsq.phase ≠ .draining ∧ s.rsq.phase ≠ .standby ∧ s.rsq.phase ≠ .deep := by
      refine ⟨?_, ?_, ?_⟩
      all_goals
        intro is
        simp [is, orphanTested] at tested
    exact (State.wake_ignored .orphan up.1 up.2.1 up.2.2).symm

theorem State.reportRemoval_leaner (other : s.rsq.cover ≠ some station) :
    s.reportRemoval station = s.leanerLost station := if_neg other

theorem State.leanerLost_new (new : ∀ p ∈ s.cvu.book, p.leaner ≠ station) : s.leanerLost station = s := by
  have missing : s.cvu.pledgeOf station = none := List.find?_eq_none.mpr fun p held => by simpa using new p held
  rw [State.leanerLost, missing]

theorem BookKept.leanerLost_eq (kept : BookKept s.cvu.book) (held : p ∈ s.cvu.book) :
    s.leanerLost p.leaner = s.removePledge p .leanerLost := by
  rw [State.leanerLost, kept.pledgeOf held]

/-- The leaner lost leaves the book, and no other (R67). -/
theorem State.leanerLost_leaners (leaner : Nat) (s : State) :
    (s.leanerLost leaner).cvu.leaners = s.cvu.leaners.filter (· != leaner) := by
  unfold State.leanerLost
  split
  next p found => rw [State.removePledge_leaners, (CoverUnit.pledgeOf_some found).2]
  next missing =>
    refine (List.filter_eq_self.mpr fun n listed => ?_).symm
    obtain ⟨p, held, rfl⟩ := List.mem_map.mp listed
    simpa using CoverUnit.pledgeOf_none missing p held

/-- A report of a removal counts no more than a wake, a removal as LEANER_LOST and the recall that may follow (R48). -/
theorem State.count_reportRemoval_class {c : Counter} (wakes : wakeCounter c = false) (recalls : recallCounter c = false)
    (removed : c ≠ .removed .leanerLost) : (s.reportRemoval station).count c = s.count c := by
  by_cases recorded : s.rsq.cover = some station
  · rw [State.reportRemoval_cover recorded, State.count_wake_class _ wakes]
  · rw [State.reportRemoval_leaner recorded, State.leanerLost]
    split
    · exact State.count_removePledge_class _ recalls _ removed
    · rfl

/-- The report of a removal, as a work on the view. -/
theorem ViewWork.reportRemoval (station : Nat) : ViewWork station (State.reportRemoval station) where
  view u := by simp
  plain u empty other := by rw [State.reportRemoval_leaner other, State.leanerLost_new (by simp [empty])]
  returning u empty draining standby deep := by
    refine ⟨u.rsq.omissions, ?_⟩
    by_cases recorded : u.rsq.cover = some station
    · rw [State.reportRemoval_cover recorded, State.wake_ignored .orphan draining standby deep]
      rfl
    · rw [State.reportRemoval_leaner recorded, State.leanerLost_new (by simp [empty])]
      rfl

/-! ## The forming of ISOLATED before it -/

/-- ISOLATED is formed with the term values alone, or its report ends a drain or a rest (R96, R134). -/
theorem State.formIsolated_cases (s : State) :
    Alike s s.formIsolated ∨ ∃ r, Alike s r ∧ s.formIsolated = r.wake .rouse := by
  rw [State.formIsolated_eq]
  split
  · exact .inl (.refl s)
  · rcases s.reviewed.formTerms_cases with same | woken
    · rw [same]
      exact .inl (s.reviewed_alike.trans (State.formValues_alike _))
    · rw [woken]
      exact .inr ⟨_, s.reviewed_alike.trans (State.formValues_alike _), rfl⟩

/-- A forming of ISOLATED records no cover. -/
theorem State.formIsolated_cover_ne (other : s.rsq.cover ≠ some station) : s.formIsolated.rsq.cover ≠ some station := by
  rcases s.formIsolated_cases with same | ⟨r, same, woken⟩
  · rw [same.rsq]
    exact other
  · have kept : r.rsq.cover ≠ some station := by rw [same.rsq]; exact other
    rw [woken]
    by_cases draining : r.rsq.phase = .draining
    · simp [(State.wake_draining .rouse draining).2.1]
    by_cases resting : r.rsq.phase = .standby ∨ r.rsq.phase = .deep
    · rwa [(State.wake_resting .rouse resting).2.1]
    · rw [not_or] at resting
      rwa [State.wake_ignored .rouse draining resting.1 resting.2]

theorem State.formIsolated_mode (s : State) : s.formIsolated.continuousRecall = s.continuousRecall := by
  simp [State.continuousRecall]

/-- The recorded cover's removal, whether the rouse term or the orphan condition ends the drain (R98, R134). -/
theorem State.reportRemoval_draining (draining : s.rsq.phase = .draining) (recorded : s.rsq.cover = some station) :
    (s.formIsolated.reportRemoval station).rsq.phase = .awake ∧
      (s.formIsolated.reportRemoval station).rsq.cover = none ∧
      (s.cvu.book = [] →
        (s.formIsolated.reportRemoval station).lif = (s.offer (.resume station s.rsq.tag)).lif) := by
  rcases s.formIsolated_cases with same | ⟨r, same, woken⟩
  · have phase : s.formIsolated.rsq.phase = .draining := by rw [same.rsq]; exact draining
    have cover : s.formIsolated.rsq.cover = some station := by rw [same.rsq]; exact recorded
    rw [State.reportRemoval_cover cover]
    obtain ⟨awake, none, -⟩ := State.wake_draining .orphan phase
    refine ⟨awake, none, fun _ => ?_⟩
    rw [State.wake_lif_of_draining (by decide) phase cover, same.rsq]
    exact State.offer_lif_congr same.lif (by rw [same.rsq]) _
  · have phase : r.rsq.phase = .draining := by rw [same.rsq]; exact draining
    have cover : r.rsq.cover = some station := by rw [same.rsq]; exact recorded
    obtain ⟨awake, none, -⟩ := State.wake_draining .rouse phase
    rw [← woken] at awake none
    rw [State.reportRemoval_leaner (by simp [none])]
    refine ⟨by simpa using awake, by simpa using none, fun empty => ?_⟩
    rw [State.leanerLost_new (by simp [empty]), woken, State.wake_lif_of_draining (by decide) phase cover, same.rsq]
    exact State.offer_lif_congr same.lif (by rw [same.rsq]) _

/-- The same at the end of a rest (R97, R134). -/
theorem State.reportRemoval_resting (resting : s.rsq.phase = .standby ∨ s.rsq.phase = .deep)
    (recorded : s.rsq.cover = some station) :
    (s.formIsolated.reportRemoval station).rsq.phase =
      if s.rsq.phase = .standby ∧ s.rsq.darkGiven = false then .waking else .warming := by
  rcases s.formIsolated_cases with same | ⟨r, same, woken⟩
  · have phase : s.formIsolated.rsq.phase = .standby ∨ s.formIsolated.rsq.phase = .deep := by rw [same.rsq]; exact resting
    have cover : s.formIsolated.rsq.cover = some station := by rw [same.rsq]; exact recorded
    rw [State.reportRemoval_cover cover, (State.wake_resting .orphan phase).1, same.rsq]
  · have phase : r.rsq.phase = .standby ∨ r.rsq.phase = .deep := by rw [same.rsq]; exact resting
    have cover : (r.wake .rouse).rsq.cover = some station := by
      rw [(State.wake_resting .rouse phase).2.1, same.rsq]
      exact recorded
    obtain ⟨draining, standby, deep⟩ := State.wake_leaves .rouse r
    rw [woken, State.reportRemoval_cover cover, State.wake_ignored .orphan draining standby deep,
      (State.wake_resting .rouse phase).1, same.rsq]

/-! ## The beacon of another sector -/

/-- The state in which ISOLATED is formed at a beacon of another sector: the entry removed and counted (R41). -/
def State.expelled (station : Nat) (s : State) : State := (s.onPvt fun v => v.remove station).bump .otherSectorRemovals

theorem State.otherSector_eq (station : Nat) (s : State) :
    s.otherSector station =
      if (s.pvt.find station).isSome then ((s.expelled station).formIsolated.reportRemoval station).formSettled else s := rfl

/-- What the reports on the expelled entry leave of the Cover Unit, where the station is not the cover (R67, R70, R74). -/
theorem State.expelled_cvu (other : s.rsq.cover ≠ some station) :
    ((s.expelled station).formIsolated.reportRemoval station).formSettled.cvu =
      ((s.expelled station).formIsolated.leanerLost station).cvu := by
  rw [State.reportRemoval_leaner (State.formIsolated_cover_ne (s := s.expelled station) other)]
  simp

end Sys2Proof.Machine
end

section
/-! PROOFS. The beacon of another sector: its sender's entry removed, and what a pinned one was pinned for (R41, R48, R67,
R96 to R98, R101; O31). -/

namespace Sys2Proof.Machine

variable {s z : State} {p q : Pledge} {station i : Nat} {e : ViewEntry}

/-- Outside LOADING and MUTE, ISOLATED is that no entry is FRESH (R53). -/
theorem State.isolatedNow_of_up (loading : s.rsq.phase ≠ .loading) (mute : s.rsq.phase ≠ .mute) :
    s.isolatedNow = !s.pvt.entries.any viewFresh := by
  simp [State.isolatedNow, loading, mute]

@[simp] theorem State.expelled_frame (station : Nat) (s : State) :
    (s.expelled station).cvu = s.cvu ∧ (s.expelled station).rsq = s.rsq ∧ (s.expelled station).lif = s.lif ∧
      (s.expelled station).plu = s.plu ∧ (s.expelled station).cfl = s.cfl ∧ (s.expelled station).lde = s.lde ∧
      (s.expelled station).clp = s.clp ∧ (s.expelled station).clock = s.clock :=
  ⟨rfl, rfl, rfl, rfl, rfl, rfl, rfl, rfl⟩

/-- The state that the work of the expelled entry leads to (R41, R48). -/
def State.afterExpulsion (station : Nat) (s : State) : State :=
  ((s.expelled station).formIsolated.reportRemoval station).formSettled

theorem State.otherSector_held (slot : s.pvt.slots[i]? = some (some e)) :
    s.otherSector e.station = s.afterExpulsion e.station := by
  rw [State.otherSector_eq, if_pos (PeerView.find_isSome_iff.mpr ⟨e, PeerView.entry_of_slot slot, rfl⟩)]
  rfl

theorem State.otherSector_new (new : ∀ e ∈ s.pvt.entries, e.station ≠ station) : s.otherSector station = s := by
  rw [State.otherSector_eq, if_neg (PeerView.unknown_of_new new)]

theorem State.count_expelled (c : Counter) (other : c ≠ .otherSectorRemovals) :
    (s.expelled station).count c = s.count c := State.count_bump_ne _ other

/-- A count that no removal raises, no wake and no recall, after the expulsion. -/
theorem State.count_afterExpulsion {c : Counter} (wakes : wakeCounter c = false) (recalls : recallCounter c = false)
    (lost : c ≠ .removed .leanerLost) (raising : c ≠ .unsettledRaisings) :
    (s.afterExpulsion station).count c = (s.expelled station).count c := by
  rw [State.afterExpulsion, State.count_formSettled_class _ wakes raising, State.count_reportRemoval_class wakes recalls lost,
    State.count_formIsolated_class _ wakes]

/-- The view after the expulsion (R41, R44, R53). -/
theorem ViewKept.afterExpulsion_pvt {own : Nat} (kept : ViewKept own s.pvt) (slot : s.pvt.slots[i]? = some (some e))
    (loading : s.rsq.phase ≠ .loading) (mute : s.rsq.phase ≠ .mute) :
    (s.afterExpulsion e.station).pvt =
      { slots := s.pvt.slots.set i none, pointer := s.pvt.pointer, viewFull := false
        isolated := !((s.pvt.slots.set i none).filterMap id).any viewFresh } := by
  have view : (s.expelled e.station).pvt = { s.pvt with slots := s.pvt.slots.set i none, viewFull := false } :=
    kept.remove_eq slot
  have now := State.isolatedNow_of_up (s := s.expelled e.station) loading mute
  rw [view] at now
  have after : (s.afterExpulsion e.station).pvt = (s.expelled e.station).formIsolated.pvt := by simp [State.afterExpulsion]
  rw [after, State.formIsolated_pvt, now, view]
  rfl

/-- The Cover Unit after the expulsion of a station that is not the cover: a leaner's pledge is removed (R67, R70, R74). -/
theorem State.afterExpulsion_cvu (other : s.rsq.cover ≠ some station) :
    (s.afterExpulsion station).cvu = ((s.expelled station).formIsolated.leanerLost station).cvu :=
  State.expelled_cvu other

theorem State.count_afterExpulsion_lost (other : s.rsq.cover ≠ some station) :
    (s.afterExpulsion station).count (.removed .leanerLost) =
      ((s.expelled station).formIsolated.leanerLost station).count (.removed .leanerLost) := by
  rw [State.afterExpulsion, State.count_formSettled_class _ rfl (by simp),
    State.reportRemoval_leaner (State.formIsolated_cover_ne (s := s.expelled station) other)]

/-- The count of lost leaners up to the report. -/
theorem State.count_expelled_lost :
    (s.expelled station).formIsolated.count (.removed .leanerLost) = s.count (.removed .leanerLost) := by
  rw [State.count_formIsolated_class _ rfl, State.count_expelled _ (by simp)]

section
variable (kept : BookKept s.cvu.book) (held : p ∈ s.cvu.book) (other : s.rsq.cover ≠ some p.leaner)
include kept held other

/-- A lost leaner's pledge is removed as LEANER_LOST (R67). -/
theorem BookKept.afterExpulsion :
    (s.afterExpulsion p.leaner).cvu = ((s.expelled p.leaner).formIsolated.removePledge p .leanerLost).cvu ∧
      (s.afterExpulsion p.leaner).count (.removed .leanerLost) = min 65535 (s.count (.removed .leanerLost) + 1) := by
  have lost : (s.expelled p.leaner).formIsolated.leanerLost p.leaner = _ :=
    BookKept.leanerLost_eq (s := (s.expelled p.leaner).formIsolated) (by simpa using kept) (by simpa using held)
  rw [State.afterExpulsion_cvu other, State.count_afterExpulsion_lost other, lost]
  exact ⟨rfl, by rw [State.count_removePledge, State.count_expelled_lost]⟩

/-- Without a call that ends in the mode, or with no pledge left, no recall follows (R70, R74). -/
theorem BookKept.afterExpulsion_alone (alone : p.state = .called → s.continuousRecall = false ∨ s.cvu.book = [p]) :
    (s.afterExpulsion p.leaner).cvu =
      { s.cvu with
        book := s.cvu.book.filter (·.leaner != p.leaner)
        recallTimer := if p.state = .called then none else s.cvu.recallTimer } := by
  have alone : p.state = .called → (s.expelled p.leaner).formIsolated.continuousRecall = false ∨
      (s.expelled p.leaner).formIsolated.cvu.book = [p] := by
    rw [State.formIsolated_mode]
    simpa [State.continuousRecall] using alone
  rw [(kept.afterExpulsion held other).1, State.removePledge_alone alone]
  simp [State.released, guardsRecall]

/-- The end of the call in the mode starts the next recall (R70, R74). -/
theorem BookKept.afterExpulsion_next (called : p.state = .called) (mode : s.continuousRecall = true)
    (chosen : chooseRecall (s.cvu.book.filter (·.leaner != p.leaner)) = some q) :
    (s.afterExpulsion p.leaner).cvu =
        { s.cvu with
          book :=
            changePledge q.leaner (fun q => { q with state := .called, attempts := 1 })
              (s.cvu.book.filter (·.leaner != p.leaner))
          recallTimer := some (s.clock + s.recallLength q.depth) } ∧
      (s.rsq.phase = .awake → (s.afterExpulsion p.leaner).lif = (s.offer (.recall q.leaner q.tag)).lif) := by
  have next := BookKept.removePledge_next (s := (s.expelled p.leaner).formIsolated) (cause := .leanerLost) (p := p) (q := q)
    (by simpa using kept) (by simpa using held) called ((s.expelled p.leaner).formIsolated_mode.trans mode)
    (by simpa using chosen)
  obtain ⟨cover, line, -⟩ := next
  refine ⟨?_, fun awake => ?_⟩
  · rw [(kept.afterExpulsion held other).1, cover]
    simp [State.released, guardsRecall, State.recallLength, State.beaconPeriod, State.image]
  · have same : Alike (s.expelled p.leaner) (s.expelled p.leaner).formIsolated :=
      State.formIsolated_alike_of_up (by simp [awake]) (by simp [awake])
        (by simp [awake])
    have lost : (s.expelled p.leaner).formIsolated.leanerLost p.leaner = _ :=
      BookKept.leanerLost_eq (s := (s.expelled p.leaner).formIsolated) (by simpa using kept) (by simpa using held)
    have phase : (s.expelled p.leaner).formIsolated.rsq.phase = .awake := by rw [same.rsq]; exact awake
    rw [State.afterExpulsion, State.reportRemoval_leaner (State.formIsolated_cover_ne (s := s.expelled p.leaner) other),
      State.formSettled_of_ne (by simp [phase]), lost, line]
    exact State.offer_lif_congr (s := s) same.lif (by rw [phase, awake]) _

end

/-- What the loss of the recorded cover's entry leads to (R96 to R98, R101, R134). -/
theorem State.afterExpulsion_cover (recorded : s.rsq.cover = some station) :
    (s.rsq.phase = .draining →
        (s.afterExpulsion station).rsq.phase = .awake ∧ (s.afterExpulsion station).rsq.cover = none ∧
        (s.cvu.book = [] → (s.afterExpulsion station).lif = (s.offer (.resume station s.rsq.tag)).lif)) ∧
      (s.rsq.phase = .standby → (s.afterExpulsion station).rsq.phase = if s.rsq.darkGiven then .warming else .waking) ∧
      (s.rsq.phase = .deep → (s.afterExpulsion station).rsq.phase = .warming) := by
  refine ⟨fun draining => ?_, fun standby => ?_, fun deep => ?_⟩
  · obtain ⟨awake, none, line⟩ := State.reportRemoval_draining (s := s.expelled station) draining recorded
    rw [State.afterExpulsion, State.formSettled_of_ne (by simp [awake])]
    refine ⟨awake, none, fun empty => (line empty).trans ?_⟩
    exact State.offer_lif_congr (s := s) (t := s.expelled station) rfl rfl _
  · have phase := State.reportRemoval_resting (s := s.expelled station) (.inl standby) recorded
    have shows : (if (s.expelled station).rsq.phase = .standby ∧ (s.expelled station).rsq.darkGiven = false then
        Phase.waking else .warming) = if s.rsq.darkGiven then .warming else .waking := by
      simp only [State.expelled, State.bump_rsq, State.onPvt_rsq, standby]
      cases s.rsq.darkGiven <;> simp
    rw [shows] at phase
    rw [State.afterExpulsion, State.formSettled_of_ne (by rw [phase]; split <;> simp), phase]
  · have phase := State.reportRemoval_resting (s := s.expelled station) (.inr deep) recorded
    have shows : (if (s.expelled station).rsq.phase = .standby ∧ (s.expelled station).rsq.darkGiven = false then
        Phase.waking else .warming) = .warming := by
      simp [State.expelled, deep]
    rw [shows] at phase
    rw [State.afterExpulsion, State.formSettled_of_ne (by simp [phase]), phase]

/-- With the factory rouse term the cover's loss is an orphan condition (R101). -/
theorem State.afterExpulsion_orphaned (recorded : s.rsq.cover = some station)
    (term : s.profile.rouse = { code := 15, inverted := true }) :
    Orphaned (s.expelled station) (s.afterExpulsion station) := by
  have same := State.formIsolated_alike_of_factory (s := s.expelled station) term
  have cover : (s.expelled station).formIsolated.rsq.cover = some station := by rw [same.rsq]; exact recorded
  rw [State.afterExpulsion, State.reportRemoval_cover cover, State.formSettled_of_ne (State.wake_leaves _ _).2.1]
  exact (State.orphanWake _).congr (OrphanAs.alike ⟨rfl, rfl, rfl, rfl, rfl, rfl, rfl⟩ same)

/-- Settles O31: the entry's slot is freed, and the report on it is an orphan condition, a lost leaner, or neither. -/
theorem otherSectorBeaconRemoves : Obligations.OtherSectorBeaconRemoves := by
  intro after sender sector b h s hears other carrier up view book read foreign
  have answered := exec_beacon_otherSector (after := after) hears other carrier up read foreign
  refine ⟨fun new => ?new, fun i e slot sent => ?held⟩
  case new => rw [answered, State.otherSector_new (s := s.arrived after .beacon) new]
  case held =>
    rw [← sent] at answered ⊢
    rw [State.otherSector_held (s := s.arrived after .beacon) slot] at answered
    have begun (c : Counter) (ne : c ≠ .arrivals .beacon) : (s.arrived after .beacon).count c = s.count c := by simp [ne]
    refine ⟨_, answered, ViewKept.afterExpulsion_pvt (s := s.arrived after .beacon) view slot hears.phase up, ?count,
      fun leaner => ?leaners, fun leaner new => ?unpledged, fun leaner p held lost => ?pledged, fun only => ?roused,
      fun recorded => ?orphaned⟩
    case count =>
      rw [State.count_afterExpulsion rfl rfl (by simp) (by simp), State.expelled, State.count_bump_same]
      simp [saturatingSucc, Config.counterLimit]
    case leaners =>
      rw [State.afterExpulsion_cvu (s := s.arrived after .beacon) leaner]
      exact (State.leanerLost_leaners _ _).trans (by simp [CoverUnit.leaners, State.expelled])
    case unpledged =>
      have none : ((s.arrived after .beacon).expelled e.station).formIsolated.leanerLost e.station = _ :=
        State.leanerLost_new (by simpa using new)
      rw [State.afterExpulsion_cvu (s := s.arrived after .beacon) leaner,
        State.count_afterExpulsion_lost (s := s.arrived after .beacon) leaner, none, State.count_expelled_lost,
        begun _ (by simp)]
      exact ⟨by simp [State.expelled], rfl⟩
    case pledged =>
      rw [← lost] at leaner ⊢
      obtain ⟨-, count⟩ := BookKept.afterExpulsion (s := s.arrived after .beacon) book held leaner
      refine ⟨by rw [count, begun _ (by simp)],
        BookKept.afterExpulsion_alone (s := s.arrived after .beacon) book held leaner, fun called mode q chosen => ?_⟩
      exact BookKept.afterExpulsion_next (s := s.arrived after .beacon) book held leaner called mode chosen
    case roused =>
      have changed : ViewChanged s (s.arrived after .beacon) ((s.arrived after .beacon).expelled e.station) :=
        (ViewChanged.arrival (v := s.pvt.remove e.station) after s (PeerView.clearFull_isolated _)).bump (by simp) (by simp)
          (by simp)
      exact changed.rousedByView (ViewWork.reportRemoval e.station) only.empty
    case orphaned =>
      obtain ⟨draining, standby, deep⟩ := State.afterExpulsion_cover (s := s.arrived after .beacon) recorded
      refine ⟨fun phase => ?_, standby, deep, fun term => ?_⟩
      · obtain ⟨awake, none, line⟩ := draining phase
        exact ⟨awake, none, fun only => line (only.empty (by simp [phase]))⟩
      · refine (State.afterExpulsion_orphaned (s := s.arrived after .beacon) recorded term).congr ?_
        exact ⟨rfl, rfl, rfl, rfl, by rw [State.count_expelled _ (by simp), begun _ (by simp)],
          by rw [State.count_expelled _ (by simp), begun _ (by simp)],
          by rw [State.count_expelled _ (by simp), begun _ (by simp)]⟩

end Sys2Proof.Machine
end

section
/-! PROOFS. The stored beacon at the Cover Unit and the orphan test: a leaner's (R62 to R64; O27) and the cover's (R101;
O32). -/

namespace Sys2Proof.Machine

variable {s x : State} {p : Pledge} {h : Heard} {own : Nat} {v : PeerView} {e : ViewEntry} {pinned : Nat → Bool}

/-! ## A beacon that the table takes -/

/-- With a candidate there is a victim (R43). -/
theorem ViewKept.exists_victim (kept : ViewKept own v) (entry : e ∈ v.entries)
    (candidate : evictable pinned (some e) = true) : ∃ i, v.victim pinned = some i := by
  have among : some e ∈ v.slots.filter (evictable pinned) :=
    List.mem_filter.mpr ⟨PeerView.mem_entries.mp entry, candidate⟩
  obtain ⟨age, greatest⟩ : ∃ age, ((v.slots.filter (evictable pinned)).map slotAge).max? = some age :=
    Option.ne_none_iff_exists'.mp fun none => by
      rw [List.max?_eq_none_iff, List.map_eq_nil_iff] at none
      simp [none] at among
  obtain ⟨slot, filtered, oldest⟩ := List.mem_map.mp (List.max?_eq_some_iff.mp greatest).1
  obtain ⟨there, suits⟩ := List.mem_filter.mp filtered
  obtain ⟨j, inside, stands⟩ := List.mem_iff_getElem.mp there
  have pointer := kept.pointer
  have scanned : j ∈ scanOrder v.pointer :=
    List.mem_map.mpr ⟨(j + 16 - v.pointer) % 16, List.mem_range.mpr (Nat.mod_lt _ (by decide)), by
      have := kept.sixteen
      omega⟩
  have is : greatestAge pinned v.slots = age := by
    rw [greatestAge, List.foldl_max, greatest]
    exact Nat.zero_max _
  refine Option.isSome_iff_exists.mp (List.find?_isSome.mpr ⟨j, scanned, ?_⟩)
  simp [inside, stands, suits, oldest, is]

/-- A beacon is stored, with an eviction counted or not, when its sender has an entry, or else a slot is free or can be
freed (R40, R42, R43). -/
theorem State.storeBeacon_stored
    (takes : (s.pvt.find h.station).isSome = true ∨
      ViewKept s.own s.pvt ∧ (none ∈ s.pvt.slots ∨ ∃ e ∈ s.pvt.entries, evictable s.pinned (some e) = true)) :
    ∃ v, s.storeBeacon h = s.stored v h ∨ s.storeBeacon h = (s.bump .evictions).stored v h := by
  cases is : s.pvt.store s.own s.pinned h with
  | updated v => exact ⟨v, .inl (State.storeBeacon_updated is)⟩
  | inserted v => exact ⟨v, .inl (State.storeBeacon_inserted is)⟩
  | evicted v => exact ⟨v, .inr (State.storeBeacon_evicted is)⟩
  | dropped =>
    exfalso
    unfold PeerView.store at is
    split at is
    · cases is
    next unknown =>
      obtain ⟨kept, room⟩ := takes.resolve_left unknown
      split at is
      · cases is
      next full =>
        split at is
        · cases is
        next unsuited =>
          rcases room with free | ⟨e, entry, candidate⟩
          · have some : s.pvt.hasFree = true := List.any_eq_true.mpr ⟨none, free, rfl⟩
            rw [PeerView.hasFree_of_firstFree kept.sixteen full] at some
            cases some
          · obtain ⟨i, victim⟩ := kept.exists_victim entry candidate
            rw [victim] at unsuited
            cases unsuited

/-! ## The leaner's pledge -/

/-- In AWAKE a stored beacon reaches the Cover Unit alone, ISOLATED and the term values aside (R62, R101, R107). -/
theorem State.stored_awake (awake : s.rsq.phase = .awake) (v : PeerView) :
    ∃ u, Alike s u ∧ s.stored v h = u.leanerBeacon h := by
  have changed := Alike.of_view v s
  have formed : Alike s (s.onPvt fun _ => v).formIsolated :=
    changed.trans (State.formIsolated_alike_of_up (by simp [awake]) (by simp [awake]) (by simp [awake]))
  have phase : (s.onPvt fun _ => v).formIsolated.rsq.phase = .awake := by rw [formed.rsq]; exact awake
  refine ⟨_, formed, ?_⟩
  rw [State.stored, State.handOn, State.coverBeacon, if_neg (by simp [phase, orphanTested]),
    State.formSettled_of_ne (by simp [phase])]

theorem BookKept.leanerBeacon_removes (kept : BookKept s.cvu.book) (held : p ∈ s.cvu.book) (sent : p.leaner = h.station)
    (gone : h.phase = .awake ∨ h.cover ≠ some s.own) : s.leanerBeacon h = s.removePledge p .seenAwake := by
  rw [State.leanerBeacon, ← sent, kept.pledgeOf held]
  exact if_pos gone

theorem BookKept.leanerBeacon_follows (kept : BookKept s.cvu.book) (held : p ∈ s.cvu.book) (sent : p.leaner = h.station)
    (rests : ¬(h.phase = .awake ∨ h.cover ≠ some s.own)) :
    s.leanerBeacon h = s.onCvu fun c => { c with book := changePledge h.station (followLeaner h.phase) c.book } := by
  rw [State.leanerBeacon, ← sent, kept.pledgeOf held]
  exact if_neg rests

/-- A change of one leaner's pledge is the writing of its new pledge (R55). -/
theorem BookKept.changePledge_eq {book : List Pledge} (kept : BookKept book) (held : p ∈ book) (f : Pledge → Pledge) :
    changePledge p.leaner f book = changePledge p.leaner (fun _ => f p) book := by
  refine List.map_congr_left fun q mem => ?_
  by_cases same : q.leaner = p.leaner
  · rw [kept.leaner_unique mem held same]
  · simp [same]

/-- The pledge after the beacon of a resting or draining leaner, field by field (R63, R64). -/
theorem followLeaner_writes (phase : Phase) (p : Pledge) :
    let q := followLeaner phase p
    q.leaner = p.leaner ∧ q.tag = p.tag ∧ q.amount = p.amount ∧ q.reserve = p.reserve ∧ q.grantAge = p.grantAge ∧
      q.attempts = p.attempts ∧ (p.state = .granted → q.named = true) ∧ (p.state = .called → q.named = true) ∧
      (p.state = .resting → q.named = p.named) ∧
      (p.state = .granted → (phase = .standby ∨ phase = .deep) →
        q.state = .resting ∧ q.depth = some (if phase = .deep then .deep else .standby)) ∧
      (p.state = .granted → phase ≠ .standby → phase ≠ .deep → q.state = .granted ∧ q.depth = p.depth) ∧
      (p.state ≠ .granted → q.state = p.state) ∧
      (p.state ≠ .granted → phase = .deep → q.depth = some .deep) ∧
      (p.state = .called → phase = .standby → p.depth ≠ some .deep → q.depth = some .standby) ∧
      (p.state ≠ .granted → p.depth = some .deep → q.depth = some .deep) ∧
      (p.state ≠ .granted → phase ≠ .standby → phase ≠ .deep → q.depth = p.depth) ∧
      (p.state = .resting → phase = .standby → q.depth = p.depth) := by
  obtain ⟨leaner, tag, amount, reserve, state, depth, named, age, attempts⟩ := p
  cases state with
  | granted => cases phase <;> simp [followLeaner, depthOf]
  | resting => cases phase <;> simp [followLeaner, depthOf]
  | called =>
    cases phase with
    | standby => by_cases deep : depth = some .deep <;> simp [followLeaner, depthOf, deep]
    | _ => simp [followLeaner, depthOf]

/-- Settles O27: the stored beacon reaches the Cover Unit, where its sender's pledge ends or is moved on. -/
theorem leanerBeaconFollowed : Obligations.LeanerBeaconFollowed := by
  intro after sender b h p s hears other carrier awake kept read held sent takes
  have station := station_of_readBeacon read
  have takes : ((s.arrived after .beacon).pvt.find h.station).isSome = true ∨
      ViewKept (s.arrived after .beacon).own (s.arrived after .beacon).pvt ∧
        (none ∈ (s.arrived after .beacon).pvt.slots ∨
          ∃ e ∈ (s.arrived after .beacon).pvt.entries, evictable (s.arrived after .beacon).pinned (some e) = true) := by
    rw [station]
    refine takes.imp_right fun ⟨view, room⟩ => ⟨view, room.imp_right ?_⟩
    rintro ⟨e, entry, stale, free⟩
    exact ⟨e, entry, evictable_iff.mpr ⟨e, rfl, stale, State.pinned_eq_false_iff.mpr free⟩⟩
  obtain ⟨v, is⟩ := State.storeBeacon_stored takes
  obtain ⟨y, begun, is⟩ : ∃ y, (y = s.arrived after .beacon ∨ y = (s.arrived after .beacon).bump .evictions) ∧
      (s.arrived after .beacon).storeBeacon h = y.stored v h :=
    is.elim (fun is => ⟨_, .inl rfl, is⟩) fun is => ⟨_, .inr rfl, is⟩
  have inPhase : y.rsq.phase = .awake := by rcases begun with rfl | rfl <;> exact awake
  obtain ⟨u, same, stored⟩ := State.stored_awake (h := h) inPhase v
  have from_ : u.cvu = s.cvu ∧ u.continuousRecall = s.continuousRecall ∧ u.clock = s.clock + after ∧
      u.profile = s.profile ∧ u.cfl = s.cfl ∧ u.lif = (s.arrived after .beacon).lif ∧
      u.count (.removed .seenAwake) = s.count (.removed .seenAwake) := by
    rw [same.cvu, same.mode, same.clock, same.profile, same.loader, same.lif, same.count]
    rcases begun with rfl | rfl
    · exact ⟨rfl, rfl, rfl, rfl, rfl, rfl, by simp⟩
    · exact ⟨rfl, rfl, rfl, rfl, rfl, rfl, by simp [State.count_bump]⟩
  obtain ⟨cover, mode, clock, profile, loader, line, count⟩ := from_
  have phase : u.rsq.phase = .awake := by rw [same.rsq]; exact inPhase
  rw [← cover] at kept held
  have answered := exec_beacon_stored (after := after) hears other carrier (by simp [awake]) read
  rw [is, stored] at answered
  have station := sent.trans station.symm
  have own : u.own = s.cfl.station.toNat := by rw [State.own, loader]
  refine ⟨_, answered, fun gone => ?removes, fun rests names => ?follows⟩
  case removes =>
    rw [← own] at gone
    rw [← sent, kept.leanerBeacon_removes held station gone]
    refine ⟨?leaners, ?count, ?guard, fun alone => ?alone, fun called continuous q chosen => ?next⟩
    case leaners =>
      rw [← cover]
      exact State.removePledge_leaners p .seenAwake u
    case count => rw [State.count_removePledge, count]
    case guard =>
      rw [State.removePledge_eq]
      split
      next called => simp [State.released, guardsRecall, called, profile, clock, cover]
      next ends => simp [State.released, ends, cover]
    case alone =>
      rw [State.removePledge_alone (by rw [mode, cover]; exact alone)]
      exact ⟨by rw [← cover]; rfl, by rw [← cover]; rfl⟩
    case next =>
      obtain ⟨changes, offers, -⟩ := kept.removePledge_next (cause := .seenAwake) held called (mode.trans continuous)
        (by rw [cover]; exact chosen)
      rw [changes, offers, clock, ← cover]
      refine ⟨rfl, ?_, State.offer_lif_congr line (by rw [phase]; exact awake.symm) _⟩
      simp [State.recallLength, State.beaconPeriod, State.image, loader]
  case follows =>
    have names : ¬(h.phase = .awake ∨ h.cover ≠ some u.own) := by
      rw [own]
      simp [rests, names]
    refine ⟨followLeaner h.phase p, ?_, followLeaner_writes h.phase p⟩
    rw [kept.leanerBeacon_follows held station names, ← sent, ← station, ← cover, ← kept.changePledge_eq held]
    rfl

/-! ## The cover's beacon -/

/-- With the factory rouse term a forming of settlement moves no phase. -/
theorem State.formSettled_phase_of_factory (term : s.profile.rouse = { code := 15, inverted := true }) :
    s.formSettled.rsq.phase = s.rsq.phase := by
  by_cases standby : s.rsq.phase = .standby
  · by_cases changes : s.rsq.unsettled = (!s.pvt.allSeen && s.rsq.settleCount == Config.settleLimit)
    · rw [State.formSettled_same standby changes, State.onRsq_rsq]
    · have profile : (s.settlementWritten (!s.rsq.unsettled)).profile = s.profile := by cases s.rsq.unsettled <;> rfl
      rw [State.formSettled_changes standby changes,
        State.formTerms_of_false (State.testTerm_factory (profile ▸ term))]
      cases s.rsq.unsettled <;> simp [State.settlementWritten, doWhen]
  · rw [State.formSettled_of_ne standby]

theorem State.coverBeacon_tested (tested : orphanTested s.rsq.phase = true) (recorded : s.rsq.cover = some h.station) :
    s.coverBeacon h =
      if h.phase ≠ .awake then s.wake .orphan
      else if h.covering.contains s.own then s.onRsq fun q => { q with omissions := 0 }
      else if 2 ≤ s.rsq.omissions + 1 then
        (s.onRsq fun q => { q with omissions := min 2 (q.omissions + 1) }).wake .orphan
      else s.onRsq fun q => { q with omissions := min 2 (q.omissions + 1) } := by
  rw [State.coverBeacon, if_pos ⟨tested, recorded⟩]

/-- What the cover's beacon does to the omissions and the phase, at a station whose rouse term is never true (R101). -/
theorem State.coverBeacon_settled (tested : orphanTested x.rsq.phase = true) (recorded : x.rsq.cover = some h.station)
    (term : x.profile.rouse = { code := 15, inverted := true }) :
    (h.phase = .awake → x.own ∈ h.covering →
        (x.coverBeacon h).formSettled.rsq.omissions = 0 ∧ (x.coverBeacon h).formSettled.rsq.phase = x.rsq.phase) ∧
      (h.phase = .awake → x.own ∉ h.covering →
        (x.coverBeacon h).formSettled.rsq.omissions = min 2 (x.rsq.omissions + 1) ∧
        (x.rsq.omissions = 0 → (x.coverBeacon h).formSettled.rsq.phase = x.rsq.phase)) ∧
      ((h.phase ≠ .awake ∨ x.own ∉ h.covering ∧ 1 ≤ x.rsq.omissions) →
        Orphaned x (x.coverBeacon h).formSettled ∧
        (x.rsq.phase = .draining →
          (x.coverBeacon h).formSettled.lif = (x.offer (.resume h.station x.rsq.tag)).lif)) := by
  have orphan {y : State} (alike : OrphanAs x y) (cover : y.rsq.cover = some h.station) (tag : y.rsq.tag = x.rsq.tag)
      (line : y.lif = x.lif) :
      Orphaned x (y.wake .orphan).formSettled ∧
        (x.rsq.phase = .draining → (y.wake .orphan).formSettled.lif = (x.offer (.resume h.station x.rsq.tag)).lif) := by
    rw [State.formSettled_of_ne (State.wake_leaves _ _).2.1]
    refine ⟨(State.orphanWake y).congr alike, fun draining => ?_⟩
    rw [State.wake_lif_of_draining (by decide) (alike.phase.trans draining) cover, tag]
    exact State.offer_lif_congr line alike.phase _
  have counted (n : Nat) : OrphanAs x (x.onRsq fun q => { q with omissions := n }) :=
    ⟨rfl, rfl, rfl, rfl, rfl, rfl, rfl⟩
  rw [State.coverBeacon_tested tested recorded]
  refine ⟨fun awake covered => ?covered, fun awake omits => ?omits, fun orphaned => ?orphaned⟩
  case covered =>
    rw [if_neg (by simp [awake]), if_pos (by simpa using covered)]
    exact ⟨by simp, State.formSettled_phase_of_factory (s := x.onRsq fun q => { q with omissions := 0 }) term⟩
  case omits =>
    rw [if_neg (by simp [awake]), if_neg (by simpa using omits)]
    refine ⟨by split <;> simp, fun first => ?_⟩
    rw [if_neg (by omega)]
    exact State.formSettled_phase_of_factory (s := x.onRsq fun q => { q with omissions := min 2 (q.omissions + 1) }) term
  case orphaned =>
    by_cases awake : h.phase = .awake
    · obtain ⟨omits, again⟩ := orphaned.resolve_left (by simp [awake])
      rw [if_neg (by simp [awake]), if_neg (by simpa using omits), if_pos (by omega)]
      exact orphan (counted _) recorded rfl rfl
    · rw [if_pos awake]
      exact orphan ⟨rfl, rfl, rfl, rfl, rfl, rfl, rfl⟩ recorded rfl rfl

/-- Settles O32: the entry is updated, and the orphan test is applied to what the beacon shows. -/
theorem coverBeaconTested : Obligations.CoverBeaconTested := by
  intro after sender b h s hears other carrier view read known recorded term omitted phases
  have station := station_of_readBeacon read
  have tested : orphanTested s.rsq.phase = true := by rcases phases with is | is | is | is | is <;> rw [is] <;> rfl
  have up : s.rsq.phase ≠ .mute := by rcases phases with is | is | is | is | is <;> simp [is]
  have answered := exec_beacon_stored (after := after) hears other carrier up read
  obtain ⟨v, stores⟩ : ∃ v, (s.arrived after .beacon).storeBeacon h = (s.arrived after .beacon).stored v h := by
    obtain ⟨e, entry, sent⟩ := PeerView.find_isSome_iff.mp known
    obtain ⟨i, slot⟩ := PeerView.exists_slot entry
    exact ⟨_, State.storeBeacon_updated (s := s.arrived after .beacon) (view.store_updates slot (sent.trans station.symm))⟩
  rw [stores, State.stored, State.handOn] at answered
  have same : Alike (s.arrived after .beacon) ((s.arrived after .beacon).onPvt fun _ => v).formIsolated :=
    (Alike.of_view v _).trans
      (State.formIsolated_alike_of_factory (s := (s.arrived after .beacon).onPvt fun _ => v) term)
  generalize ((s.arrived after .beacon).onPvt fun _ => v).formIsolated = u at answered same
  have sequencer : (u.leanerBeacon h).rsq = { s.rsq with restClock := u.rsq.restClock } := by
    simpa using same.rsq
  have begun (c : Counter) (recalls : recallCounter c = false) (ne : c ≠ .removed .seenAwake) (kind : c ≠ .arrivals .beacon) :
      (u.leanerBeacon h).count c = s.count c := by
    rw [State.count_leanerBeacon_class recalls ne, same.count]
    simp [kind]
  have own : (u.leanerBeacon h).own = s.cfl.station.toNat := by simp [State.own, same.loader]
  have profile : (u.leanerBeacon h).profile = s.profile := by
    have : (u.leanerBeacon h).profile = u.profile := by simp [State.profile, State.image]
    exact this.trans same.profile
  obtain ⟨covered, omits, orphaned⟩ := State.coverBeacon_settled (x := u.leanerBeacon h) (h := h)
    (by rw [sequencer]; exact tested) (by rw [sequencer, station]; exact recorded) (by rw [profile, term])
  rw [own, sequencer] at covered omits orphaned
  refine ⟨_, answered, covered, omits, fun is => ?_⟩
  obtain ⟨wakes, line⟩ := orphaned is
  refine ⟨wakes.congr ⟨by rw [sequencer], by rw [sequencer], by rw [sequencer], by rw [sequencer],
    begun _ rfl (by simp) (by simp), begun _ rfl (by simp) (by simp), begun _ rfl (by simp) (by simp)⟩, fun draining only => ?_⟩
  have empty : u.cvu.book = [] := by
    rw [same.cvu]
    exact only.empty (by simp [draining])
  rw [line draining, State.leanerBeacon_new (by simp [empty]), station]
  exact State.offer_lif_congr same.lif (by rw [same.rsq]) _

end Sys2Proof.Machine
end

section
/-! PROOFS. The own beacon time, its parts: the view's ages, the reports of removals, lapse, and the slot (R45 to R48, R65,
R67, R96, R101, R147). -/

namespace Sys2Proof.Machine

variable {s t u w : State} {c : Counter} {after : Micros} {station : Nat} {stations : List Nat}

theorem exec_ownBeaconTime_due (out : s.held = false) (due : Expired s.lif.beaconTimer s after) :
    exec (.ownBeaconTime after) s = .next (s.elapse after).beaconTimeWork := by
  rw [exec_live _ out, commandWork]
  exact congrArg _ (State.expiring_elapse rfl due)

/-! ## The ages -/

/-- The view aged and its removals counted, ISOLATED still to be formed (R45, R46). -/
def State.agedView (s : State) : State :=
  State.bumpFor .ageRemovals (outlivedStations (ageSlots s.pvt.slots)) (s.onPvt PeerView.ageAll)

theorem State.ageView_eq (s : State) :
    s.ageView = State.reportRemovals (outlivedStations (ageSlots s.pvt.slots)) s.agedView.formIsolated := rfl

@[simp] theorem State.agedView_frame (s : State) :
    s.agedView.lif = s.lif ∧ s.agedView.pvt = s.pvt.ageAll ∧ s.agedView.lde = s.lde ∧ s.agedView.cvu = s.cvu ∧
      s.agedView.rsq = s.rsq ∧ s.agedView.plu = s.plu ∧ s.agedView.clp = s.clp ∧ s.agedView.cfl = s.cfl ∧
      s.agedView.clock = s.clock := by
  simp [State.agedView]

theorem State.count_agedView (c : Counter) (s : State) :
    s.agedView.count c =
      if c = .ageRemovals ∧ outlivedStations (ageSlots s.pvt.slots) ≠ [] then
        min 65535 (s.count c + (outlivedStations (ageSlots s.pvt.slots)).length)
      else s.count c := by
  rw [State.agedView, State.count_bumpFor]
  rfl

theorem State.agedView_profile (s : State) : s.agedView.profile = s.profile := by simp [State.profile, State.image]

/-- The view at an own beacon time, field by field (R44 to R46). -/
theorem PeerView.ageAll_fields (v : PeerView) :
    v.ageAll.slots = dropOutlived (ageSlots v.slots) ∧ v.ageAll.pointer = v.pointer ∧
      v.ageAll.isolated = v.isolated ∧
      (outlivedStations (ageSlots v.slots) = [] → v.ageAll.viewFull = v.viewFull) := by
  unfold PeerView.ageAll
  dsimp only
  split
  next none => exact ⟨rfl, rfl, rfl, fun _ => rfl⟩
  next some =>
    refine ⟨PeerView.clearFull_slots _, PeerView.clearFull_pointer _, PeerView.clearFull_isolated _, fun none => ?_⟩
    simp [none] at some

/-- A removal frees a slot, and with it VIEW_FULL is clear (R44). -/
theorem PeerView.ageAll_viewFull {v : PeerView} (some : outlivedStations (ageSlots v.slots) ≠ []) :
    v.ageAll.viewFull = false := by
  obtain ⟨station, gone⟩ := List.exists_mem_of_ne_nil _ some
  obtain ⟨e, removed, -⟩ := List.mem_map.mp gone
  obtain ⟨entry, old⟩ := List.mem_filter.mp removed
  have held : Option.some e ∈ ageSlots v.slots := by simpa using entry
  have free : PeerView.hasFree { v with slots := dropOutlived (ageSlots v.slots) } = true :=
    List.any_eq_true.mpr ⟨none, List.mem_map.mpr ⟨Option.some e, held, by simp [Option.filter, old]⟩, rfl⟩
  rw [PeerView.ageAll, if_neg (by simpa using some), PeerView.clearFull, if_pos free]

/-- The entries after an own beacon time are the aged ones that stay (R45, R46). -/
theorem PeerView.ageAll_entries (v : PeerView) :
    v.ageAll.entries = (v.entries.map ageEntry).filter fun e => !outlived e := by
  rw [PeerView.entries_eq, v.ageAll_fields.1, entries_dropOutlived, entries_ageSlots, PeerView.entries_eq]

/-- An entry that settlement waits for, or one that is FRESH, has not reached its removal age (R45, R46). -/
theorem outlived_of_fresh {e : ViewEntry} (fresh : e.age ≤ 2) : outlived e = false := by
  unfold outlived removalAge
  split <;> simp <;> omega

/-! ## What a report leaves of the sequencer -/

/-- A report that is no wake: what the removal of leaners' pledges does. -/
structure Reported (s t : State) : Prop where
  rsq : t.rsq = s.rsq
  plu : t.plu = s.plu
  count : ∀ c, recallCounter c = false → c ≠ .removed .leanerLost → t.count c = s.count c
  idle : s.cvu.book = [] → t = s

theorem Reported.refl (s : State) : Reported s s := ⟨rfl, rfl, fun _ _ _ => rfl, fun _ => rfl⟩

theorem Reported.trans (h : Reported s t) (k : Reported t u) : Reported s u where
  rsq := k.rsq.trans h.rsq
  plu := k.plu.trans h.plu
  count c recalls lost := (k.count c recalls lost).trans (h.count c recalls lost)
  idle empty := by
    have same := h.idle empty
    rw [k.idle (by rw [same, empty]), same]

theorem Reported.leanerLost (station : Nat) (s : State) : Reported s (s.leanerLost station) where
  rsq := by simp
  plu := by simp
  count c recalls lost := by
    unfold State.leanerLost
    split
    · exact State.count_removePledge_class _ recalls _ lost
    · rfl
  idle empty := State.leanerLost_new (by simp [empty])

/-- Where no wake is taken, a report removes pledges alone (R96). -/
theorem Reported.reportRemoval_up (draining : s.rsq.phase ≠ .draining) (standby : s.rsq.phase ≠ .standby)
    (deep : s.rsq.phase ≠ .deep) (station : Nat) : Reported s (s.reportRemoval station) := by
  by_cases recorded : s.rsq.cover = some station
  · rw [State.reportRemoval_cover recorded, State.wake_ignored .orphan draining standby deep]
    exact .refl s
  · rw [State.reportRemoval_leaner recorded]
    exact .leanerLost station s

theorem Reported.reportRemovals_up (draining : s.rsq.phase ≠ .draining) (standby : s.rsq.phase ≠ .standby)
    (deep : s.rsq.phase ≠ .deep) (stations : List Nat) : Reported s (s.reportRemovals stations) := by
  induction stations generalizing s with
  | nil => exact .refl s
  | cons station rest ih =>
    have first := Reported.reportRemoval_up draining standby deep station
    rw [← first.rsq] at draining standby deep
    exact first.trans (ih draining standby deep)

/-- Where the recorded cover is not among the removed, the reports remove pledges alone (R67). -/
theorem Reported.reportRemovals_leaners (others : ∀ n ∈ stations, s.rsq.cover ≠ some n) :
    Reported s (s.reportRemovals stations) := by
  induction stations generalizing s with
  | nil => exact .refl s
  | cons station rest ih =>
    have first : Reported s (s.reportRemoval station) := by
      rw [State.reportRemoval_leaner (others station (by simp))]
      exact .leanerLost station s
    refine first.trans (ih fun n mem => ?_)
    rw [first.rsq]
    exact others n (List.mem_cons_of_mem _ mem)

/-! ## What a wake has written stays -/

/-- The phase, the cover and what else a wake writes of the sequencer, and its counts, are those of another state. -/
structure WakeKept (t u : State) : Prop where
  phase : u.rsq.phase = t.rsq.phase
  cover : u.rsq.cover = t.rsq.cover
  drainTimer : u.rsq.drainTimer = t.rsq.drainTimer
  backoff : u.rsq.backoff = t.rsq.backoff
  wakeCause : u.rsq.wakeCause = t.rsq.wakeCause
  wakes : ∀ k, u.count (.wakes k) = t.count (.wakes k)
  orphans : u.count .orphanWakes = t.count .orphanWakes
  failures : u.count .drainFailures = t.count .drainFailures

theorem Orphaned.keep (h : Orphaned s t) (k : WakeKept t u) : Orphaned s u where
  phase := k.phase.trans h.phase
  woken := by simpa only [k.wakeCause, k.wakes, k.orphans] using h.woken
  aborted := by simpa only [k.cover, k.drainTimer, k.backoff, k.failures] using h.aborted
  ignored := by simpa only [k.wakeCause, k.orphans] using h.ignored

theorem RouseWake.keep (h : RouseWake s t) (k : WakeKept t u) : RouseWake s u where
  draining := by simpa only [k.phase, k.cover, k.drainTimer, k.backoff, k.failures] using h.draining
  resting := by simpa only [k.phase, k.cover] using h.resting
  counted := by simpa only [k.wakeCause, k.wakes] using h.counted

theorem WakeKept.trans (h : WakeKept s t) (k : WakeKept t u) : WakeKept s u where
  phase := k.phase.trans h.phase
  cover := k.cover.trans h.cover
  drainTimer := k.drainTimer.trans h.drainTimer
  backoff := k.backoff.trans h.backoff
  wakeCause := k.wakeCause.trans h.wakeCause
  wakes n := (k.wakes n).trans (h.wakes n)
  orphans := k.orphans.trans h.orphans
  failures := k.failures.trans h.failures

theorem Reported.wakeKept (h : Reported s t) : WakeKept s t where
  phase := by rw [h.rsq]
  cover := by rw [h.rsq]
  drainTimer := by rw [h.rsq]
  backoff := by rw [h.rsq]
  wakeCause := by rw [h.rsq]
  wakes k := h.count _ rfl (by simp)
  orphans := h.count _ rfl (by simp)
  failures := h.count _ rfl (by simp)

/-- The cover among the removed is an orphan condition, whatever pledges the other reports remove (R48, R67, R101). -/
theorem State.reportRemovals_orphaned {cover : Nat} (recorded : s.rsq.cover = some cover) (removed : cover ∈ stations) :
    Orphaned s (s.reportRemovals stations) ∧
      (s.cvu.book = [] → s.rsq.phase = .draining →
        (s.reportRemovals stations).lif = (s.offer (.resume cover s.rsq.tag)).lif) := by
  induction stations generalizing s with
  | nil => simp at removed
  | cons station rest ih =>
    rw [State.reportRemovals]
    by_cases is : station = cover
    · subst is
      obtain ⟨draining, standby, deep⟩ := State.wake_leaves .orphan s
      have rest := Reported.reportRemovals_up draining standby deep rest
      rw [State.reportRemoval_cover recorded]
      refine ⟨s.orphanWake.keep rest.wakeKept, fun empty draining => ?_⟩
      rw [rest.idle (by simp [empty]), State.wake_lif_of_draining (by decide) draining recorded]
    · rw [State.reportRemoval_leaner (by rw [recorded]; simpa using Ne.symm is)]
      have first := Reported.leanerLost station s
      obtain ⟨orphaned, line⟩ := ih (s := s.leanerLost station) (by rw [first.rsq, recorded])
        ((List.mem_cons.mp removed).resolve_left (Ne.symm is))
      refine ⟨orphaned.congr ⟨by rw [first.rsq], by rw [first.rsq], by rw [first.rsq], by rw [first.rsq],
        first.count _ rfl (by simp), first.count _ rfl (by simp), first.count _ rfl (by simp)⟩, fun empty draining => ?_⟩
      have same := first.idle empty
      rw [same] at line ⊢
      exact line empty draining

/-! ## Lapse and the slot -/

theorem State.count_lapsePledges (c : Counter) (s : State) :
    s.lapsePledges.count c =
      if c = .removed .lapsed ∧ (s.cvu.book.map agePledge).filter lapses ≠ [] then
        min 65535 (s.count c + ((s.cvu.book.map agePledge).filter lapses).length)
      else s.count c := by
  unfold State.lapsePledges
  dsimp only
  rw [State.count_bumpFor]
  rfl

theorem State.lapsePledges_cvu (s : State) :
    s.lapsePledges.cvu = { s.cvu with book := (s.cvu.book.map agePledge).filter fun p => !lapses p } := by
  unfold State.lapsePledges
  simp

/-- What an offer leaves queued is decided by the queue and by whether the phase is silent. -/
theorem State.offer_queue_congr (queue : t.lif.queue = s.lif.queue) (silent : t.silent ↔ s.silent) (n : Notice) :
    (t.offer n).lif.queue = (s.offer n).lif.queue := by
  have joins : (t.enqueue n).lif.queue = (s.enqueue n).lif.queue := by
    unfold State.enqueue
    rw [queue]
    repeat' split
    all_goals simp [queue]
  unfold State.silent at silent
  unfold State.offer
  by_cases quiet : s.rsq.phase = .mute ∨ s.rsq.phase = .loading
  · rw [if_pos (silent.mpr quiet), if_pos quiet, queue]
  · rw [if_neg (mt silent.mp quiet), if_neg quiet, queue]
    repeat' split
    all_goals simp [queue, joins]

/-- Outside STANDBY the Rest Sequencer has no work of its own before the slot (R114). -/
theorem State.standbyBeaconWork_of_ne (other : s.rsq.phase ≠ .standby) : s.standbyBeaconWork = s := by
  have settles : s.countSettle = s := if_neg other
  have wakes : s.settleWake = s := if_neg fun both => other both.1
  rw [State.standbyBeaconWork, settles, wakes]
  exact if_neg fun both => other both.1

/-- Outside DEEP the slot is placed (R115). -/
theorem State.placeBeacon_of_ne (other : s.rsq.phase ≠ .deep) : s.placeBeacon = s.offer .beacon := if_neg other

/-- The work that follows the reports: lapse, the Rest Sequencer's, the slot (R147). -/
def State.closeBeaconTime (s : State) : State := s.lapsePledges.standbyBeaconWork.placeBeacon

theorem State.beaconTimeWork_eq (s : State) : s.beaconTimeWork = s.nextBeacon.ageView.closeBeaconTime := rfl

/-- In a phase that takes no wake it lapses pledges and places the slot. -/
theorem State.closeBeaconTime_of_up (standby : s.rsq.phase ≠ .standby) (deep : s.rsq.phase ≠ .deep) :
    s.closeBeaconTime = s.lapsePledges.offer .beacon := by
  rw [State.closeBeaconTime, State.standbyBeaconWork_of_ne (by simpa using standby),
    State.placeBeacon_of_ne (by simpa using deep)]

theorem WakeKept.closeBeaconTime (standby : s.rsq.phase ≠ .standby) (deep : s.rsq.phase ≠ .deep) :
    WakeKept s s.closeBeaconTime := by
  rw [State.closeBeaconTime_of_up standby deep]
  refine ⟨by simp, by simp, by simp, by simp, by simp, fun k => ?_, ?_, ?_⟩
  all_goals
    rw [State.count_offer_other rfl, State.count_lapsePledges, if_neg (by simp)]

end Sys2Proof.Machine
end

section
/-! PROOFS. The Rest Sequencer's work at an own beacon time: settlement, the settle wake, the deep decision, the doze beacon
(R108, R112, R114, R115, R117; O54). -/

namespace Sys2Proof.Machine

variable {s l : State} {after : Micros}

/-! ## Settlement at a beacon time -/

theorem State.countSettle_standby (standby : s.rsq.phase = .standby) :
    s.countSettle =
      (s.onRsq fun q => { q with settleCount := min Config.settleLimit (q.settleCount + 1) }).formSettled :=
  if_pos standby

/-- Settlement as an own beacon time in STANDBY forms it: whether UNSETTLED holds (R108). -/
def State.unsettledNow (s : State) : Bool :=
  !s.pvt.allSeen && min Config.settleLimit (s.rsq.settleCount + 1) == Config.settleLimit

/-- Step 1 of the beacon-time work in STANDBY, at a station whose rouse term is never true (R108, R114). -/
theorem State.countSettle_writes (standby : s.rsq.phase = .standby)
    (term : s.profile.rouse = { code := 15, inverted := true }) :
    s.countSettle.rsq =
        { s.rsq with
          settleCount := min Config.settleLimit (s.rsq.settleCount + 1), settled := s.pvt.allSeen
          unsettled := s.unsettledNow, restClock := s.countSettle.rsq.restClock } ∧
      s.countSettle.lif = s.lif ∧ s.countSettle.profile = s.profile ∧
      ∀ c, s.countSettle.count c =
        if c = .unsettledRaisings ∧ s.unsettledNow = true ∧ s.rsq.unsettled = false then min 65535 (s.count c + 1)
        else s.count c := by
  have counted : s.countSettle = _ := State.countSettle_standby standby
  generalize begun : (s.onRsq fun q => { q with settleCount := min Config.settleLimit (q.settleCount + 1) }) = x at counted
  have profile : x.profile = s.profile := by rw [← begun]; rfl
  have unsettled : x.rsq.unsettled = s.rsq.unsettled := by rw [← begun]; rfl
  have now : (!x.pvt.allSeen && x.rsq.settleCount == Config.settleLimit) = s.unsettledNow := by rw [← begun]; rfl
  have inStandby : x.rsq.phase = .standby := by rw [← begun]; exact standby
  by_cases same : x.rsq.unsettled = s.unsettledNow
  · have written := counted.trans (State.formSettled_same inStandby (same.trans now.symm))
    have stays : s.rsq.unsettled = s.unsettledNow := unsettled.symm.trans same
    rw [written, ← begun]
    refine ⟨?_, rfl, rfl, fun c => ?_⟩
    · rw [← stays]
      rfl
    · rw [if_neg (by rw [← stays]; rintro ⟨-, high, low⟩; rw [high] at low; cases low)]
      rfl
  · have written := counted.trans (State.formSettled_changes inStandby (now ▸ same))
    have quiet : (x.settlementWritten (!x.rsq.unsettled)).profile = s.profile := by
      rw [← profile]
      cases x.rsq.unsettled <;> rfl
    have turned : s.unsettledNow = !s.rsq.unsettled := by
      rw [unsettled] at same
      revert same
      cases s.rsq.unsettled <;> cases s.unsettledNow <;> simp
    rw [State.formTerms_of_false (State.testTerm_factory (quiet ▸ term))] at written
    have alike := (x.settlementWritten (!x.rsq.unsettled)).formValues_alike
    rw [← written] at alike
    refine ⟨?_, ?_, alike.profile.trans quiet, fun c => ?_⟩
    · rw [alike.rsq, unsettled, turned, ← begun]
      cases s.rsq.unsettled <;> rfl
    · rw [alike.lif, unsettled, ← begun]
      cases s.rsq.unsettled <;> rfl
    · rw [alike.count, unsettled, turned, ← begun]
      cases s.rsq.unsettled
      · by_cases raising : c = .unsettledRaisings
        · simp [State.settlementWritten, doWhen, raising, saturatingSucc, Config.counterLimit]
        · simp [State.settlementWritten, doWhen, State.count_bump, raising]
      · simp [State.settlementWritten, doWhen]

/-- Settlement waits for no entry: each fresh awake-side entry has its seen-us mark set (R107). -/
theorem PeerView.allSeen_iff_settled {v : PeerView} :
    v.allSeen = true ↔
      ∀ e ∈ v.entries, e.age ≤ 2 →
        (e.phase = .awake ∨ e.phase = .seeking ∨ e.phase = .draining ∨ e.phase = .waking ∨ e.phase = .warming) →
        e.seenUs = true := by
  rw [PeerView.allSeen_iff]
  refine forall₂_congr fun e _ => ?_
  rw [Unheard, not_and, not_and]
  simp only [Bool.not_eq_false]

/-! ## Before it -/

/-- The state in which the Rest Sequencer's work begins, when no entry is removed. -/
def State.lapsedView (s : State) : State := s.nextBeacon.ageView.lapsePledges

/-- An own beacon time without removals, up to the Rest Sequencer's work (R45, R53, R65). -/
structure BeaconBegun (s l : State) (after : Micros) : Prop where
  rsq : l.rsq = { (s.elapse after).rsq with restClock := l.rsq.restClock }
  measured : l.rsq.restClock.measured = (s.elapse after).rsq.restClock.measured
  queue : l.lif.queue = s.lif.queue
  entries : l.pvt.entries = (s.pvt.slots.filterMap id).map ageEntry
  count : ∀ c, c ≠ .removed .lapsed → l.count c = s.count c
  profile : l.profile = s.profile
  loader : l.cfl = s.cfl

theorem BeaconBegun.lapsedView (term : s.profile.rouse = { code := 15, inverted := true })
    (none : outlivedStations (ageSlots s.pvt.slots) = []) : BeaconBegun s (s.elapse after).lapsedView after := by
  have aged : (s.elapse after).nextBeacon.ageView = (s.elapse after).nextBeacon.agedView.formIsolated := by
    have removed : outlivedStations (ageSlots (s.elapse after).nextBeacon.pvt.slots) = [] := none
    rw [State.ageView_eq, removed]
    rfl
  have profile : (s.elapse after).nextBeacon.agedView.profile = s.profile := by simp [State.profile, State.image]
  have same := State.formIsolated_alike_of_factory (profile ▸ term)
  rw [← aged] at same
  have young : ((ageSlots s.pvt.slots).filterMap id).filter outlived = [] := List.map_eq_nil_iff.mp none
  refine ⟨?_, ?_, ?_, ?_, fun c lapsed => ?_, ?_, ?_⟩
  · simpa [State.lapsedView] using same.rsq
  · simp [State.lapsedView]
  · simp [State.lapsedView, same.lif]
  · have view : (s.elapse after).lapsedView.pvt.entries = s.pvt.ageAll.entries := by
      simp [State.lapsedView, aged, State.formIsolated_pvt, PeerView.entries]
    rw [view, PeerView.ageAll_entries, List.filter_eq_self.mpr]
    · rfl
    · intro e entry
      rw [entries_ageSlots] at young
      simpa using List.filter_eq_nil_iff.mp young e entry
  · rw [State.lapsedView, State.count_lapsePledges, if_neg (by simp [lapsed]), same.count, State.count_agedView]
    exact if_neg fun both => both.2 none
  · rw [← profile, ← same.profile]
    simp [State.lapsedView, State.profile, State.image]
  · simp [State.lapsedView]

/-! ## The settle wake and the deep decision -/

/-- How many entries are FRESH and AWAKE, and how many resting ones come before a station in the settle wake's order (R116,
R117). -/
def awakeCount (entries : List ViewEntry) : Nat :=
  (entries.filter fun e => decide (e.age ≤ 2) && e.phase == .awake).length

def aboveCount (station : Nat) (entries : List ViewEntry) : Nat :=
  (entries.filter fun e => decide (e.age ≤ 2) && e.phase == .standby && decide (station < e.station)).length

theorem State.settleWakeTakes_iff (s : State) :
    s.settleWakeTakes = true ↔
      awakeCount s.pvt.entries < s.profile.awakeFloor ∧
        aboveCount s.own s.pvt.entries < s.profile.awakeFloor - awakeCount s.pvt.entries := by
  rw [State.settleWakeTakes, Bool.and_eq_true, decide_eq_true_iff, decide_eq_true_iff]
  rfl

/-- The lookup in an aged view without removals (R45). -/
theorem PeerView.find_aged {v w : PeerView} (entries : w.entries = v.entries.map ageEntry) (station : Nat) :
    w.find station = (v.find station).map ageEntry := by
  rw [PeerView.find, entries, List.find?_map]
  rfl

theorem State.coverIsAnchor_iff {v : PeerView} (entries : s.pvt.entries = v.entries.map ageEntry) :
    s.coverIsAnchor = true ↔ ∃ cover e, s.rsq.cover = some cover ∧ v.find cover = some e ∧ e.role = .anchor := by
  unfold State.coverIsAnchor
  cases s.rsq.cover with
  | none => simp
  | some cover =>
    simp only [PeerView.find_aged entries]
    cases found : v.find cover with
    | none => simp [found]
    | some e => simp [found, ageEntry]

theorem State.deepReady_iff {v : PeerView} (entries : s.pvt.entries = v.entries.map ageEntry) :
    s.deepReady = true ↔
      0 < s.profile.deepDwell ∧ 60 * s.profile.deepDwell ≤ s.rsq.restClock.measured / 1000000 ∧ s.rsq.settled = true ∧
        ∃ cover e, s.rsq.cover = some cover ∧ v.find cover = some e ∧ e.role = .anchor := by
  rw [State.deepReady, Bool.and_eq_true, Bool.and_eq_true, Bool.and_eq_true, decide_eq_true_iff, decide_eq_true_iff,
    State.coverIsAnchor_iff entries, and_assoc, and_assoc]
  rfl

/-- The settle wake taken: the rest ends, and no deep decision is made (R117). -/
theorem State.decideDeep_woken (standby : s.rsq.phase = .standby) (takes : s.settleWakeTakes = true) :
    s.settleWake.decideDeep = s.wake .settle := by
  rw [State.settleWake, if_pos ⟨standby, takes⟩]
  exact if_neg fun both => (State.wake_leaves .settle s).2.1 both.1

theorem State.settleWake_stays (stays : ¬s.settleWakeTakes = true) : s.settleWake = s := if_neg fun both => stays both.2

/-- The deep decision, by its conditions (R112). -/
theorem State.decideDeep_writes (standby : s.rsq.phase = .standby) :
    s.decideDeep.rsq =
        { s.rsq with darkGiven := s.rsq.darkGiven || s.deepReady } ∧
      s.decideDeep.lif = s.lif ∧
      ∀ c, s.decideDeep.count c =
        if c = .deepDecisions ∧ s.rsq.darkGiven = false ∧ s.deepReady = true then min 65535 (s.count c + 1)
        else s.count c := by
  unfold State.decideDeep
  cases dark : s.rsq.darkGiven with
  | true =>
    rw [if_neg (by simp)]
    refine ⟨?_, rfl, fun c => by simp⟩
    rw [Bool.true_or, ← dark]
  | false =>
    cases ready : s.deepReady with
    | true =>
      rw [if_pos ⟨standby, rfl, rfl⟩]
      refine ⟨rfl, rfl, fun c => ?_⟩
      rw [State.count_bump]
      simp [saturatingSucc, Config.counterLimit]
    | false =>
      rw [if_neg (by simp)]
      refine ⟨?_, rfl, fun c => by simp⟩
      rw [Bool.false_or, ← dark]

/-! ## The three cases -/

section
variable (h : BeaconBegun s l after)
include h

theorem BeaconBegun.phase : l.rsq.phase = s.rsq.phase := by rw [h.rsq]; rfl

/-- An offer of the beacon slot queues what it would queue at once. -/
theorem BeaconBegun.offer_queue {t : State} (queue : t.lif.queue = l.lif.queue) (silent : t.silent ↔ s.silent) :
    (t.offer .beacon).lif.queue = ((s.elapse after).offer .beacon).lif.queue :=
  State.offer_queue_congr (s := s.elapse after) (queue.trans h.queue) silent _

/-- In DEEP the doze count rises, and at 0 the slot is placed and counted (R115). -/
theorem BeaconBegun.deep (deep : s.rsq.phase = .deep) :
    let t := l.standbyBeaconWork.placeBeacon
    t.rsq.phase = .deep ∧ t.rsq.doze = (s.rsq.doze + 1) % 4 ∧
      (s.rsq.doze ≠ 0 → t.lif.queue = s.lif.queue ∧ t.count .dozeBeacons = s.count .dozeBeacons) ∧
      (s.rsq.doze = 0 →
        t.lif.queue = ((s.elapse after).offer .beacon).lif.queue ∧
        t.count .dozeBeacons = min 65535 (s.count .dozeBeacons + 1)) := by
  have phase : l.rsq.phase = .deep := h.phase.trans deep
  have doze : l.rsq.doze = s.rsq.doze := by rw [h.rsq]; rfl
  rw [State.standbyBeaconWork_of_ne (by simp [phase]), State.placeBeacon, if_pos phase, doze]
  dsimp only
  by_cases zero : s.rsq.doze = 0
  · rw [if_pos zero]
    refine ⟨by simp [phase], by simp [doze], fun other => absurd zero other, fun _ => ⟨?_, ?_⟩⟩
    · refine h.offer_queue rfl ?_
      simp [State.silent, phase, deep]
    · rw [State.count_offer_other rfl, State.count_bump_same]
      exact congrArg (saturatingSucc 65535) (h.count .dozeBeacons (by simp))
  · rw [if_neg zero]
    exact ⟨phase, by simp [doze], fun _ => ⟨h.queue, h.count _ (by simp)⟩, fun is => absurd is zero⟩

/-- Outside STANDBY and DEEP the slot alone is placed (R114, R115). -/
theorem BeaconBegun.other (standby : s.rsq.phase ≠ .standby) (deep : s.rsq.phase ≠ .deep) :
    let t := l.standbyBeaconWork.placeBeacon
    t.rsq.phase = s.rsq.phase ∧ t.rsq.cover = s.rsq.cover ∧
      t.lif.queue = ((s.elapse after).offer .beacon).lif.queue := by
  rw [State.standbyBeaconWork_of_ne (by simpa [h.phase] using standby),
    State.placeBeacon_of_ne (by simpa [h.phase] using deep)]
  have cover : l.rsq.cover = s.rsq.cover := by rw [h.rsq]; rfl
  exact ⟨by simp [h.phase], by simp [cover], h.offer_queue rfl (by simp [State.silent, h.phase])⟩

section
variable (term : s.profile.rouse = { code := 15, inverted := true }) (standby : s.rsq.phase = .standby)
include term standby

/-- What step 1 of the work in STANDBY leaves (R108, R114). -/
theorem BeaconBegun.countSettle :
    l.countSettle.rsq =
        { l.rsq with
          settleCount := min 8 (s.rsq.settleCount + 1), settled := l.pvt.allSeen, unsettled := l.unsettledNow
          restClock := l.countSettle.rsq.restClock } ∧
      l.countSettle.lif = l.lif ∧ l.countSettle.profile = s.profile ∧
      ∀ c, c ≠ .removed .lapsed → l.countSettle.count c =
        if c = .unsettledRaisings ∧ l.unsettledNow = true ∧ s.rsq.unsettled = false then min 65535 (s.count c + 1)
        else s.count c := by
  obtain ⟨rsq, line, profile, count⟩ := State.countSettle_writes (s := l) (h.phase.trans standby) (by rw [h.profile, term])
  have limit : l.rsq.settleCount = s.rsq.settleCount := by rw [h.rsq]; rfl
  have unsettled : l.rsq.unsettled = s.rsq.unsettled := by rw [h.rsq]; rfl
  refine ⟨?_, line, profile.trans h.profile, fun c lapsed => ?_⟩
  · rw [limit] at rsq
    exact rsq
  · rw [count, unsettled, h.count c lapsed]

/-- The settle wake taken in STANDBY, and the slot after it (R114, R117). -/
theorem BeaconBegun.standby_wakes (takes : l.countSettle.settleWakeTakes = true) :
    let t := l.standbyBeaconWork.placeBeacon
    t.rsq.settleCount = min 8 (s.rsq.settleCount + 1) ∧
      t.lif.queue = ((s.elapse after).offer .beacon).lif.queue ∧
      t.count .unsettledRaisings = l.countSettle.count .unsettledRaisings ∧
      t.count (.wakes .settle) = min 65535 (s.count (.wakes .settle) + 1) ∧
      t.count .deepDecisions = s.count .deepDecisions ∧
      t.rsq.phase = (if s.rsq.darkGiven then .warming else .waking) ∧ t.rsq.wakeCause = some .settle ∧
      t.rsq.darkGiven = s.rsq.darkGiven ∧ t.rsq.settled = false ∧ t.rsq.unsettled = false := by
  obtain ⟨rsq, line, -, count⟩ := h.countSettle term standby
  have phase : l.countSettle.rsq.phase = .standby := by rw [rsq]; exact h.phase.trans standby
  have dark : l.countSettle.rsq.darkGiven = s.rsq.darkGiven := by rw [rsq, h.rsq]; rfl
  have limit : l.countSettle.rsq.settleCount = min 8 (s.rsq.settleCount + 1) := by rw [rsq]
  have woken := State.wake_resting_rsq .settle (.inl phase)
  have same (c : Counter) (other : queueCounter c = false) : ((l.countSettle.wake .settle).offer .beacon).count c =
      (l.countSettle.wake .settle).count c := State.count_offer_other other _
  rw [State.standbyBeaconWork, State.decideDeep_woken phase takes,
    State.placeBeacon_of_ne (State.wake_leaves .settle _).2.2]
  have shows : (l.countSettle.wake .settle).rsq.phase = if s.rsq.darkGiven then .warming else .waking := by
    rw [woken, phase, dark]
    cases s.rsq.darkGiven <;> simp
  refine ⟨by simp [limit], h.offer_queue ?queue ?silent, ?raisings, ?wakes, ?deep, by simpa using shows, by simp [woken],
    by simpa using dark, by simp [woken], by simp [woken]⟩
  case queue => rw [State.wake_lif_of_resting .settle (.inl phase), line]
  case silent =>
    rw [State.silent, State.silent, shows, standby]
    cases s.rsq.darkGiven <;> simp
  case raisings => rw [same _ rfl, State.count_wake_class _ rfl]
  case wakes => rw [same _ rfl, State.count_wakes .settle (.inr (.inl phase)), count _ (by simp), if_neg (by simp)]
  case deep => rw [same _ rfl, State.count_wake_class _ rfl, count _ (by simp), if_neg (by simp)]

/-- No settle wake in STANDBY: the deep decision, and the slot (R112, R114). -/
theorem BeaconBegun.standby_stays (stays : ¬l.countSettle.settleWakeTakes = true) :
    let t := l.standbyBeaconWork.placeBeacon
    t.rsq.settleCount = min 8 (s.rsq.settleCount + 1) ∧
      t.lif.queue = ((s.elapse after).offer .beacon).lif.queue ∧
      t.count .unsettledRaisings = l.countSettle.count .unsettledRaisings ∧
      t.rsq.phase = .standby ∧ t.rsq.settled = l.pvt.allSeen ∧ t.rsq.unsettled = l.unsettledNow ∧
      t.count (.wakes .settle) = s.count (.wakes .settle) ∧
      t.rsq.darkGiven = (s.rsq.darkGiven || l.countSettle.deepReady) ∧
      t.count .deepDecisions =
        if s.rsq.darkGiven = false ∧ l.countSettle.deepReady = true then min 65535 (s.count .deepDecisions + 1)
        else s.count .deepDecisions := by
  obtain ⟨rsq, line, -, count⟩ := h.countSettle term standby
  have phase : l.countSettle.rsq.phase = .standby := by rw [rsq]; exact h.phase.trans standby
  have dark : l.countSettle.rsq.darkGiven = s.rsq.darkGiven := by rw [rsq, h.rsq]; rfl
  obtain ⟨decided, same, counted⟩ := State.decideDeep_writes phase
  rw [State.standbyBeaconWork, State.settleWake_stays stays, State.placeBeacon_of_ne (by simp [phase])]
  have limit : l.countSettle.rsq.settleCount = min 8 (s.rsq.settleCount + 1) := by rw [rsq]
  have seen : l.countSettle.rsq.settled = l.pvt.allSeen := by rw [rsq]
  have unsettled : l.countSettle.rsq.unsettled = l.unsettledNow := by rw [rsq]
  refine ⟨by simp [limit], h.offer_queue (by rw [same, line]) ?silent, ?raisings, by simp [phase], by simp [seen],
    by simp [unsettled], ?wakes, ?dark, ?deep⟩
  case dark =>
    have kept : (l.countSettle.decideDeep.offer .beacon).rsq = l.countSettle.decideDeep.rsq := by simp
    rw [kept, decided, dark]
  case silent => simp [State.silent, phase, standby]
  case raisings => rw [State.count_offer_other rfl, counted, if_neg (by simp)]
  case wakes => rw [State.count_offer_other rfl, counted, if_neg (by simp), count _ (by simp), if_neg (by simp)]
  case deep =>
    rw [State.count_offer_other rfl, counted, dark, count _ (by simp), if_neg (c := _ ∧ l.unsettledNow = true ∧ _) (by simp)]
    simp

end

end

/-- Settles O54: the count of beacon times, then the settle wake or the deep decision, then the slot. -/
theorem beaconTimeRestWork : Obligations.BeaconTimeRestWork := by
  intro after s out due term none
  have h : BeaconBegun s (s.elapse after).lapsedView after := BeaconBegun.lapsedView term none
  refine ⟨_, exec_ownBeaconTime_due out due, ?_⟩
  have work : (s.elapse after).beaconTimeWork = (s.elapse after).lapsedView.standbyBeaconWork.placeBeacon := rfl
  rw [work]
  generalize (s.elapse after).lapsedView = l at h
  refine ⟨fun standby => ?standby, h.deep, h.other⟩
  have takes : l.countSettle.settleWakeTakes = true ↔ _ := State.settleWakeTakes_iff _
  obtain ⟨rsq, -, profile, count⟩ := h.countSettle term standby
  have entries : l.countSettle.pvt.entries = s.pvt.entries.map ageEntry := by simpa [PeerView.entries] using h.entries
  have own : l.countSettle.own = s.cfl.station.toNat := by simp [State.own, h.loader]
  have measured : l.countSettle.rsq.restClock.measured = (s.elapse after).rsq.restClock.measured := by
    simpa using h.measured
  have cover : l.countSettle.rsq.cover = s.rsq.cover := by rw [rsq, h.rsq]; rfl
  have ready := State.deepReady_iff (s := l.countSettle) (v := s.pvt) entries
  have settled := PeerView.allSeen_iff_settled (v := l.pvt)
  rw [h.entries] at settled
  rw [entries, own, profile] at takes
  have seen : l.countSettle.rsq.settled = l.pvt.allSeen := by rw [rsq]
  rw [profile, measured, cover, seen, settled] at ready
  have now : l.unsettledNow = true ↔ ¬l.pvt.allSeen = true ∧ 7 ≤ s.rsq.settleCount := by
    have limit : l.rsq.settleCount = s.rsq.settleCount := by rw [h.rsq]; rfl
    rw [State.unsettledNow, limit]
    simp [Config.settleLimit]
  rw [settled] at now
  have raisings := count .unsettledRaisings (by simp)
  simp only [true_and, now] at raisings
  by_cases wakes : l.countSettle.settleWakeTakes = true
  · obtain ⟨limit, queue, raised, settle, deep, phase, cause, dark, ended, quiet⟩ := h.standby_wakes term standby wakes
    refine ⟨limit, queue, fun is => ?_, fun is => ?_, fun _ => ⟨settle, deep, phase, cause, dark, ended, quiet⟩,
      fun not => absurd (takes.mp wakes) not⟩
    · rw [raised, raisings, if_pos ⟨⟨is.1, is.2.1⟩, is.2.2⟩]
    · rw [raised, raisings, if_neg fun both => is ⟨both.1.1, both.1.2, both.2⟩]
  · obtain ⟨limit, queue, raised, phase, formed, unsettled, settle, dark, deep⟩ := h.standby_stays term standby wakes
    refine ⟨limit, queue, fun is => ?_, fun is => ?_, fun is => absurd (takes.mpr is) wakes, fun _ =>
      ⟨phase, by rw [formed]; exact settled, by rw [unsettled]; exact now, settle, ?_, fun light is => ?_, fun not => ?_⟩⟩
    · rw [raised, raisings, if_pos ⟨⟨is.1, is.2.1⟩, is.2.2⟩]
    · rw [raised, raisings, if_neg fun both => is ⟨both.1.1, both.1.2, both.2⟩]
    · rw [dark, Bool.or_eq_true, ready]
    · rw [deep, if_pos ⟨light, ready.mpr is⟩]
    · rw [deep, if_neg fun both => not ⟨both.1, ready.mp both.2⟩]

end Sys2Proof.Machine
end

section
/-! PROOFS. The pledges of leaners whose entries are removed at an own beacon time (R67, R70, R74; for O53). -/

namespace Sys2Proof.Machine

variable {s : State} {p : Pledge} {stations : List Nat} {cover : Option Nat}

/-- A station is reported to the Cover Unit as lost: its entry is removed, and it is not the recorded cover (R48, R67). -/
def lostLeaner (cover : Option Nat) (stations : List Nat) (n : Nat) : Bool := cover != some n && stations.contains n

theorem lostLeaner_iff {n : Nat} : lostLeaner cover stations n = true ↔ cover ≠ some n ∧ n ∈ stations := by
  simp [lostLeaner]

theorem lostLeaner_nil (cover : Option Nat) (n : Nat) : lostLeaner cover [] n = false := by simp [lostLeaner]

/-- The cover's own removal loses no leaner. -/
theorem lostLeaner_cons_cover {station : Nat} (n : Nat) :
    lostLeaner (some station) (station :: stations) n = lostLeaner (some station) stations n := by
  rw [Bool.eq_iff_iff, lostLeaner_iff, lostLeaner_iff, List.mem_cons]
  refine and_congr_right fun other => or_iff_right fun same => other (by rw [same])

theorem lostLeaner_cons {station : Nat} (other : cover ≠ some station) (n : Nat) :
    lostLeaner cover (station :: stations) n = (n == station || lostLeaner cover stations n) := by
  rw [Bool.eq_iff_iff, Bool.or_eq_true, beq_iff_eq, lostLeaner_iff, lostLeaner_iff, List.mem_cons]
  constructor
  · rintro ⟨ne, rfl | mem⟩
    · exact .inl rfl
    · exact .inr ⟨ne, mem⟩
  · rintro (rfl | ⟨ne, mem⟩)
    · exact ⟨other, .inl rfl⟩
    · exact ⟨ne, .inr mem⟩

/-! ## The reports in AWAKE -/

/-- In AWAKE the cover's removal is no orphan condition (R101). -/
theorem State.reportRemoval_awake_cover {station : Nat} (awake : s.rsq.phase = .awake)
    (recorded : s.rsq.cover = some station) : s.reportRemoval station = s := by
  rw [State.reportRemoval_cover recorded,
    State.wake_ignored .orphan (by simp [awake]) (by simp [awake]) (by simp [awake])]

/-- How many of a book's leaners a list of removals takes, one removal after the other. -/
theorem lost_length_cons {leaners : List Nat} {station : Nat} (each : leaners.Nodup) (held : station ∈ leaners)
    (other : cover ≠ some station) :
    (leaners.filter (lostLeaner cover (station :: stations))).length =
      1 + ((leaners.filter (· != station)).filter (lostLeaner cover stations)).length := by
  have taken : (leaners.filter (· == station)).length = 1 := by
    rw [← List.countP_eq_length_filter]
    exact List.count_eq_one_of_mem each held
  rw [List.length_eq_length_filter_add (l := leaners.filter (lostLeaner cover (station :: stations))) (· == station),
    List.filter_filter, List.filter_filter, List.filter_filter, ← taken]
  congr 1
  · refine congrArg List.length (List.filter_congr fun n _ => ?_)
    rw [lostLeaner_cons other]
    cases n == station <;> simp
  · refine congrArg List.length (List.filter_congr fun n _ => ?_)
    rw [lostLeaner_cons other, bne]
    cases n == station <;> simp

/-- The lost leaners are counted, one each (R67, R75). -/
theorem BookKept.count_reportRemovals (kept : BookKept s.cvu.book) (awake : s.rsq.phase = .awake) :
    (s.reportRemovals stations).count (.removed .leanerLost) =
      if s.cvu.leaners.filter (lostLeaner s.rsq.cover stations) = [] then s.count (.removed .leanerLost)
      else
        min 65535 (s.count (.removed .leanerLost) + (s.cvu.leaners.filter (lostLeaner s.rsq.cover stations)).length) := by
  induction stations generalizing s with
  | nil => simp [State.reportRemovals, lostLeaner_nil]
  | cons station rest ih =>
    rw [State.reportRemovals]
    by_cases recorded : s.rsq.cover = some station
    · have same : lostLeaner s.rsq.cover (station :: rest) = lostLeaner s.rsq.cover rest := by
        rw [recorded]
        exact funext fun n => lostLeaner_cons_cover n
      rw [State.reportRemoval_awake_cover awake recorded, same]
      exact ih kept awake
    rw [State.reportRemoval_leaner recorded]
    have after := Reported.leanerLost station s
    have next := ih (s := s.leanerLost station) (kept.leanerLost station) (by rw [after.rsq, awake])
    rw [State.leanerLost_leaners, after.rsq] at next
    by_cases held : station ∈ s.cvu.leaners
    · obtain ⟨p, pledged, rfl⟩ := List.mem_map.mp held
      have taken := lost_length_cons (leaners := s.cvu.leaners) (stations := rest) kept.oneEach held recorded
      have some : s.cvu.leaners.filter (lostLeaner s.rsq.cover (p.leaner :: rest)) ≠ [] := by
        intro none
        rw [none] at taken
        simp at taken
        omega
      rw [next, if_neg some, taken, kept.leanerLost_eq pledged, State.count_removePledge]
      split
      next none => simp [none]
      next => omega
    · have same : s.leanerLost station = s := State.leanerLost_new fun p pledged is =>
        held (List.mem_map.mpr ⟨p, pledged, is⟩)
      have filtered : s.cvu.leaners.filter (lostLeaner s.rsq.cover (station :: rest)) =
          (s.cvu.leaners.filter (· != station)).filter (lostLeaner s.rsq.cover rest) := by
        rw [List.filter_filter]
        refine List.filter_congr fun n mem => ?_
        have ne : n ≠ station := fun is => held (is ▸ mem)
        rw [lostLeaner_cons recorded, bne, beq_false_of_ne ne]
        simp
      rw [filtered, next, same]

/-- Where no call of theirs ends in continuous-recall mode, the lost leaners' pledges leave the book, and nothing else
happens to it (R67, R70, R74). -/
theorem BookKept.reportRemovals_cvu (kept : BookKept s.cvu.book) (awake : s.rsq.phase = .awake)
    (quiet : s.continuousRecall = false ∨
      ∀ p ∈ s.cvu.book, lostLeaner s.rsq.cover stations p.leaner = true → p.state ≠ .called) :
    (s.reportRemovals stations).cvu =
      { s.cvu with
        book := s.cvu.book.filter fun p => !lostLeaner s.rsq.cover stations p.leaner
        recallTimer :=
          if s.cvu.book.any (fun p => lostLeaner s.rsq.cover stations p.leaner && p.state == .called) then none
          else s.cvu.recallTimer } := by
  induction stations generalizing s with
  | nil => simp [State.reportRemovals, lostLeaner_nil]
  | cons station rest ih =>
    rw [State.reportRemovals]
    by_cases recorded : s.rsq.cover = some station
    · have same : lostLeaner s.rsq.cover (station :: rest) = lostLeaner s.rsq.cover rest := by
        rw [recorded]
        exact funext fun n => lostLeaner_cons_cover n
      rw [same] at quiet ⊢
      rw [State.reportRemoval_awake_cover awake recorded]
      exact ih kept awake quiet
    rw [State.reportRemoval_leaner recorded]
    simp only [lostLeaner_cons recorded] at quiet ⊢
    by_cases held : ∃ p ∈ s.cvu.book, p.leaner = station
    · obtain ⟨p, pledged, rfl⟩ := held
      have alone : p.state = .called → s.continuousRecall = false ∨ s.cvu.book = [p] := fun called =>
        quiet.imp_right fun none => absurd called (none p pledged (by simp))
      have released : s.leanerLost p.leaner = s.released p .leanerLost :=
        (kept.leanerLost_eq pledged).trans (State.removePledge_alone alone)
      have book : BookKept (s.released p .leanerLost).cvu.book := released ▸ kept.leanerLost p.leaner
      rw [released, ih book awake (quiet.imp_right fun none q mem lost =>
        none q (List.mem_of_mem_filter mem) (Bool.or_eq_true_iff.mpr (.inr lost)))]
      have called : (s.cvu.book.any fun q => (q.leaner == p.leaner || lostLeaner s.rsq.cover rest q.leaner) &&
          q.state == .called) =
          (p.state == .called ||
            (s.cvu.book.filter (·.leaner != p.leaner)).any fun q =>
              lostLeaner s.rsq.cover rest q.leaner && q.state == .called) := by
        rw [Bool.eq_iff_iff, Bool.or_eq_true, List.any_eq_true, List.any_eq_true]
        constructor
        · rintro ⟨q, mem, is⟩
          obtain ⟨goes, called⟩ := Bool.and_eq_true_iff.mp is
          by_cases same : q.leaner = p.leaner
          · exact .inl (kept.leaner_unique mem pledged same ▸ called)
          · refine .inr ⟨q, List.mem_filter.mpr ⟨mem, by simpa using same⟩, ?_⟩
            simpa [same] using is
        · rintro (called | ⟨q, mem, is⟩)
          · exact ⟨p, pledged, by simp [called]⟩
          · obtain ⟨lost, called⟩ := Bool.and_eq_true_iff.mp is
            exact ⟨q, List.mem_of_mem_filter mem, by simp [lost, called]⟩
      have book : (s.cvu.book.filter (·.leaner != p.leaner)).filter (fun q => !lostLeaner s.rsq.cover rest q.leaner) =
          s.cvu.book.filter fun q => !(q.leaner == p.leaner || lostLeaner s.rsq.cover rest q.leaner) := by
        rw [List.filter_filter]
        refine List.filter_congr fun q _ => ?_
        rw [Bool.not_or, Bool.and_comm]
        rfl
      have guard : (s.released p .leanerLost).cvu.recallGuard = s.cvu.recallGuard := by simp [State.released, guardsRecall]
      have timer : (s.released p .leanerLost).cvu.recallTimer = if p.state = .called then none else s.cvu.recallTimer := rfl
      rw [called, ← book]
      dsimp only
      rw [guard, timer]
      refine congrArg (fun timer => CoverUnit.mk _ timer _) ?_
      by_cases ends : p.state = .called
      · simp [ends]
      · simp only [ends, if_false, beq_false_of_ne ends, Bool.false_or]
        rfl
    · have new : ∀ p ∈ s.cvu.book, p.leaner ≠ station := fun p pledged is => held ⟨p, pledged, is⟩
      rw [State.leanerLost_new new, ih kept awake (quiet.imp_right fun none q mem lost =>
        none q mem (Bool.or_eq_true_iff.mpr (.inr lost)))]
      have loses : ∀ q ∈ s.cvu.book, (q.leaner == station || lostLeaner s.rsq.cover rest q.leaner) =
          lostLeaner s.rsq.cover rest q.leaner := fun q mem => by simp [new q mem]
      have book : (s.cvu.book.filter fun q => !(q.leaner == station || lostLeaner s.rsq.cover rest q.leaner)) =
          s.cvu.book.filter fun q => !lostLeaner s.rsq.cover rest q.leaner :=
        List.filter_congr fun q mem => by rw [loses q mem]
      have called : (s.cvu.book.any fun q => (q.leaner == station || lostLeaner s.rsq.cover rest q.leaner) &&
          q.state == .called) = s.cvu.book.any fun q => lostLeaner s.rsq.cover rest q.leaner && q.state == .called := by
        rw [Bool.eq_iff_iff, List.any_eq_true, List.any_eq_true]
        exact exists_congr fun q => and_congr_right fun mem => by rw [loses q mem]
      rw [book, called]

end Sys2Proof.Machine
end

section
/-! PROOFS. The own beacon time: the view, the book, and what the reports set off (R45 to R48, R53, R65, R67, R96 to R98,
R101, R108, R134, R147; O53). -/

namespace Sys2Proof.Machine

variable {s t x : State} {after : Micros} {c : Counter}

/-! ## The work after the reports -/

@[simp] theorem State.closeBeaconTime_frame (s : State) :
    s.closeBeaconTime.pvt = s.pvt ∧ s.closeBeaconTime.cvu = s.lapsePledges.cvu ∧
      s.closeBeaconTime.lif.beaconTimer = s.lif.beaconTimer := by
  simp [State.closeBeaconTime]

/-- A count that the rest's own work at a beacon time does not raise. -/
theorem State.count_restWork (wakes : wakeCounter c = false) (raising : c ≠ .unsettledRaisings) (deep : c ≠ .deepDecisions)
    (doze : c ≠ .dozeBeacons) (s : State) : s.standbyBeaconWork.placeBeacon.count c = s.count c := by
  have placed (y : State) : y.placeBeacon.count c = y.count c := by
    unfold State.placeBeacon
    dsimp only
    split_ifs
    · rw [State.count_offer_other (queueCounter_of_wakeCounter wakes), State.count_bump_ne _ doze]
      rfl
    · rfl
    · rw [State.count_offer_other (queueCounter_of_wakeCounter wakes)]
  have settled : s.countSettle.count c = s.count c := by
    unfold State.countSettle
    split_ifs
    · rw [State.count_formSettled_class _ wakes raising]
      rfl
    · rfl
  have woken (y : State) : y.settleWake.count c = y.count c := by
    unfold State.settleWake
    split_ifs
    · exact State.count_wake_class _ wakes _
    · rfl
  have decided (y : State) : y.decideDeep.count c = y.count c := by
    unfold State.decideDeep
    split_ifs
    · exact State.count_bump_ne _ deep
    · rfl
  rw [placed, State.standbyBeaconWork, decided, woken, settled]

theorem State.count_closeBeaconTime (wakes : wakeCounter c = false) (raising : c ≠ .unsettledRaisings)
    (deep : c ≠ .deepDecisions) (doze : c ≠ .dozeBeacons) (lapsed : c ≠ .removed .lapsed) (s : State) :
    s.closeBeaconTime.count c = s.count c := by
  rw [State.closeBeaconTime, State.count_restWork wakes raising deep doze, State.count_lapsePledges,
    if_neg fun both => lapsed both.1]

theorem State.count_reportRemovals_class (wakes : wakeCounter c = false) (recalls : recallCounter c = false)
    (lost : c ≠ .removed .leanerLost) (stations : List Nat) : (s.reportRemovals stations).count c = s.count c := by
  induction stations generalizing s with
  | nil => rfl
  | cons station rest ih =>
    rw [State.reportRemovals, ih, State.count_reportRemoval_class wakes recalls lost]

/-- In a phase that takes no wake the slot is placed on what the reports left queued. -/
theorem State.closeBeaconTime_queue (standby : s.rsq.phase ≠ .standby) (deep : s.rsq.phase ≠ .deep)
    (queue : s.lif.queue = x.lif.queue) (silent : s.silent ↔ x.silent) :
    s.closeBeaconTime.lif.queue = (x.offer .beacon).lif.queue := by
  rw [State.closeBeaconTime_of_up standby deep]
  exact State.offer_queue_congr (by simpa using queue) (by simpa [State.silent] using silent) _

/-- Where settlement wakes the station at its beacon time, the slot is placed after it (R108, R134). -/
theorem State.closeBeaconTime_of_settled (standby : s.lapsePledges.countSettle.rsq.phase ≠ .standby)
    (deep : s.lapsePledges.countSettle.rsq.phase ≠ .deep) :
    s.closeBeaconTime = s.lapsePledges.countSettle.offer .beacon := by
  have wakes : s.lapsePledges.countSettle.settleWake = s.lapsePledges.countSettle := if_neg fun both => standby both.1
  have decides : s.lapsePledges.countSettle.decideDeep = s.lapsePledges.countSettle := if_neg fun both => standby both.1
  rw [State.closeBeaconTime, State.standbyBeaconWork, wakes, decides, State.placeBeacon_of_ne deep]

theorem WakeKept.offer (s : State) (n : Notice) : WakeKept s (s.offer n) := by
  refine ⟨by simp, by simp, by simp, by simp, by simp, fun k => ?_, ?_, ?_⟩
  all_goals rw [State.count_offer_other rfl]

/-! ## The pledges that lapse -/

theorem lapses_iff (p : Pledge) : lapses p = true ↔ p.state = .granted ∧ p.named = false ∧ 4 ≤ p.grantAge := by
  simp [lapses, and_assoc]

/-- The statement's words for lapse are the model's (R65). -/
theorem decide_lapsed (book : List Pledge) :
    (book.filter fun p => decide (p.state = .granted ∧ p.named = false ∧ 4 ≤ p.grantAge)) = book.filter lapses ∧
      (book.filter fun p => !decide (p.state = .granted ∧ p.named = false ∧ 4 ≤ p.grantAge)) =
        book.filter fun p => !lapses p := by
  have same (p : Pledge) : decide (p.state = .granted ∧ p.named = false ∧ 4 ≤ p.grantAge) = lapses p := by
    rw [Bool.eq_iff_iff, decide_eq_true_iff, lapses_iff]
  simp only [same, true_and]

/-! ## The view aged -/

/-- The state in which ISOLATED is formed at an own beacon time (R53). -/
def State.aged (after : Micros) (s : State) : State := (s.elapse after).nextBeacon.agedView

/-- The stations of the entries removed at an own beacon time (R46). -/
def State.outlivedNow (s : State) : List Nat := outlivedStations (ageSlots s.pvt.slots)

/-- The state after the reports of an own beacon time (R48). -/
def State.reported (after : Micros) (s : State) : State := (s.aged after).formIsolated.reportRemovals s.outlivedNow

theorem State.beaconTimeWork_elapse (after : Micros) (s : State) :
    (s.elapse after).beaconTimeWork = (s.reported after).closeBeaconTime := rfl

theorem State.count_aged (c : Counter) (after : Micros) (s : State) :
    (s.aged after).count c =
      if c = .ageRemovals ∧ s.outlivedNow ≠ [] then min 65535 (s.count c + s.outlivedNow.length) else s.count c :=
  State.count_agedView _ _

theorem State.aged_fields (after : Micros) (s : State) :
    (s.aged after).pvt = s.pvt.ageAll ∧ (s.aged after).cvu = s.cvu ∧ (s.aged after).plu = s.plu ∧
      (s.aged after).rsq = (s.elapse after).rsq ∧ (s.aged after).lif = (s.elapse after).nextBeacon.lif ∧
      (s.aged after).profile = s.profile ∧ (s.aged after).continuousRecall = s.continuousRecall := by
  refine ⟨by simp [State.aged], by simp [State.aged], by simp [State.aged], by simp [State.aged], by simp [State.aged], ?_, ?_⟩
  · simp [State.aged, State.profile, State.image]
  · simp [State.aged, State.continuousRecall]

/-- The aged view is a change of the view as a beacon's is. -/
theorem ViewChanged.aged (after : Micros) (s : State) : ViewChanged s (s.elapse after).nextBeacon (s.aged after) := by
  obtain ⟨pvt, cvu, plu, rsq, lif, profile, -⟩ := s.aged_fields after
  refine
    { phase := by rw [rsq]; rfl
      cover := by rw [rsq]; rfl
      tag := by rw [rsq]; rfl
      backoff := by rw [rsq]; rfl
      dark := by rw [rsq]; rfl
      failures := ?_
      wakes := ?_
      started := rfl
      line := lif
      book := by rw [cvu]
      unsettled := by rw [rsq]; rfl
      settleCount := by rw [rsq]; rfl
      rouse := by rw [plu]
      profile := profile
      isolated := by rw [pvt, s.pvt.ageAll_fields.2.2.1]
      raisings := ?_ }
  all_goals rw [State.count_aged, if_neg (by simp)]

/-- The view after an own beacon time (R44 to R46, R53). -/
theorem State.closed_pvt (after : Micros) (s : State) :
    (s.reported after).closeBeaconTime.pvt = { s.pvt.ageAll with isolated := (s.aged after).isolatedNow } := by
  have same : (s.reported after).closeBeaconTime.pvt = (s.aged after).formIsolated.pvt := by simp [State.reported]
  rw [same, State.formIsolated_pvt, (s.aged_fields after).1]

theorem State.outlivedNow_eq_nil_iff :
    s.outlivedNow = [] ↔ ((ageSlots s.pvt.slots).filterMap id).filter outlived = [] := List.map_eq_nil_iff

theorem State.outlivedNow_length :
    s.outlivedNow.length = (((ageSlots s.pvt.slots).filterMap id).filter outlived).length := List.length_map ..

theorem State.mem_outlivedNow {n : Nat} :
    n ∈ s.outlivedNow ↔ ∃ e ∈ ((ageSlots s.pvt.slots).filterMap id).filter outlived, e.station = n := List.mem_map

theorem State.count_closed_ageRemovals (after : Micros) (s : State) :
    (s.reported after).closeBeaconTime.count .ageRemovals =
      if s.outlivedNow = [] then s.count .ageRemovals else min 65535 (s.count .ageRemovals + s.outlivedNow.length) := by
  rw [State.count_closeBeaconTime rfl (by simp) (by simp) (by simp) (by simp), State.reported,
    State.count_reportRemovals_class rfl rfl (by simp), State.count_formIsolated_class _ rfl, State.count_aged]
  by_cases none : s.outlivedNow = [] <;> simp [none]

/-! ## The book -/

/-- The Cover Unit before the reports is that of the command's start, the counts of removals too. -/
theorem State.formed_cvu (after : Micros) (s : State) :
    (s.aged after).formIsolated.cvu = s.cvu ∧ (s.aged after).formIsolated.continuousRecall = s.continuousRecall ∧
      ∀ cause, (s.aged after).formIsolated.count (.removed cause) = s.count (.removed cause) := by
  obtain ⟨-, cvu, -, -, -, -, mode⟩ := s.aged_fields after
  refine ⟨by simp [cvu], (State.formIsolated_mode _).trans mode, fun cause => ?_⟩
  rw [State.count_formIsolated_class _ rfl, State.count_aged, if_neg (by simp)]

/-- The counts of lapse after an own beacon time, by the book the reports leave (R65). -/
theorem State.count_closed_lapsed (x : State) :
    x.closeBeaconTime.count (.removed .lapsed) =
      if (x.cvu.book.map agePledge).filter lapses = [] then x.count (.removed .lapsed)
      else min 65535 (x.count (.removed .lapsed) + ((x.cvu.book.map agePledge).filter lapses).length) := by
  rw [State.closeBeaconTime, State.count_restWork rfl (by simp) (by simp) (by simp), State.count_lapsePledges]
  by_cases none : (x.cvu.book.map agePledge).filter lapses = [] <;> simp [none]

end Sys2Proof.Machine
end

section
/-! PROOFS. The own beacon time, assembled: the book, the orphan condition, and the rouse term that ISOLATED or UNSETTLED
turns (R45 to R48, R53, R65, R67, R96 to R98, R101, R108, R134, R147; O53). -/

namespace Sys2Proof.Machine

variable {s t : State} {after : Micros}

/-! ## The book -/

/-- With no pledge held the reports leave the Cover Unit and its counts. -/
theorem State.reportRemovals_empty (empty : s.cvu.book = []) (stations : List Nat) :
    (s.reportRemovals stations).cvu = s.cvu ∧
      (s.reportRemovals stations).count (.removed .leanerLost) = s.count (.removed .leanerLost) := by
  induction stations generalizing s with
  | nil => exact ⟨rfl, rfl⟩
  | cons station rest ih =>
    have first : (s.reportRemoval station).cvu = s.cvu ∧
        (s.reportRemoval station).count (.removed .leanerLost) = s.count (.removed .leanerLost) := by
      by_cases recorded : s.rsq.cover = some station
      · rw [State.reportRemoval_cover recorded]
        exact ⟨by simp, State.count_wake_class _ rfl _⟩
      · rw [State.reportRemoval_leaner recorded, State.leanerLost_new (by simp [empty])]
        exact ⟨rfl, rfl⟩
    obtain ⟨cvu, count⟩ := ih (s := s.reportRemoval station) (by rw [first.1, empty])
    exact ⟨cvu.trans first.1, count.trans first.2⟩

/-- The pledges lost at an own beacon time: their leaners' entries are removed (R67). -/
def State.lostPledges (s : State) : List Pledge :=
  s.cvu.book.filter fun p => lostLeaner s.rsq.cover s.outlivedNow p.leaner

/-- The pledges of the other leaners. -/
def State.keptPledges (s : State) : List Pledge :=
  s.cvu.book.filter fun p => !lostLeaner s.rsq.cover s.outlivedNow p.leaner

/-- In AWAKE the reports begin in a state with the phase and the cover of the command's start. -/
theorem State.formed_awake (awake : s.rsq.phase = .awake) :
    (s.aged after).formIsolated.rsq.phase = .awake ∧ (s.aged after).formIsolated.rsq.cover = s.rsq.cover := by
  obtain ⟨-, -, -, rsq, -⟩ := s.aged_fields after
  have same := State.formIsolated_alike_of_up (s := s.aged after) (by simp [rsq, awake]) (by simp [rsq, awake])
    (by simp [rsq, awake])
  rw [same.rsq, rsq]
  exact ⟨awake, rfl⟩

/-- The lost leaners of an own beacon time are counted (R67, R75). -/
theorem BookOnlyAwake.count_reported (only : BookOnlyAwake s) (kept : BookKept s.cvu.book) :
    (s.reported after).count (.removed .leanerLost) =
      if s.lostPledges = [] then s.count (.removed .leanerLost)
      else min 65535 (s.count (.removed .leanerLost) + s.lostPledges.length) := by
  obtain ⟨cvu, -, count⟩ := s.formed_cvu after
  by_cases awake : s.rsq.phase = .awake
  · obtain ⟨phase, cover⟩ := State.formed_awake (after := after) awake
    have counted := BookKept.count_reportRemovals (s := (s.aged after).formIsolated) (stations := s.outlivedNow)
      (by rw [cvu]; exact kept) phase
    have leaners : (s.aged after).formIsolated.cvu.leaners.filter (lostLeaner s.rsq.cover s.outlivedNow) =
        s.lostPledges.map (·.leaner) := by
      rw [cvu, CoverUnit.leaners, List.filter_map]
      rfl
    rw [cover, leaners, List.length_map, count] at counted
    simpa only [List.map_eq_nil_iff, State.reported] using counted
  · have empty := only.empty awake
    have none : s.lostPledges = [] := by simp [State.lostPledges, empty]
    rw [if_pos none, State.reported, (State.reportRemovals_empty (by rw [cvu, empty]) _).2, count]

/-- Without a call of theirs that ends in continuous-recall mode, their pledges leave the book and no other (R67, R70,
R74). -/
theorem BookOnlyAwake.reported_cvu (only : BookOnlyAwake s) (kept : BookKept s.cvu.book)
    (quiet : s.continuousRecall = false ∨ ∀ p ∈ s.lostPledges, p.state ≠ .called) :
    (s.reported after).cvu =
      { s.cvu with
        book := s.keptPledges
        recallTimer := if s.lostPledges.any (·.state == .called) then none else s.cvu.recallTimer } := by
  obtain ⟨cvu, mode, -⟩ := s.formed_cvu after
  by_cases awake : s.rsq.phase = .awake
  · obtain ⟨phase, cover⟩ := State.formed_awake (after := after) awake
    have left := BookKept.reportRemovals_cvu (s := (s.aged after).formIsolated) (stations := s.outlivedNow)
      (by rw [cvu]; exact kept) phase
    rw [cover, mode, cvu] at left
    have calls : s.lostPledges.any (·.state == .called) =
        s.cvu.book.any fun p => lostLeaner s.rsq.cover s.outlivedNow p.leaner && p.state == .called := by
      rw [State.lostPledges, List.any_filter]
    rw [calls]
    exact left (quiet.imp_right fun none p mem lost => none p (List.mem_filter.mpr ⟨mem, lost⟩))
  · have empty := only.empty awake
    have none : s.lostPledges = [] := by simp [State.lostPledges, empty]
    have rest : s.keptPledges = s.cvu.book := by simp [State.keptPledges, empty]
    rw [State.reported, (State.reportRemovals_empty (by rw [cvu, empty]) _).1, cvu, rest, none]
    rfl

/-- Without removals no leaner is lost (R48). -/
theorem State.reported_none (none : s.outlivedNow = []) : s.reported after = (s.aged after).formIsolated := by
  rw [State.reported, none]
  rfl

/-! ## The orphan condition -/

theorem OrphanAs.aged (after : Micros) (s : State) : OrphanAs s (s.aged after) := by
  obtain ⟨-, -, -, rsq, -⟩ := s.aged_fields after
  refine ⟨by rw [rsq]; rfl, by rw [rsq]; rfl, by rw [rsq]; rfl, by rw [rsq]; rfl, ?_, ?_, ?_⟩
  all_goals rw [State.count_aged, if_neg (by simp)]

/-- What has been written past the reports, in a phase that takes no wake, with the slot placed. -/
theorem State.closed_queue {cover : Nat} {x : State} (standby : x.rsq.phase ≠ .standby) (deep : x.rsq.phase ≠ .deep)
    (up : x.rsq.phase ≠ .mute ∧ x.rsq.phase ≠ .loading) (begun : s.rsq.phase ≠ .mute ∧ s.rsq.phase ≠ .loading)
    (line : x.lif = ((s.elapse after).nextBeacon.offer (.resume cover s.rsq.tag)).lif) :
    x.closeBeaconTime.lif.queue = (((s.elapse after).offer (.resume cover s.rsq.tag)).offer .beacon).lif.queue := by
  refine State.closeBeaconTime_queue standby deep ?_ (by simp [State.silent, up, begun])
  rw [line]
  exact State.offer_queue_congr (s := s.elapse after) (by simp) (by simp [State.silent]) _

/-- The cover's entry removed at an own beacon time, at a station whose rouse term is never true (R48, R98, R101). -/
theorem State.closed_orphaned (term : s.profile.rouse = { code := 15, inverted := true }) {cover : Nat}
    (recorded : s.rsq.cover = some cover) (removed : cover ∈ s.outlivedNow) :
    (s.rsq.phase = .draining → BookOnlyAwake s →
        (s.reported after).closeBeaconTime.lif.queue =
          (((s.elapse after).offer (.resume cover s.rsq.tag)).offer .beacon).lif.queue) ∧
      Orphaned s (s.reported after).closeBeaconTime := by
  obtain ⟨-, cvu, -, rsq, lif, profile, -⟩ := s.aged_fields after
  have same := State.formIsolated_alike_of_factory (profile ▸ term)
  obtain ⟨orphaned, line⟩ := State.reportRemovals_orphaned (s := (s.aged after).formIsolated) (stations := s.outlivedNow)
    (cover := cover) (by rw [same.rsq, rsq]; exact recorded) removed
  have orphaned : Orphaned s (s.reported after) := orphaned.congr ((OrphanAs.aged after s).alike same)
  have up : (s.reported after).rsq.phase ≠ .standby ∧ (s.reported after).rsq.phase ≠ .deep := by
    rw [orphaned.phase]
    cases s.rsq.phase <;> cases s.rsq.darkGiven <;> simp
  refine ⟨fun draining only => ?_, orphaned.keep (WakeKept.closeBeaconTime up.1 up.2)⟩
  have awake : (s.reported after).rsq.phase = .awake := by rw [orphaned.phase, draining]
  refine State.closed_queue up.1 up.2 (by simp [awake]) (by simp [draining]) ?_
  have started : (s.aged after).formIsolated.rsq.phase = .draining := by rw [same.rsq, rsq]; exact draining
  have tag : (s.aged after).formIsolated.rsq.tag = s.rsq.tag := by rw [same.rsq, rsq]; rfl
  rw [State.reported, line (by simp [cvu, only.empty (by simp [draining])]) started, tag]
  exact State.offer_lif_congr (s := (s.elapse after).nextBeacon) (same.lif.trans lif) (by rw [started]; exact draining.symm) _

/-! ## The rouse term -/

/-- What the statement says of a rouse report at an own beacon time. -/
def ClosedRoused (after : Micros) (s t : State) : Prop :=
  RouseWake s t ∧
    (BookOnlyAwake s →
      (s.rsq.phase = .draining → ∀ cover, s.rsq.cover = some cover →
        t.lif.queue = (((s.elapse after).offer (.resume cover s.rsq.tag)).offer .beacon).lif.queue) ∧
      ((s.rsq.phase = .standby ∨ s.rsq.phase = .deep) → t.lif.queue = ((s.elapse after).offer .beacon).lif.queue))

/-- ISOLATED turns at an own beacon time that leaves no FRESH entry, and ends a drain or a rest (R53, R134). -/
theorem State.closed_isolated (taken : s.rsq.phase = .draining ∨ s.rsq.phase = .standby ∨ s.rsq.phase = .deep)
    (was : s.plu.rouse = false) (clear : s.pvt.isolated = false)
    (stale : ∀ e ∈ (ageSlots s.pvt.slots).filterMap id, 2 < e.age)
    (term : s.profile.rouse = { code := 14, inverted := false }) :
    ClosedRoused after s (s.reported after).closeBeaconTime := by
  obtain ⟨pvt, cvu, -, rsq, -⟩ := s.aged_fields after
  have now : (s.aged after).isolatedNow = true := by
    have none : (s.aged after).pvt.entries.any viewFresh = false := by
      rw [pvt, PeerView.ageAll_entries, List.any_eq_false]
      intro e entry
      have old := stale e (by rw [entries_ageSlots]; exact List.mem_of_mem_filter entry)
      simpa [viewFresh] using old
    rw [State.isolatedNow_of_up (by rw [rsq]; rcases taken with is | is | is <;> simp [is])
      (by rw [rsq]; rcases taken with is | is | is <;> simp [is]), none]
    rfl
  have woken := (ViewChanged.aged after s).roused_by_isolated (by simp [now, clear]) (by rw [clear, term]) was
  obtain ⟨draining, standby, deep⟩ := woken.toRouseWake.up taken
  have reports : Reported (s.aged after).formIsolated (s.reported after) :=
    Reported.reportRemovals_up draining standby deep s.outlivedNow
  have closed := WakeKept.closeBeaconTime (s := s.reported after) (by rw [reports.rsq]; exact standby)
    (by rw [reports.rsq]; exact deep)
  refine ⟨woken.toRouseWake.keep (reports.wakeKept.trans closed), fun only => ?_⟩
  have idle : s.reported after = (s.aged after).formIsolated :=
    reports.idle (by simp [cvu, only.empty (by rcases taken with is | is | is <;> simp [is])])
  rw [idle]
  refine ⟨fun drains cover recorded => ?_, fun rests => ?_⟩
  · obtain ⟨awake, -⟩ := woken.draining drains
    exact State.closed_queue standby deep (by simp [awake]) (by simp [drains]) (woken.aborted drains cover recorded)
  · obtain ⟨phase, -⟩ := woken.resting rests
    refine State.closeBeaconTime_queue standby deep (by simp [woken.kept rests]) ?_
    have up : ¬(s.aged after).formIsolated.silent := by
      rw [State.silent, phase]
      split <;> simp
    have begun : ¬(s.elapse after).silent := by rcases rests with is | is <;> simp [State.silent, is]
    exact iff_of_false up begun

/-- UNSETTLED turns at an own beacon time in STANDBY, and ends the rest (R108, R134). -/
theorem State.closed_settlement (standby : s.rsq.phase = .standby) (was : s.plu.rouse = false)
    (others : ∀ n ∈ s.outlivedNow, s.rsq.cover ≠ some n)
    (turns : s.rsq.unsettled ≠ (!s.pvt.ageAll.allSeen && min 8 (s.rsq.settleCount + 1) == 8))
    (term : s.profile.rouse = { code := 11, inverted := s.rsq.unsettled }) :
    ClosedRoused after s (s.reported after).closeBeaconTime ∧
      (s.rsq.unsettled = false →
        (s.reported after).closeBeaconTime.count .unsettledRaisings =
          min 65535 (s.count .unsettledRaisings + 1)) := by
  obtain ⟨pvt, cvu, plu, rsq, lif, profile, -⟩ := s.aged_fields after
  have changed := ViewChanged.aged after s
  have tests := changed.untested_by_isolated term
  have same := State.formIsolated_alike (s := s.aged after) (State.formTerms_of_false (s := (s.aged after).reviewed) tests)
  have still := State.formIsolated_rouse tests (changed.rouse.trans was)
  have reports : Reported (s.aged after).formIsolated (s.reported after) :=
    Reported.reportRemovals_leaners (s := (s.aged after).formIsolated) (by rw [same.rsq, rsq]; exact others)
  have sequencer : (s.reported after).lapsePledges.rsq =
      { s.rsq with restClock := (s.reported after).lapsePledges.rsq.restClock } := by
    have kept : (s.reported after).lapsePledges.rsq = (s.aged after).formIsolated.rsq := by
      simpa using reports.rsq
    rw [kept, same.rsq, rsq]
    rfl
  have begun (c : Counter) (recalls : recallCounter c = false) (lost : c ≠ .removed .leanerLost)
      (lapsed : c ≠ .removed .lapsed) (ages : c ≠ .ageRemovals) : (s.reported after).lapsePledges.count c = s.count c := by
    rw [State.count_lapsePledges, if_neg (by simp [lapsed]), reports.count c recalls lost, same.count, State.count_aged,
      if_neg (by simp [ages])]
  have view : (s.reported after).lapsePledges.pvt.allSeen = s.pvt.ageAll.allSeen := by
    have kept : (s.reported after).lapsePledges.pvt = (s.aged after).formIsolated.pvt := by simp [State.reported]
    rw [kept, State.formIsolated_pvt, pvt]
    rfl
  have policy : (s.reported after).lapsePledges.plu.rouse = false := by
    simpa [reports.plu] using still
  have image : (s.reported after).lapsePledges.profile = s.profile := by
    have kept : (s.reported after).lapsePledges.profile = (s.aged after).formIsolated.profile := by
      simp [State.profile, State.image, State.reported]
    rw [kept, same.profile, profile]
  have line (only : BookOnlyAwake s) : (s.reported after).lapsePledges.lif = (s.elapse after).nextBeacon.lif := by
    have kept : (s.reported after).lapsePledges.lif = (s.reported after).lif := by simp
    rw [kept, reports.idle (by simp [cvu, only.empty (by simp [standby])]), same.lif, lif]
  have settles := State.closeBeaconTime_of_settled (s := s.reported after)
  generalize (s.reported after).lapsePledges = x at sequencer begun view policy image line settles
  have inStandby : x.rsq.phase = .standby := by rw [sequencer]; exact standby
  rw [State.countSettle_standby inStandby] at settles
  generalize written : (x.onRsq fun q => { q with settleCount := min Config.settleLimit (q.settleCount + 1) }) = y at settles
  have alike : WakesAs s y := by
    rw [← written]
    exact ⟨by rw [State.onRsq_rsq, sequencer], by rw [State.onRsq_rsq, sequencer], by rw [State.onRsq_rsq, sequencer],
      by rw [State.onRsq_rsq, sequencer], by rw [State.onRsq_rsq, sequencer],
      begun .drainFailures rfl (by simp) (by simp) (by simp), begun (.wakes .rouse) rfl (by simp) (by simp) (by simp)⟩
  have unsettled : y.rsq.unsettled = s.rsq.unsettled := by rw [← written, State.onRsq_rsq, sequencer]
  have standing : y.rsq.phase = .standby := alike.phase.trans standby
  have changes : y.rsq.unsettled ≠ (!y.pvt.allSeen && y.rsq.settleCount == Config.settleLimit) := by
    have count : y.rsq.settleCount = min 8 (s.rsq.settleCount + 1) := by
      rw [← written, State.onRsq_rsq, sequencer]
      rfl
    have seen : y.pvt.allSeen = s.pvt.ageAll.allSeen := by rw [← view, ← written]; rfl
    rw [unsettled, count, seen]
    exact turns
  have raised : y.count .unsettledRaisings = s.count .unsettledRaisings := by
    rw [← written]
    exact begun _ rfl (by simp) (by simp) (by simp)
  have roused : Roused s x y.formSettled :=
    alike.roused_by_settlement (by rw [inStandby, standby]) (by rw [← written]; rfl) standing changes
      (by rw [unsettled, ← term, ← image, ← written]; rfl) (by rw [← policy, ← written]; rfl)
  obtain ⟨-, left, awake⟩ := roused.toRouseWake.up (.inr (.inl standby))
  rw [settles left awake]
  refine ⟨⟨roused.toRouseWake.keep (WakeKept.offer _ _), fun only => ⟨fun drains => ?_, fun rests => ?_⟩⟩, fun low => ?_⟩
  · rw [standby] at drains
    cases drains
  · obtain ⟨phase, -⟩ := roused.resting rests
    refine State.offer_queue_congr (by rw [roused.kept rests, line only]; simp) ?_ _
    have up : ¬y.formSettled.silent := by
      rw [State.silent, phase]
      split <;> simp
    exact iff_of_false up (by simp [State.silent, standby])
  · rw [State.count_offer_other rfl, State.formSettled_changes standing changes, State.count_formTerms_class _ rfl, unsettled,
      low, ← raised]
    exact State.count_bump_same _ _

/-! ## The obligation -/

theorem State.closed_cvu (x : State) :
    x.closeBeaconTime.cvu = { x.cvu with book := (x.cvu.book.map agePledge).filter fun p => !lapses p } := by
  rw [← State.lapsePledges_cvu]
  simp

theorem decide_lost (s : State) (p : Pledge) :
    decide (s.rsq.cover ≠ some p.leaner ∧
        ∃ e ∈ ((ageSlots s.pvt.slots).filterMap id).filter outlived, e.station = p.leaner) =
      lostLeaner s.rsq.cover s.outlivedNow p.leaner := by
  rw [Bool.eq_iff_iff, decide_eq_true_iff, lostLeaner_iff, State.mem_outlivedNow]

/-- The FRESH entries of the aged view are none of those removed, so settlement waits for the same ones (R46, R107). -/
theorem PeerView.ageAll_allSeen (v : PeerView) :
    v.ageAll.allSeen = true ↔ ∀ e ∈ (ageSlots v.slots).filterMap id, ¬Unheard e := by
  rw [PeerView.allSeen_iff, PeerView.ageAll_entries, entries_ageSlots]
  refine ⟨fun all e entry waits => ?_, fun all e entry => all e (List.mem_of_mem_filter entry)⟩
  refine all e (List.mem_filter.mpr ⟨entry, ?_⟩) waits
  rw [outlived_of_fresh waits.1]
  rfl

/-- Settles O53: the view is aged and ISOLATED formed, the removals are reported, then lapse, the Rest Sequencer and the
slot. -/
theorem beaconTimeAgesViewAndBook : Obligations.BeaconTimeAgesViewAndBook := by
  intro after expiry s out runs due aged gone removed roused
  obtain ⟨slots, pointer, -, full⟩ := s.pvt.ageAll_fields
  have view := s.closed_pvt after
  have nil : removed = [] ↔ s.outlivedNow = [] := State.outlivedNow_eq_nil_iff.symm
  have length : s.outlivedNow.length = removed.length := s.outlivedNow_length
  have member (n : Nat) : n ∈ s.outlivedNow ↔ ∃ e ∈ removed, e.station = n := State.mem_outlivedNow
  obtain ⟨cvu, mode, count⟩ := s.formed_cvu after
  refine ⟨_, exec_ownBeaconTime_due out ⟨expiry, runs, due⟩, ?_⟩
  rw [State.beaconTimeWork_elapse]
  refine ⟨?timer, by rw [view, slots]; rfl, by rw [view, pointer], fun some => ?viewFull, fun none => ?viewKept, ?ages,
    fun none => ?lapse, fun only kept _ => ?book, fun term _ cover recorded lost => ?orphaned, fun taken was => ?roused,
    ?estimator, ?link, ?loader⟩
  case timer =>
    simp [State.reported, State.aged, State.nextBeacon, runs, State.beaconPeriod, State.image, second]
  case viewFull =>
    rw [view]
    exact PeerView.ageAll_viewFull (mt nil.mpr some)
  case viewKept =>
    rw [view]
    exact full (nil.mp none)
  case ages => rw [State.count_closed_ageRemovals, length]; simp only [nil]
  case lapse =>
    have reported := State.reported_none (after := after) (nil.mp none)
    refine ⟨?_, fun some => ?_⟩
    · rw [(decide_lapsed _).2, State.closed_cvu, reported, cvu]
      rfl
    · rw [(decide_lapsed _).1] at some ⊢
      rw [State.count_closed_lapsed, reported, cvu, count]
      exact if_neg some
  case book =>
    intro lost goes grown lapsed
    have losses : goes = s.lostPledges := List.filter_congr fun p _ => decide_lost s p
    have ages : grown = s.keptPledges.map agePledge :=
      congrArg (List.map agePledge) (List.filter_congr fun p _ => congrArg (!·) (decide_lost s p))
    rw [losses, ages, (decide_lapsed _).1, (decide_lapsed _).2]
    refine ⟨?_, ?_, fun quiet => ?_⟩
    · rw [State.count_closeBeaconTime rfl (by simp) (by simp) (by simp) (by simp), only.count_reported kept]
    · simp [State.reported, State.aged]
    · have left := only.reported_cvu (after := after) kept quiet
      have before : (s.reported after).count (.removed .lapsed) = s.count (.removed .lapsed) := by
        rw [State.reported, State.count_reportRemovals_class rfl rfl (by simp), count]
      rw [State.closed_cvu, State.count_closed_lapsed, left, before]
      exact ⟨rfl, rfl⟩
  case orphaned =>
    obtain ⟨line, orphaned⟩ := State.closed_orphaned (after := after) term recorded ((member cover).mpr lost)
    exact ⟨orphaned, line⟩
  case roused =>
    refine ⟨fun clear stale term => State.closed_isolated taken was clear stale term, fun standby others => ?_⟩
    have others : ∀ n ∈ s.outlivedNow, s.rsq.cover ≠ some n := by
      intro n mem
      obtain ⟨e, lost, rfl⟩ := (member n).mp mem
      exact others e lost
    refine ⟨fun low limit unheard term => ?_, fun high heard term => ?_⟩
    · obtain ⟨e, entry, waits⟩ := unheard
      have seen : s.pvt.ageAll.allSeen = false := by
        rw [← Bool.not_eq_true, PeerView.ageAll_allSeen]
        exact fun all => all e entry waits
      have full : min 8 (s.rsq.settleCount + 1) = 8 := by omega
      obtain ⟨roused, raised⟩ := State.closed_settlement (after := after) standby was others (by simp [low, seen, full])
        (by rw [low, term])
      exact ⟨roused, raised low⟩
    · have seen : s.pvt.ageAll.allSeen = true := (PeerView.ageAll_allSeen _).mpr heard
      exact (State.closed_settlement standby was others (by simp [high, seen]) (by rw [high, term])).1
  case estimator => simp [State.closeBeaconTime, State.reported, State.aged]
  case link => simp [State.closeBeaconTime, State.reported, State.aged]
  case loader => simp [State.closeBeaconTime, State.reported, State.aged]

end Sys2Proof.Machine
end

section
/-! PROOFS. A SAMPLE up to the reading of its carrier condition, at a station that holds no pledge: what the port has
reported to the Rest Sequencer by then (R12, R55, R110, R133, R154, R157). -/

namespace Sys2Proof.Machine

variable {s x y z : State} {after : Micros} {u : BitVec 10} {n : BitVec 11} {condition : CarrierCondition} {c : Counter}

/-! ## The state that is read -/

/-- The estimator's work on a SAMPLE that did not arrive in AWAKE, or the SAMPLE set aside (R3, R12). -/
def State.estimated (u : BitVec 10) (n : BitVec 11) (s : State) : State :=
  if s.guardPasses then s.useSample u n false else s.bump .setAside

@[simp] theorem State.estimated_frame (u : BitVec 10) (n : BitVec 11) (s : State) :
    (s.estimated u n).clock = s.clock ∧ (s.estimated u n).lif = s.lif ∧ (s.estimated u n).pvt = s.pvt ∧
      (s.estimated u n).cvu = s.cvu ∧ (s.estimated u n).rsq = s.rsq ∧ (s.estimated u n).plu = s.plu ∧
      (s.estimated u n).clp = s.clp ∧ (s.estimated u n).cfl = s.cfl ∧
      (s.estimated u n).lde.linkLost = s.lde.linkLost := by
  unfold State.estimated
  split <;> simp

theorem State.count_estimated (other : c ≠ .setAside) : (s.estimated u n).count c = s.count c := by
  unfold State.estimated
  split
  · simp
  · exact State.count_bump_ne _ other

/-- Outside AWAKE, with no pledge held, the port's work, the estimator's and the carrier step are the whole of a SAMPLE. -/
theorem State.sampled_eq (empty : s.cvu.book = []) (asleep : s.rsq.phase ≠ .awake) (up : s.rsq.phase ≠ .loading) :
    s.sampled after u n condition =
      ((((s.elapse after).portStage condition).estimated u n).carrierStep condition).replyToSample := by
  have running : ((s.elapse after).portStage condition).rsq.phase ≠ .loading :=
    mt (State.portStage_phase (s.elapse after) condition).2.mp up
  have arrived : (s.rsq.phase == .awake) = false := by simpa using asleep
  have book : (((s.elapse after).portStage condition).useSample u n false).cvu.book = [] := by simpa using empty
  rw [State.sampled, arrived, State.sampleStages, if_neg running, State.estimated]
  split
  · rw [State.coverStage_of_empty book, State.eligibilityStage, if_neg (by simp)]
  · rfl

/-! ## The rest clock's report -/

/-- The rest clock's mode once the hold term has a value, a change of it reported (R110, R133). -/
def clockModeReported (mode : ClockMode) (was hold : Bool) : ClockMode :=
  if hold = was then mode
  else
    match mode with
    | .stopped => .stopped
    | .running | .frozen => if hold then .frozen else .running

/-- The state as time alone has left it, but for a report of the hold term to the rest clock. -/
def State.holdReported (s : State) (after : Micros) (hold : Bool) : State :=
  let timed := s.elapse after
  { timed with
    rsq :=
      { timed.rsq with
        restClock := { timed.rsq.restClock with mode := clockModeReported s.rsq.restClock.mode s.plu.hold hold } } }

theorem State.elapse_clockMode (s : State) (after : Micros) : (s.elapse after).rsq.restClock.mode = s.rsq.restClock.mode :=
  RestClock.over_mode _ _

/-- A hold term as it was leaves the rest clock. -/
theorem State.holdReported_same (s : State) (after : Micros) :
    (s.holdReported after s.plu.hold).rsq = (s.elapse after).rsq := by
  simp only [State.holdReported, clockModeReported, if_true]
  rw [← s.elapse_clockMode after]

/-- A stopped rest clock takes no report. -/
theorem State.holdReported_of_stopped (stopped : s.rsq.restClock.mode = .stopped) (hold : Bool) :
    (s.holdReported after hold).rsq = (s.elapse after).rsq := by
  simp only [State.holdReported, clockModeReported, stopped, ite_self]
  rw [← stopped, ← s.elapse_clockMode after]

/-- The counters that the port and the guard may raise before the carrier condition is read. -/
def arrivalCounter : Counter → Bool
  | .validSamples | .linkReturns | .carrierFaults | .setAside => true
  | _ => false

/-- A state that differs from the time's own work in a report of the hold term, the port, the estimator and the conditions
they write. -/
structure ReadAs (s : State) (after : Micros) (y : State) : Prop where
  rsq : y.rsq = (s.holdReported after y.plu.hold).rsq
  lif : y.lif = s.lif
  pvt : y.pvt = s.pvt
  clock : y.clock = s.clock + after
  loader : y.cfl = s.cfl
  active : y.plu.activeProfile = s.plu.activeProfile
  count : ∀ c, arrivalCounter c = false → y.count c = s.count c

theorem ReadAs.image (h : ReadAs s after y) : y.image = s.image := by rw [State.image, h.loader, State.image]

theorem ReadAs.profile (h : ReadAs s after y) : y.profile = s.profile := by
  rw [State.profile, h.image, h.active, State.profile]

theorem ReadAs.phase (h : ReadAs s after y) : y.rsq.phase = s.rsq.phase := by rw [h.rsq]; rfl

theorem ReadAs.cover (h : ReadAs s after y) : y.rsq.cover = s.rsq.cover := by rw [h.rsq]; rfl

theorem ReadAs.tag (h : ReadAs s after y) : y.rsq.tag = s.rsq.tag := by rw [h.rsq]; rfl

theorem ReadAs.congr (h : ReadAs s after x) (rsq : y.rsq = x.rsq) (lif : y.lif = x.lif) (pvt : y.pvt = x.pvt)
    (clock : y.clock = x.clock) (loader : y.cfl = x.cfl) (plu : y.plu = x.plu)
    (count : ∀ c, arrivalCounter c = false → y.count c = x.count c) : ReadAs s after y :=
  ⟨by rw [rsq, plu, h.rsq], lif.trans h.lif, pvt.trans h.pvt, clock.trans h.clock, loader.trans h.loader,
    (congrArg _ plu).trans h.active, fun c other => (count c other).trans (h.count c other)⟩

/-- The estimator's work is on its own block. -/
theorem ReadAs.estimated (h : ReadAs s after x) : ReadAs s after (x.estimated u n) :=
  h.congr (by simp) (by simp) (by simp) (by simp) (by simp) (by simp) fun c other =>
    State.count_estimated (by rintro rfl; cases other)

/-- Time alone, and the writing of a condition, before any forming. -/
theorem ReadAs.written (rsq : z.rsq = (s.elapse after).rsq) (lif : z.lif = s.lif) (pvt : z.pvt = s.pvt)
    (clock : z.clock = s.clock + after) (loader : z.cfl = s.cfl) (plu : z.plu = s.plu)
    (count : ∀ c, arrivalCounter c = false → z.count c = s.count c) : ReadAs s after z :=
  ⟨by rw [rsq, plu, State.holdReported_same], lif, pvt, clock, loader, congrArg _ plu, count⟩

/-- One forming of the terms is the one report of the hold term. -/
theorem ReadAs.formValues (h : ReadAs s after z) (plu : z.plu = s.plu) : ReadAs s after z.formValues := by
  refine ⟨?_, by simp [h.lif], by simp [h.pvt], by simp [h.clock], by simp [h.loader], by simp [h.active],
    fun c other => by simpa using h.count c other⟩
  have before : z.rsq = (s.elapse after).rsq := by rw [h.rsq, plu, State.holdReported_same]
  rw [State.formValues_rsq, before, plu, RestClock.holdReport_eq, State.elapse_clockMode]
  by_cases same : z.formValues.plu.hold = s.plu.hold
  · rw [if_pos same, same, State.holdReported_same]
  · simp only [if_neg same, State.holdReported, clockModeReported]
    cases s.rsq.restClock.mode <;> rfl

end Sys2Proof.Machine
end

section
/-! PROOFS. The port's work on a SAMPLE by what it does to the terms: no forming that wakes, the rouse term turned true by
CARRIER_FAULT, and by the end of a loss; and a forming in a phase that takes no wake (R15, R96, R134, R154, R157). -/

namespace Sys2Proof.Machine

variable {s x y z : State} {after : Micros} {u : BitVec 10} {n : BitVec 11} {condition : CarrierCondition} {c : Counter}

/-! ## The writing of the conditions -/

/-- The port's own fields as a SAMPLE leaves them, before CARRIER_FAULT is written (R154). -/
def State.sampleNoted (condition : CarrierCondition) (s : State) : State :=
  (s.bump .validSamples).onClp fun c =>
    { c with link := .up, watch := some (s.clock + 5000000), lastCondition := some condition }

/-- CARRIER_FAULT written and counted, its report still to be made (R157). -/
def State.faultWritten (condition : CarrierCondition) (s : State) : State :=
  doWhen (condition == .fault) (State.bump .carrierFaults) (s.onClp fun c => { c with carrierFault := condition == .fault })

@[simp] theorem State.sampleNoted_frame (condition : CarrierCondition) (s : State) :
    (s.sampleNoted condition).rsq = s.rsq ∧ (s.sampleNoted condition).lif = s.lif ∧
      (s.sampleNoted condition).pvt = s.pvt ∧ (s.sampleNoted condition).clock = s.clock ∧
      (s.sampleNoted condition).cfl = s.cfl ∧ (s.sampleNoted condition).plu = s.plu ∧
      (s.sampleNoted condition).lde = s.lde ∧ (s.sampleNoted condition).clp.carrierFault = s.clp.carrierFault :=
  ⟨rfl, rfl, rfl, rfl, rfl, rfl, rfl, rfl⟩

@[simp] theorem State.faultWritten_frame (condition : CarrierCondition) (s : State) :
    (s.faultWritten condition).rsq = s.rsq ∧ (s.faultWritten condition).lif = s.lif ∧
      (s.faultWritten condition).pvt = s.pvt ∧ (s.faultWritten condition).clock = s.clock ∧
      (s.faultWritten condition).cfl = s.cfl ∧ (s.faultWritten condition).plu = s.plu ∧
      (s.faultWritten condition).lde = s.lde ∧
      (s.faultWritten condition).clp.carrierFault = (condition == .fault) := by
  unfold State.faultWritten
  cases condition == .fault <;> exact ⟨rfl, rfl, rfl, rfl, rfl, rfl, rfl, rfl⟩

theorem State.count_sampleNoted (other : arrivalCounter c = false) : (s.sampleNoted condition).count c = s.count c :=
  State.count_bump_ne _ (by rintro rfl; cases other)

theorem State.count_faultWritten (other : arrivalCounter c = false) : (s.faultWritten condition).count c = s.count c := by
  unfold State.faultWritten
  cases condition == .fault
  · rfl
  · exact State.count_bump_ne _ (by rintro rfl; cases other)

/-- CARRIER_FAULT is as it was, or is written and reported (R130, R157). -/
theorem State.setCarrierFault_eq (condition : CarrierCondition) (s : State) :
    s.setCarrierFault (condition == .fault) =
      if s.clp.carrierFault = (condition == .fault) then s else (s.faultWritten condition).formTerms := rfl

/-- The port's work on a SAMPLE while the link is not LOST (R154). -/
theorem State.portStage_of_up (up : s.clp.link ≠ .lost) (condition : CarrierCondition) :
    s.portStage condition = (s.sampleNoted condition).setCarrierFault (condition == .fault) := by
  unfold State.portStage
  dsimp only
  rw [if_neg up]
  rfl

theorem ReadAs.sampleNoted (s : State) (after : Micros) (condition : CarrierCondition) :
    ReadAs s after ((s.elapse after).sampleNoted condition) :=
  .written rfl rfl rfl rfl rfl rfl fun _ other => State.count_sampleNoted other

theorem ReadAs.faultWritten (s : State) (after : Micros) (condition : CarrierCondition) :
    ReadAs s after (((s.elapse after).sampleNoted condition).faultWritten condition) :=
  .written (by simp) (by simp) (by simp) (by simp) (by simp) (by simp) fun _ other =>
    (State.count_faultWritten other).trans (State.count_sampleNoted other)

/-- A condition whose supplier the port does not write is that of the command's start. -/
theorem State.faultWritten_condition {code : BitVec 4} (other : code ≠ 9) (condition : CarrierCondition) (s : State) :
    (s.faultWritten condition).condition code = s.condition code :=
  State.condition_congr_at (by simp) (fun is => absurd is (code_toNat_ne other)) (by simp) (by simp) (by simp) (by simp)
    (by simp) (by simp)

/-- Time and the port's own fields are tested by no term. -/
theorem TermsFormed.sampleNoted (h : TermsFormed s) (after : Micros) (condition : CarrierCondition) :
    TermsFormed ((s.elapse after).sampleNoted condition) :=
  h.congr Iff.rfl (State.condition_congr rfl rfl rfl rfl rfl rfl rfl rfl) rfl rfl rfl

/-! ## A SAMPLE whose port wakes no station -/

/-- The carrier condition is read with the rouse term false, as it was. -/
structure QuietRead (s : State) (after : Micros) (condition : CarrierCondition) (y : State) : Prop
    extends ReadAs s after y where
  rouse : y.plu.rouse = false
  formed : TermsFormed s → TermsFormed y
  hold : s.clp.carrierFault = (condition == .fault) → y.plu.hold = s.plu.hold

/-- A CARRIER_FAULT that keeps its value, or that the formed rouse term does not test, wakes no station (R134). -/
theorem QuietRead.portStage (link : s.clp.link ≠ .lost) (up : s.rsq.phase ≠ .loading) (was : s.plu.rouse = false)
    (untested : s.clp.carrierFault = (condition == .fault) ∨ TermsFormed s ∧ s.profile.rouse.code ≠ 9) :
    QuietRead s after condition ((s.elapse after).portStage condition) := by
  rw [State.portStage_of_up (by simpa using link), State.setCarrierFault_eq]
  by_cases same : s.clp.carrierFault = (condition == .fault)
  · rw [if_pos (by simpa using same)]
    exact ⟨.sampleNoted s after condition, was, fun h => h.sampleNoted after condition, fun _ => rfl⟩
  · obtain ⟨formed, other⟩ := untested.resolve_left same
    have noted := formed.sampleNoted after condition
    rw [if_neg (by simpa using same),
      noted.formTerms_of_untested (by simp) (by simp [State.profile, State.image]) (by simp)
        (State.faultWritten_condition other condition _)]
    refine ⟨(ReadAs.faultWritten s after condition).formValues (by simp), ?rouse,
      fun _ => termsFormed_formValues (by simpa using up), fun is => absurd is same⟩
    case rouse =>
      have profile : (((s.elapse after).sampleNoted condition).faultWritten condition).profile = s.profile := by
        simp [State.profile, State.image]
      rw [TermsFormed, if_neg up] at formed
      rw [(State.formValues_values (by simpa using up)).2, State.testTerm, profile, State.faultWritten_condition other]
      exact formed.2.symm.trans was

/-- The estimator's work leaves the reading. -/
theorem QuietRead.estimated (h : QuietRead s after condition x) : QuietRead s after condition (x.estimated u n) :=
  ⟨h.toReadAs.estimated, by simpa using h.rouse,
    fun formed => (h.formed formed).congr (by simp)
      (State.condition_congr (by simp) (by simp) (by simp) (by simp) (by simp) (by simp) (by simp) (by simp))
      (by simp [State.profile, State.image]) (by simp) (by simp),
    fun same => by simpa using h.hold same⟩

/-! ## A forming in a phase that takes no wake -/

/-- A phase that takes no wake cause (R96). -/
def TakesNoWake (s : State) : Prop := s.rsq.phase ≠ .draining ∧ s.rsq.phase ≠ .standby ∧ s.rsq.phase ≠ .deep

/-- A state that conditions alone have been written and formed in: the rest clock may have taken reports. -/
structure FormedOver (x y : State) : Prop where
  rsq : y.rsq = { x.rsq with restClock := y.rsq.restClock }
  measured : y.rsq.restClock.measured = x.rsq.restClock.measured
  stopped : x.rsq.restClock.mode = .stopped → y.rsq = x.rsq
  lif : y.lif = x.lif
  pvt : y.pvt = x.pvt
  clock : y.clock = x.clock
  loader : y.cfl = x.cfl
  active : y.plu.activeProfile = x.plu.activeProfile
  count : ∀ c, arrivalCounter c = false → y.count c = x.count c

theorem FormedOver.written (rsq : y.rsq = x.rsq) (lif : y.lif = x.lif) (pvt : y.pvt = x.pvt) (clock : y.clock = x.clock)
    (loader : y.cfl = x.cfl) (plu : y.plu = x.plu) (count : ∀ c, arrivalCounter c = false → y.count c = x.count c) :
    FormedOver x y :=
  ⟨by rw [rsq], by rw [rsq], fun _ => rsq, lif, pvt, clock, loader, congrArg _ plu, count⟩

theorem FormedOver.trans (h : FormedOver x y) (k : FormedOver y z) : FormedOver x z where
  rsq := by rw [k.rsq, h.rsq]
  measured := k.measured.trans h.measured
  stopped is := by rw [k.stopped (by rw [h.stopped is, is]), h.stopped is]
  lif := k.lif.trans h.lif
  pvt := k.pvt.trans h.pvt
  clock := k.clock.trans h.clock
  loader := k.loader.trans h.loader
  active := k.active.trans h.active
  count c other := (k.count c other).trans (h.count c other)

theorem FormedOver.phase (h : FormedOver x y) : y.rsq.phase = x.rsq.phase := by rw [h.rsq]

theorem FormedOver.takesNoWake (h : FormedOver x y) (up : TakesNoWake x) : TakesNoWake y := by
  rwa [TakesNoWake, h.phase]

/-- A forming leaves the rest clock's reading, and a stopped rest clock stopped (R110). -/
theorem FormedOver.formTerms (h : FormedOver x y) (up : TakesNoWake x) : FormedOver x y.formTerms := by
  obtain ⟨draining, standby, deep⟩ := h.takesNoWake up
  rw [State.formTerms_of_up draining standby deep]
  refine h.trans ⟨by rw [State.formValues_rsq], by simp, fun stopped => ?_, by simp, by simp, by simp, by simp, by simp,
    by simp⟩
  rw [State.formValues_rsq, RestClock.holdReport_eq, stopped]
  simp only [if_true, ← stopped, ite_self]

theorem FormedOver.setCarrierFault (up : TakesNoWake x) : FormedOver x (x.setCarrierFault (condition == .fault)) := by
  rw [State.setCarrierFault_eq]
  split
  · exact .written rfl rfl rfl rfl rfl rfl fun _ _ => rfl
  · exact FormedOver.formTerms (.written (by simp) (by simp) (by simp) (by simp) (by simp) (by simp)
      fun _ other => State.count_faultWritten other) up

theorem FormedOver.sampleNoted (x : State) (condition : CarrierCondition) : FormedOver x (x.sampleNoted condition) :=
  .written rfl rfl rfl rfl rfl rfl fun _ other => State.count_sampleNoted other

theorem FormedOver.setLinkLost (up : TakesNoWake x) (b : Bool) : FormedOver x (x.setLinkLost b) := by
  unfold State.setLinkLost State.setCondition
  split
  · exact .written rfl rfl rfl rfl rfl rfl fun _ _ => rfl
  · exact FormedOver.formTerms (.written rfl rfl rfl rfl rfl rfl fun _ _ => rfl) up

/-! ## The SAMPLE that ends a loss -/

/-- The return of the link noted and counted, LINK_LOST still to be written (R154). -/
def State.returnNoted (s : State) : State :=
  ((s.bump .validSamples).onClp fun c => { c with link := .up }).bump .linkReturns

/-- The port's fields of a SAMPLE that are written after the link's return (R154). -/
def State.conditionNoted (s : State) (clock : Micros) (condition : CarrierCondition) : State :=
  s.onClp fun c => { c with watch := some (clock + 5000000), lastCondition := some condition }

theorem FormedOver.returnNoted (x : State) : FormedOver x x.returnNoted := by
  refine .written rfl rfl rfl rfl rfl rfl fun c other => ?_
  have counts : x.returnNoted.count c = ((x.bump .validSamples).bump .linkReturns).count c := rfl
  rw [counts, State.count_bump_ne _ (by rintro rfl; cases other), State.count_bump_ne _ (by rintro rfl; cases other)]

theorem FormedOver.conditionNoted (x : State) (clock : Micros) (condition : CarrierCondition) :
    FormedOver x (x.conditionNoted clock condition) := .written rfl rfl rfl rfl rfl rfl fun _ _ => rfl

/-- The port's work on the SAMPLE that ends a loss (R15, R154). -/
theorem State.portStage_of_lost (lost : s.clp.link = .lost) (condition : CarrierCondition) :
    s.portStage condition =
      ((s.returnNoted.setLinkLost false).conditionNoted s.clock condition).setCarrierFault (condition == .fault) := by
  unfold State.portStage
  dsimp only
  rw [if_pos lost]
  rfl

/-- In a phase that takes no wake the port's work is a forming alone, whatever the link and the terms. -/
theorem FormedOver.portStage (up : TakesNoWake x) (condition : CarrierCondition) :
    FormedOver x (x.portStage condition) := by
  by_cases lost : x.clp.link = .lost
  · rw [State.portStage_of_lost lost]
    have returned := (FormedOver.returnNoted x).trans (.setLinkLost ((FormedOver.returnNoted x).takesNoWake up) false)
    have noted := returned.trans (.conditionNoted _ x.clock condition)
    exact noted.trans (.setCarrierFault (noted.takesNoWake up))
  · rw [State.portStage_of_up lost]
    have noted := FormedOver.sampleNoted x condition
    exact noted.trans (.setCarrierFault (noted.takesNoWake up))

/-- In a phase that takes no wake CARRIER_FAULT makes the one report of the hold term, while the link is not LOST. -/
theorem ReadAs.portStage (link : s.clp.link ≠ .lost) (up : TakesNoWake s) :
    ReadAs s after ((s.elapse after).portStage condition) := by
  obtain ⟨draining, standby, deep⟩ := up
  rw [State.portStage_of_up (by simpa using link), State.setCarrierFault_eq]
  split
  · exact .sampleNoted s after condition
  · rw [State.formTerms_of_up (by simpa using draining) (by simpa using standby) (by simpa using deep)]
    exact (ReadAs.faultWritten s after condition).formValues (by simp)

/-! ## A SAMPLE whose port wakes the station -/

/-- The rouse term turned true at a SAMPLE: the state is that of a wake with cause ROUSE, from a state formed once. -/
theorem State.portStage_of_fault (link : s.clp.link ≠ .lost) (up : s.rsq.phase ≠ .loading) (formed : TermsFormed s)
    (term : s.profile.rouse.code = 9) (was : s.plu.rouse = false)
    (changes : s.clp.carrierFault ≠ (condition == .fault)) :
    ∃ y, ReadAs s after y ∧ TermsFormed y ∧ y.plu.rouse = true ∧
      (s.elapse after).portStage condition = y.wake .rouse := by
  have tests : State.testTerm (((s.elapse after).sampleNoted condition).faultWritten condition)
      (((s.elapse after).sampleNoted condition).faultWritten condition).profile.rouse = true := by
    have profile : (((s.elapse after).sampleNoted condition).faultWritten condition).profile = s.profile := by
      simp [State.profile, State.image]
    have before : s.testTerm s.profile.rouse = false := by
      rw [TermsFormed, if_neg up] at formed
      exact formed.2.symm.trans was
    rw [State.testTerm, term] at before
    rw [State.testTerm, profile, term]
    change (s.clp.carrierFault != _) = false at before
    change ((((s.elapse after).sampleNoted condition).faultWritten condition).clp.carrierFault != _) = true
    have written : (((s.elapse after).sampleNoted condition).faultWritten condition).clp.carrierFault =
        (condition == .fault) := by simp
    rw [written]
    revert changes before
    cases s.clp.carrierFault <;> cases (condition == .fault) <;> cases s.profile.rouse.inverted <;> simp
  refine ⟨_, (ReadAs.faultWritten s after condition).formValues (by simp), termsFormed_formValues (by simpa using up),
    (State.formValues_values (by simpa using up)).2.trans tests, ?_⟩
  rw [State.portStage_of_up (by simpa using link), State.setCarrierFault_eq, if_neg (by simpa using changes)]
  exact State.formTerms_of_testing (by simpa using up) (by simpa using was) tests

end Sys2Proof.Machine
end

section
/-! PROOFS. A wake with cause ROUSE before the carrier condition is read, and what the condition then does: FAULT is no drain
failure, and ON_AIR completes the wake (R93, R96 to R99, R134, R154). -/

namespace Sys2Proof.Machine

variable {s w x y : State} {after : Micros} {u : BitVec 10} {n : BitVec 11} {condition : CarrierCondition} {c : Counter}

/-! ## The statements' words -/

/-- The line of a station come back to AWAKE: a RESUME to the cover it had (R93, R98, R99). -/
def LineReturned (s : State) (after : Micros) (t : State) : Prop :=
  (∀ cover, s.rsq.cover = some cover → t.lif = ((s.elapse after).offer (.resume cover s.rsq.tag)).lif) ∧
    (s.rsq.cover = none → t.lif = s.lif)

/-- A station come back to AWAKE (R98, R99). -/
def Returned (s : State) (after : Micros) (t : State) : Prop :=
  t.rsq.phase = .awake ∧ t.rsq.cover = none ∧ LineReturned s after t

/-- The phase a wake from rest leads to (R97). -/
def State.leftFor (s : State) : Phase :=
  if s.rsq.phase = .standby ∧ s.rsq.darkGiven = false then .waking else .warming

/-- A phase that takes a wake cause (R96). -/
def TakesWake (s : State) : Prop := s.rsq.phase = .draining ∨ s.rsq.phase = .standby ∨ s.rsq.phase = .deep

theorem TakesWake.running (h : TakesWake s) : s.rsq.phase ≠ .loading := by
  rcases h with is | is | is <;> simp [is]

theorem TakesWake.asleep (h : TakesWake s) : s.rsq.phase ≠ .awake := by
  rcases h with is | is | is <;> simp [is]

theorem TakesWake.not_silent (h : TakesWake s) : ¬s.silent := by
  rw [State.silent]
  rcases h with is | is | is <;> simp [is]

/-! ## The line -/

/-- A RESUME to the cover, from a state that has the line, the cover and the tag of the command's start. -/
theorem State.resumeToCover_returned (lif : w.lif = s.lif) (cover : w.rsq.cover = s.rsq.cover) (tag : w.rsq.tag = s.rsq.tag)
    (silent : w.silent ↔ s.silent) : LineReturned s after w.resumeToCover := by
  refine ⟨fun asked recorded => ?_, fun none => ?_⟩
  · simp only [State.resumeToCover, cover, recorded, tag]
    exact State.offer_lif_of_silent (s := s.elapse after) lif silent _
  · simp only [State.resumeToCover, cover, none]
    exact lif

theorem LineReturned.congr (h : LineReturned s after x) (line : y.lif = x.lif) : LineReturned s after y := by
  rwa [LineReturned, line]

/-- A drain aborted by ROUSE leaves the RESUME alone on the line (R98). -/
theorem ReadAs.line_of_draining (h : ReadAs s after y) (draining : s.rsq.phase = .draining) :
    LineReturned s after (y.wake .rouse) := by
  have there : y.rsq.phase = .draining := h.phase.trans draining
  let stopped := (y.countWake .rouse).onRsq fun q => { q with drainTimer := none, wakeCause := some .rouse }
  have line : (y.wake .rouse).lif = stopped.resumeToCover.lif := by
    rw [State.wake_of_draining .rouse there, State.abortDrain, if_neg (by decide)]
    rfl
  refine (State.resumeToCover_returned (w := stopped) ?_ ?_ ?_ ?_).congr line
  · simpa [stopped] using h.lif
  · simpa [stopped] using h.cover
  · simpa [stopped] using h.tag
  · simp [stopped, State.silent, h.phase]

/-! ## The station woken -/

/-- A station that a wake with cause ROUSE has taken out of its drain or rest, before the carrier condition is read. -/
structure WokenRead (s : State) (after : Micros) (x : State) : Prop where
  aborted : s.rsq.phase = .draining → x.rsq.phase = .awake ∧ x.rsq.cover = none ∧ x.rsq.drainTimer = none ∧
    LineReturned s after x
  left : s.rsq.phase ≠ .draining → x.rsq.phase = s.leftFor ∧ x.rsq.cover = s.rsq.cover ∧ x.lif = s.lif
  cause : x.rsq.wakeCause = some .rouse
  tag : x.rsq.tag = s.rsq.tag
  backoff : x.rsq.backoff = s.rsq.backoff
  pvt : x.pvt = s.pvt
  wakes : x.count (.wakes .rouse) = min 65535 (s.count (.wakes .rouse) + 1)
  failures : x.count .drainFailures = s.count .drainFailures

theorem ReadAs.woken (h : ReadAs s after y) (taken : TakesWake s) : WokenRead s after (y.wake .rouse) := by
  have there : TakesWake y := by rwa [TakesWake, h.phase]
  have resting (other : s.rsq.phase ≠ .draining) : y.rsq.phase = .standby ∨ y.rsq.phase = .deep :=
    there.resolve_left (by rwa [h.phase])
  refine ⟨fun draining => ?aborted, fun other => ?left, ?cause, by simp [h.tag], ?backoff,
    by simp [h.pvt], ?wakes, ?failures⟩
  case aborted =>
    obtain ⟨phase, cover, timer, -⟩ := State.wake_draining .rouse (h.phase.trans draining)
    exact ⟨phase, cover, timer, h.line_of_draining draining⟩
  case left =>
    rw [State.wake_resting_rsq .rouse (resting other), State.wake_lif_of_resting .rouse (resting other), h.rsq]
    exact ⟨rfl, rfl, h.lif⟩
  case cause =>
    rcases there with draining | resting
    · exact (State.wake_draining .rouse draining).2.2.2
    · rw [State.wake_resting_rsq .rouse resting]
  case backoff =>
    have kept : y.rsq.backoff = s.rsq.backoff := by rw [h.rsq]; rfl
    rw [← kept]
    rcases there with draining | resting
    · rw [State.wake_draining_rsq (by decide) draining]
    · rw [State.wake_resting_rsq .rouse resting]
  case wakes => rw [State.count_wakes .rouse there, h.count _ rfl]
  case failures => rw [State.count_wake_kept rfl (by simp) (by simp), h.count _ rfl]

/-- Formings after the wake leave all of it. -/
theorem WokenRead.formedOver (h : WokenRead s after w) (k : FormedOver w x) : WokenRead s after x := by
  refine ⟨fun draining => ?_, fun other => ?_, ?_, ?_, ?_, k.pvt.trans h.pvt, (k.count _ rfl).trans h.wakes,
    (k.count _ rfl).trans h.failures⟩
  · obtain ⟨phase, cover, timer, line⟩ := h.aborted draining
    rw [k.rsq]
    exact ⟨phase, cover, timer, line.congr k.lif⟩
  · obtain ⟨phase, cover, line⟩ := h.left other
    rw [k.rsq]
    exact ⟨phase, cover, k.lif.trans line⟩
  · rw [k.rsq]
    exact h.cause
  · rw [k.rsq]
    exact h.tag
  · rw [k.rsq]
    exact h.backoff

theorem FormedOver.estimated (x : State) (u : BitVec 10) (n : BitVec 11) : FormedOver x (x.estimated u n) :=
  .written (by simp) (by simp) (by simp) (by simp) (by simp) (by simp) fun c other =>
    State.count_estimated (by rintro rfl; cases other)

/-! ## The carrier condition at a returning station -/

/-- In WAKING and WARMING ON_AIR alone is acted on (R99). -/
theorem State.carrierStep_returning (returning : x.rsq.phase = .waking ∨ x.rsq.phase = .warming) :
    x.carrierStep condition = if condition = .onAir then x.completeWake else x := by
  unfold State.carrierStep
  rcases returning with is | is
  all_goals
    rw [is]
    cases condition <;> rfl

theorem State.leftFor_returning (s : State) : s.leftFor = .waking ∨ s.leftFor = .warming := by
  unfold State.leftFor
  split <;> simp

/-- A wake for another cause than RECALL completes with the RESUME alone (R99). -/
theorem State.completeWake_other (other : x.rsq.wakeCause ≠ some .recall) :
    x.completeWake = x.resumeToCover.onRsq fun q => { q with cover := none, phase := .awake } := if_neg other

/-- What the carrier condition does at a station that ROUSE has woken before it is read (R97 to R99). -/
structure WokenStep (s : State) (after : Micros) (condition : CarrierCondition) (z : State) : Prop where
  order : z.rsq.order = .run
  pvt : z.pvt = s.pvt
  cause : z.rsq.wakeCause = some .rouse
  wakes : z.count (.wakes .rouse) = min 65535 (s.count (.wakes .rouse) + 1)
  failures : z.count .drainFailures = s.count .drainFailures
  backoff : z.rsq.backoff = s.rsq.backoff
  timer : s.rsq.phase = .draining → z.rsq.drainTimer = none
  returned : s.rsq.phase = .draining ∨ condition = .onAir → Returned s after z
  left : s.rsq.phase ≠ .draining → condition ≠ .onAir →
    z.rsq.phase = s.leftFor ∧ z.rsq.cover = s.rsq.cover ∧ z.lif = s.lif

/-- A drain aborted: the condition is read in AWAKE, where it moves nothing, FAULT included (R93, R98). -/
theorem WokenRead.carrierStep_of_draining (h : WokenRead s after x) (draining : s.rsq.phase = .draining) :
    WokenStep s after condition (x.carrierStep condition) := by
  obtain ⟨phase, cover, timer, line⟩ := h.aborted draining
  rw [State.carrierStep_awake x condition phase]
  exact ⟨by rw [RestSequencer.order, phase], h.pvt, h.cause, h.wakes, h.failures, h.backoff, fun _ => timer,
    fun _ => ⟨phase, cover, line⟩, fun other => absurd draining other⟩

/-- A rest ended: ON_AIR completes the wake, and no other condition moves it (R97, R99). -/
theorem WokenRead.carrierStep_of_resting (h : WokenRead s after x) (taken : TakesWake s)
    (other : s.rsq.phase ≠ .draining) : WokenStep s after condition (x.carrierStep condition) := by
  obtain ⟨phase, cover, lif⟩ := h.left other
  have returning : x.rsq.phase = .waking ∨ x.rsq.phase = .warming := phase ▸ s.leftFor_returning
  have silent : x.silent ↔ s.silent := by
    refine iff_of_false ?_ taken.not_silent
    rw [State.silent]
    rcases returning with is | is <;> simp [is]
  rw [State.carrierStep_returning returning]
  by_cases onAir : condition = .onAir
  · rw [if_pos onAir, State.completeWake_other (by simp [h.cause])]
    exact ⟨by simp [RestSequencer.order], by simp [h.pvt], by simp [h.cause],
      (State.count_resumeToCover_other rfl).trans h.wakes, (State.count_resumeToCover_other rfl).trans h.failures,
      by simp [h.backoff],
      fun is => absurd is other,
      fun _ => ⟨by simp, by simp, State.resumeToCover_returned (w := x) lif cover h.tag silent⟩,
      fun _ elsewhere => absurd onAir elsewhere⟩
  · rw [if_neg onAir]
    refine ⟨?_, h.pvt, h.cause, h.wakes, h.failures, h.backoff, fun is => absurd is other,
      fun is => absurd is (by simp [other, onAir]), fun _ _ => ⟨phase, cover, lif⟩⟩
    rw [RestSequencer.order]
    rcases returning with is | is <;> simp [is]

theorem WokenRead.carrierStep (h : WokenRead s after x) (taken : TakesWake s) :
    WokenStep s after condition (x.carrierStep condition) := by
  by_cases draining : s.rsq.phase = .draining
  · exact h.carrierStep_of_draining draining
  · exact h.carrierStep_of_resting taken draining

/-! ## The end of a loss -/

/-- LINK_LOST false, its report still to be made (R15). -/
def State.linkFound (s : State) : State := s.returnNoted.onLde fun e => { e with linkLost := false }

/-- The SAMPLE that ends a loss, where the rouse term tests LINK_LOST in inverted sense: the station wakes, and CARRIER_FAULT
is formed after it (R15, R134, R154). -/
theorem State.portStage_of_return (lost : s.clp.link = .lost) (reported : s.lde.linkLost = true)
    (term : s.profile.rouse = { code := 8, inverted := true }) (was : s.plu.rouse = false) (taken : TakesWake s) :
    ∃ y, ReadAs s after y ∧ FormedOver (y.wake .rouse) ((s.elapse after).portStage condition) := by
  have found : ReadAs s after (s.elapse after).linkFound :=
    .written rfl rfl rfl rfl rfl rfl fun c other => (FormedOver.returnNoted (s.elapse after)).count c other
  have tests : (s.elapse after).linkFound.testTerm (s.elapse after).linkFound.profile.rouse = true := by
    rw [found.profile, term]
    rfl
  have woken : (s.elapse after).returnNoted.setLinkLost false = (s.elapse after).linkFound.formValues.wake .rouse := by
    have written : (s.elapse after).returnNoted.lde.linkLost ≠ false := by
      change s.lde.linkLost ≠ false
      simp [reported]
    rw [State.setLinkLost, State.setCondition_changes _ _ written]
    exact State.formTerms_of_testing (s := (s.elapse after).linkFound) taken.running was tests
  refine ⟨_, found.formValues rfl, ?_⟩
  rw [State.portStage_of_lost (by simpa using lost), woken]
  have noted :=
    FormedOver.conditionNoted ((s.elapse after).linkFound.formValues.wake .rouse) (s.elapse after).clock condition
  exact noted.trans (.setCarrierFault (noted.takesNoWake (State.wake_leaves .rouse _)))

end Sys2Proof.Machine
end

section
/-! PROOFS. The carrier step at a station whose rouse term stays false, one entry or failure at a time; and the wake
completed at ON_AIR (R92 to R95, R99, R107 to R109, R134). -/

namespace Sys2Proof.Machine

variable {s base x y : State} {after : Micros} {condition : CarrierCondition} {c : Counter}

/-! ## DRAINING -/

/-- A drain failed, in the statement's words (R93). -/
def DrainFailed (s : State) (after : Micros) (base t : State) : Prop :=
  t.rsq =
    { base.rsq with
      phase := .awake, cover := none, drainTimer := none
      backoff := some (s.clock + after + s.image.drainLimit * 1000000) } ∧
  (∀ cover, s.rsq.cover = some cover → t.lif = (base.offer (.resume cover s.rsq.tag)).lif) ∧
  t.count .drainFailures = min 65535 (s.count .drainFailures + 1) ∧ t.pvt = s.pvt

/-- A drain fails in the state as read (R93). -/
theorem ReadAs.failDrain (h : ReadAs s after y) (rsq : base.rsq = y.rsq) (lif : base.lif = s.lif) :
    DrainFailed s after base y.failDrain := by
  refine ⟨?sequencer, fun cover recorded => ?line, ?count, by simp [h.pvt]⟩
  case sequencer =>
    rw [rsq, ← h.image, ← h.clock]
    simp [State.failDrain, State.startBackoff, State.drainLength, second]
  case line =>
    have line : y.failDrain.lif = (y.onRsq fun q => { q with drainTimer := none }).resumeToCover.lif := rfl
    rw [line]
    simp only [State.resumeToCover, State.onRsq_rsq, h.cover, recorded, h.tag]
    refine State.offer_lif_congr ?_ ?_ _
    · exact h.lif.trans lif.symm
    · exact (congrArg RestSequencer.phase rsq).symm
  case count =>
    rw [← h.count _ rfl]
    simp only [State.failDrain, State.startBackoff, State.count_bump_same, State.count_of_block]
    rw [State.count_resumeToCover_other rfl]
    rfl

/-- The entry into STANDBY of a settled station whose rouse term is false: settled is formed, and that is all (R94, R107). -/
theorem State.enterStandby_quiet (settled : y.rsq.unsettled = false) (quiet : y.plu.rouse = false) :
    ∃ marked, y.enterStandby =
      ((((y.onRsq fun q =>
        { q with
          phase := .standby, drainTimer := none, darkGiven := false, settleCount := 0
          restClock := startedClock y.plu.hold }).onPvt PeerView.clearSeen).bump .restsEntered).onRsq fun q =>
        { q with settled := marked }) := by
  refine ⟨y.pvt.clearSeen.allSeen, ?_⟩
  simp only [State.enterStandby]
  rw [State.formSettled_same rfl (by simp [settled, Config.settleLimit]), State.rouseAtEntry, doWhen,
    if_neg (by simp [quiet])]
  rfl

/-! ## STANDBY -/

/-- The state in which the entry into DEEP is made, before any forming (R95, R109, R113). -/
def State.deepened (s : State) : State :=
  (s.onRsq fun q => { q with phase := .deep, settled := false, unsettled := false, doze := 0 }).bump .deepEntries

/-- A settled station that enters DEEP with its rouse term false makes no forming and takes no wake (R95, R96). -/
theorem State.enterDeep_settled (settled : y.rsq.unsettled = false) (quiet : y.plu.rouse = false) :
    y.enterDeep = y.deepened := by
  simp only [State.enterDeep, settled]
  exact if_neg (by simp [quiet])

/-- An UNSETTLED station that enters DEEP forms the terms first (R95, R109). -/
theorem State.enterDeep_unsettled (unsettled : y.rsq.unsettled = true) :
    y.enterDeep = y.deepened.formValues.rouseAtEntry := by
  simp only [State.enterDeep, unsettled, if_true]
  rfl

/-- The end of UNSETTLED leaves a rouse term that tests another condition (R109, R132). -/
theorem State.deepened_rouse (formed : TermsFormed y) (up : y.rsq.phase ≠ .loading) (other : y.profile.rouse.code ≠ 11) :
    y.deepened.formValues.plu.rouse = y.plu.rouse := by
  rw [TermsFormed, if_neg up] at formed
  rw [(State.formValues_values (s := y.deepened) (by simp [State.deepened])).2, formed.2, State.testTerm, State.testTerm]
  refine congrArg (· != _) (State.condition_congr_at (fun _ => rfl) (fun _ => rfl) (fun _ => rfl) (fun is => ?_)
    (fun _ => rfl) (fun _ => rfl) (fun _ => rfl) rfl)
  exact absurd is (code_toNat_ne other)

/-- The end of UNSETTLED turns a rouse term that tests it and was false (R109, R132). -/
theorem State.deepened_roused (formed : TermsFormed y) (up : y.rsq.phase ≠ .loading) (tests : y.profile.rouse.code = 11)
    (unsettled : y.rsq.unsettled = true) (was : y.plu.rouse = false) : y.deepened.formValues.plu.rouse = true := by
  rw [TermsFormed, if_neg up] at formed
  have before := formed.2.symm.trans was
  rw [State.testTerm, tests] at before
  change (y.rsq.unsettled != _) = false at before
  rw [(State.formValues_values (s := y.deepened) (by simp [State.deepened])).2]
  change (y.deepened.condition y.profile.rouse.code != y.profile.rouse.inverted) = true
  rw [tests]
  change (false != y.profile.rouse.inverted) = true
  rw [unsettled] at before
  revert before
  cases y.profile.rouse.inverted <;> decide

/-! ## No wake, no term changed -/

/-- What a carrier step with a false rouse term leaves at a settled station: the Policy Unit and every condition (R132). -/
theorem State.carrierStep_quiet (taken : TakesWake y) (settled : y.rsq.unsettled = false) (quiet : y.plu.rouse = false) :
    (y.carrierStep condition).plu = y.plu ∧ (y.carrierStep condition).rsq.phase ≠ .loading ∧
      ∀ code, (y.carrierStep condition).condition code = y.condition code := by
  have same {t : State} (rsq : t.rsq.noCover = y.rsq.noCover ∧ t.rsq.unsettled = y.rsq.unsettled ∧
      t.rsq.recentRecall = y.rsq.recentRecall) (lde : t.lde = y.lde) (clp : t.clp = y.clp)
      (clash : t.lif.clash = y.lif.clash) (isolated : t.pvt.isolated = y.pvt.isolated) (plu : t.plu = y.plu)
      (code : BitVec 4) : t.condition code = y.condition code :=
    State.condition_congr (by rw [lde]) (by rw [clp]) rsq.1 rsq.2.1 rsq.2.2 clash isolated (by rw [plu]) code
  have running := taken.running
  unfold State.carrierStep
  split
  case h_1 => exact ⟨rfl, running, same ⟨rfl, rfl, rfl⟩ rfl rfl rfl rfl rfl⟩
  case h_2 =>
    obtain ⟨marked, entered⟩ := State.enterStandby_quiet settled quiet
    rw [entered]
    exact ⟨rfl, by simp, same ⟨rfl, rfl, rfl⟩ rfl rfl rfl rfl rfl⟩
  case h_3 =>
    exact ⟨by simp, by simp [State.failDrain, State.startBackoff],
      same (by simp [State.failDrain, State.startBackoff]) (by simp) (by simp) (by simp) (by simp) (by simp)⟩
  case h_4 =>
    split
    · rw [State.enterDeep_settled settled quiet]
      exact ⟨rfl, by simp [State.deepened], same ⟨rfl, settled.symm, rfl⟩ rfl rfl rfl rfl rfl⟩
    · exact ⟨rfl, running, fun _ => rfl⟩
  case h_5 is => exact absurd taken (by simp [TakesWake, is])
  case h_6 is => exact absurd taken (by simp [TakesWake, is])
  case h_7 => exact ⟨rfl, running, fun _ => rfl⟩

theorem TermsFormed.carrierStep_quiet (h : TermsFormed y) (taken : TakesWake y) (settled : y.rsq.unsettled = false)
    (quiet : y.plu.rouse = false) : TermsFormed (y.carrierStep condition) := by
  obtain ⟨plu, up, conditions⟩ := State.carrierStep_quiet (condition := condition) taken settled quiet
  exact h.congr (iff_of_false up taken.running) conditions (by simp [State.profile, State.image, plu]) (by rw [plu])
    (by rw [plu])

/-! ## ON_AIR at a returning station -/

/-- A wake completed (R99). -/
theorem ReadAs.completeWake (h : ReadAs s after y) : Returned s after y.completeWake := by
  have line : y.completeWake.lif = y.resumeToCover.lif := by
    unfold State.completeWake
    split <;> simp
  refine ⟨?_, ?_, (State.resumeToCover_returned h.lif h.cover h.tag ?_).congr line⟩
  · unfold State.completeWake
    split <;> simp
  · unfold State.completeWake
    split <;> simp
  · rw [State.silent, h.phase, State.silent]

/-- The rest guard and RECENT_RECALL, where the completed wake was a recall's and the guard is not 0 (R99). -/
theorem ReadAs.completeWake_guard (h : ReadAs s after y) :
    (s.rsq.wakeCause = some .recall → s.profile.restGuard ≠ 0 →
      y.completeWake.rsq.recentRecall = true ∧
        y.completeWake.rsq.restGuard = some (s.clock + after + s.profile.restGuard * 60000000)) ∧
    (s.rsq.wakeCause ≠ some .recall ∨ s.profile.restGuard = 0 →
      y.completeWake.rsq.recentRecall = s.rsq.recentRecall ∧ y.completeWake.rsq.restGuard = s.rsq.restGuard) := by
  have cause : y.rsq.wakeCause = s.rsq.wakeCause := by rw [h.rsq]; rfl
  have recent : y.rsq.recentRecall = s.rsq.recentRecall := by rw [h.rsq]; rfl
  have guard : y.rsq.restGuard = s.rsq.restGuard := by rw [h.rsq]; rfl
  by_cases recalled : s.rsq.wakeCause = some .recall
  · generalize is : (y.resumeToCover.onRsq fun q => { q with cover := none, phase := .awake }) = awake
    have completed : y.completeWake = awake.startRestGuard := by
      rw [← is]
      exact if_pos (cause.trans recalled)
    have profile : awake.profile = s.profile := by
      rw [← h.profile, ← is]
      simp [State.profile, State.image]
    have before : awake.rsq.recentRecall = s.rsq.recentRecall ∧ awake.rsq.restGuard = s.rsq.restGuard ∧
        awake.clock = s.clock + after := by
      rw [← is]
      simp [recent, guard, h.clock]
    obtain ⟨recentWritten, guardWritten⟩ := awake.startRestGuard_writes
    rw [profile, before.1] at recentWritten
    rw [profile, before.2.1, before.2.2] at guardWritten
    rw [completed, recentWritten, guardWritten]
    exact ⟨fun _ some => by simp [some], fun other => by simp [other.resolve_left (not_not.mpr recalled)]⟩
  · rw [State.completeWake_other (by rwa [cause])]
    exact ⟨fun is => absurd is recalled, fun _ => by simp [recent, guard]⟩

end Sys2Proof.Machine
end

section
/-! PROOFS. Carrier reports in the rest phases, and the drain timer (R92 to R99, R134, R154 to R157; O40). -/

namespace Sys2Proof.Machine

variable {s x y z : State} {after : Micros} {u : BitVec 10} {n : BitVec 11} {condition : CarrierCondition} {c : Counter}

/-! ## The reply -/

theorem State.count_replied (other : c ≠ .repliesDropped) (z : State) : z.replyToSample.count c = z.count c := by
  simp [State.count_replyToSample_eq, other]

theorem State.replied_order (z : State) : z.replyToSample.clp.currentOrder = z.rsq.order := by
  simp [State.replyToSample_clp]

theorem TermsFormed.replyToSample (h : TermsFormed z) : TermsFormed z.replyToSample :=
  h.congr (by simp) (State.condition_congr (by simp) (by simp [State.replyToSample_clp]) (by simp) (by simp) (by simp)
    (by simp) (by simp) (by simp)) (by simp [State.profile, State.image]) (by simp) (by simp)

/-! ## A rouse term that stays false -/

theorem QuietRead.takesWake (h : QuietRead s after condition y) (taken : TakesWake s) : TakesWake y := by
  rwa [TakesWake, h.phase]

theorem ReadAs.unsettled (h : ReadAs s after y) : y.rsq.unsettled = s.rsq.unsettled := by rw [h.rsq]; rfl

/-- The terms after a carrier report at a settled station (R132). -/
theorem QuietRead.terms (h : QuietRead s after condition y) (taken : TakesWake s) (settled : s.rsq.unsettled = false) :
    let t := (y.carrierStep condition).replyToSample
    t.plu = y.plu ∧ (s.clp.carrierFault = (condition == .fault) → t.plu.hold = s.plu.hold) ∧
      (TermsFormed s → TermsFormed t) := by
  have low : y.rsq.unsettled = false := h.unsettled.trans settled
  obtain ⟨plu, -, -⟩ := State.carrierStep_quiet (condition := condition) (h.takesWake taken) low h.rouse
  have kept : (y.carrierStep condition).replyToSample.plu = y.plu := by simpa using plu
  refine ⟨kept, fun same => ?_, fun formed => ?_⟩
  · rw [kept, h.hold same]
  · exact ((h.formed formed).carrierStep_quiet (h.takesWake taken) low h.rouse).replyToSample

/-- What each condition does in DRAINING (R92 to R94). -/
theorem State.carrierStep_draining (draining : y.rsq.phase = .draining) :
    y.carrierStep .drained = (y.onRsq fun q => { q with drainStep := .restOrdered }) ∧
      y.carrierStep .resting = y.enterStandby ∧ y.carrierStep .fault = y.failDrain ∧
      (condition ≠ .drained → condition ≠ .resting → condition ≠ .fault → y.carrierStep condition = y) := by
  unfold State.carrierStep
  rw [draining]
  refine ⟨rfl, rfl, rfl, fun drained rests fails => ?_⟩
  cases condition <;> simp_all

/-- What each condition does in STANDBY (R95). -/
theorem State.carrierStep_standby (standby : y.rsq.phase = .standby) :
    y.carrierStep condition = if condition = .dark ∧ y.rsq.darkGiven = true then y.enterDeep else y := by
  unfold State.carrierStep
  rw [standby]
  cases condition <;> simp

/-- In DEEP no condition moves the sequencer (R95). -/
theorem State.carrierStep_deep (deep : y.rsq.phase = .deep) : y.carrierStep condition = y := by
  unfold State.carrierStep
  rw [deep]

/-- A carrier report in DRAINING (R92 to R94). -/
theorem QuietRead.draining (h : QuietRead s after condition y) (draining : s.rsq.phase = .draining)
    (settled : s.rsq.unsettled = false) :
    let t := (y.carrierStep condition).replyToSample
    let reported := s.holdReported after t.plu.hold
    (condition = .drained →
      t.rsq = { reported.rsq with drainStep := .restOrdered } ∧ t.clp.currentOrder = .rest) ∧
    (condition = .resting →
      t.rsq.phase = .standby ∧ t.rsq.drainTimer = none ∧ t.rsq.darkGiven = false ∧ t.rsq.settleCount = 0 ∧
      t.rsq.cover = s.rsq.cover ∧ t.rsq.omissions = s.rsq.omissions ∧ t.rsq.unsettled = false ∧
      t.rsq.restClock = { mode := if t.plu.hold then .frozen else .running, measured := 0 } ∧
      t.pvt.slots = s.pvt.slots.map (Option.map fun e => { e with seenUs := false }) ∧
      t.count .restsEntered = min 65535 (s.count .restsEntered + 1)) ∧
    (condition = .fault → DrainFailed s after reported t) ∧
    (condition ≠ .drained → condition ≠ .resting → condition ≠ .fault → t.rsq = reported.rsq) := by
  intro t reported
  obtain ⟨plu, -⟩ := h.terms (.inl draining) settled
  have there : y.rsq.phase = .draining := h.phase.trans draining
  have low : y.rsq.unsettled = false := h.unsettled.trans settled
  have rsq : reported.rsq = y.rsq := by
    rw [h.rsq, ← plu]
  have sequencer : t.rsq = (y.carrierStep condition).rsq := by simp [t]
  obtain ⟨drainedStep, restsStep, failsStep, otherStep⟩ := State.carrierStep_draining (condition := condition) there
  refine ⟨fun is => ?drained, fun is => ?rests, fun is => ?fails, fun drained rests fails => ?other⟩
  case drained =>
    have step := is ▸ drainedStep
    refine ⟨by rw [sequencer, step, rsq]; rfl, ?_⟩
    rw [State.replied_order, step]
    simp [RestSequencer.order, there]
  case rests =>
    obtain ⟨marked, entered⟩ := State.enterStandby_quiet low h.rouse
    have step := is ▸ restsStep
    have cover := h.cover
    have omissions : y.rsq.omissions = s.rsq.omissions := by rw [h.rsq]; rfl
    rw [plu, sequencer, State.count_replied (by simp), step, entered]
    refine ⟨rfl, rfl, rfl, rfl, cover, omissions, low, rfl, ?_, ?_⟩
    · have view : t.pvt = (y.carrierStep condition).pvt := by simp [t]
      rw [view, step, entered, ← h.pvt]
      rfl
    · rw [← h.count _ rfl]
      exact State.count_bump_same _ _
  case fails =>
    have step := is ▸ failsStep
    obtain ⟨rsqFailed, line, count, view⟩ := h.toReadAs.failDrain (base := reported) rsq rfl
    rw [← step] at rsqFailed line count view
    exact ⟨sequencer.trans rsqFailed, fun cover recorded => by simpa [t] using line cover recorded,
      (State.count_replied (by simp) _).trans count, by simpa [t] using view⟩
  case other =>
    rw [sequencer, otherStep drained rests fails, rsq]

theorem ReadAs.count_deepened (h : ReadAs s after y) :
    y.deepened.count .deepEntries = min 65535 (s.count .deepEntries + 1) := by
  rw [← h.count _ rfl]
  exact State.count_bump_same _ _

/-- An UNSETTLED station whose rouse term does not test UNSETTLED enters DEEP with one forming and no wake (R95, R109). -/
theorem QuietRead.enterDeep_unsettled (h : QuietRead s after condition y) (taken : TakesWake s)
    (unsettled : s.rsq.unsettled = true) (formed : TermsFormed s) (other : s.profile.rouse.code ≠ 11) :
    y.enterDeep = y.deepened.formValues := by
  have still := State.deepened_rouse (h.formed formed) (h.takesWake taken).running (by rwa [h.profile])
  rw [State.enterDeep_unsettled (h.unsettled.trans unsettled), State.rouseAtEntry, still, h.rouse]
  rfl

/-- An entry into DEEP that no wake ends at once (R95). -/
theorem QuietRead.enterDeep_entered (h : QuietRead s after condition y) (taken : TakesWake s)
    (either : s.rsq.unsettled = false ∨ TermsFormed s ∧ s.profile.rouse.code ≠ 11) :
    y.enterDeep.rsq.phase = .deep ∧ y.enterDeep.count .deepEntries = min 65535 (s.count .deepEntries + 1) := by
  cases settled : s.rsq.unsettled with
  | false =>
    rw [State.enterDeep_settled (h.unsettled.trans settled) h.rouse]
    exact ⟨rfl, h.count_deepened⟩
  | true =>
    obtain ⟨formed, other⟩ := either.resolve_left (by simp [settled])
    rw [h.enterDeep_unsettled taken settled formed other]
    simpa [h.count_deepened] using show y.deepened.rsq.phase = .deep from rfl

/-- An UNSETTLED station whose rouse term tests UNSETTLED is woken at its entry into DEEP (R95, R96, R109). -/
theorem QuietRead.enterDeep_roused (h : QuietRead s after condition y) (taken : TakesWake s)
    (unsettled : s.rsq.unsettled = true) (formed : TermsFormed s) (tests : s.profile.rouse.code = 11) :
    y.enterDeep.rsq.phase = .warming ∧ y.enterDeep.rsq.cover = s.rsq.cover ∧ y.enterDeep.rsq.wakeCause = some .rouse ∧
      y.enterDeep.rsq.unsettled = false ∧ y.enterDeep.plu.rouse = true ∧
      y.enterDeep.count .deepEntries = min 65535 (s.count .deepEntries + 1) ∧
      y.enterDeep.count (.wakes .rouse) = min 65535 (s.count (.wakes .rouse) + 1) := by
  have turned := State.deepened_roused (h.formed formed) (h.takesWake taken).running (by rwa [h.profile])
    (h.unsettled.trans unsettled) h.rouse
  have woken : y.enterDeep = y.deepened.formValues.wake .rouse := by
    rw [State.enterDeep_unsettled (h.unsettled.trans unsettled), State.rouseAtEntry, turned]
    rfl
  have deep : y.deepened.formValues.rsq.phase = .deep := by simp [State.deepened]
  rw [woken]
  refine ⟨?phase, ?cover, ?cause, ?settled, ?rouse, ?entries, ?wakes⟩
  case rouse =>
    rw [State.wake_of_resting .rouse (.inr deep),
      (State.leaveRest_of_settled (s := y.deepened.formValues.countWake .rouse) .rouse (by simp [State.deepened])).1]
    simpa using turned
  case entries =>
    rw [State.count_wake_kept rfl (by simp) (by simp)]
    simpa using h.count_deepened
  case wakes =>
    rw [State.count_wakes .rouse (.inr (.inr deep)), ← h.count _ rfl]
    simp [State.deepened, State.count_bump]
  all_goals rw [State.wake_resting_rsq .rouse (.inr deep)]
  case phase => simp [State.deepened]
  case cover => simpa [State.deepened] using h.cover

/-- A carrier report in STANDBY (R95). -/
theorem QuietRead.standby (h : QuietRead s after condition y) (standby : s.rsq.phase = .standby) :
    let t := (y.carrierStep condition).replyToSample
    let reported := s.holdReported after t.plu.hold
    (condition = .dark → s.rsq.darkGiven = true →
      (s.rsq.unsettled = false → t.rsq = { reported.rsq with phase := .deep, settled := false, doze := 0 }) ∧
      (s.rsq.unsettled = true → TermsFormed s → s.profile.rouse.code ≠ 11 →
        t.rsq =
          { reported.rsq with
            phase := .deep, settled := false, unsettled := false, doze := 0, restClock := t.rsq.restClock } ∧
        t.rsq.restClock.measured = (s.elapse after).rsq.restClock.measured ∧ TermsFormed t) ∧
      ((s.rsq.unsettled = false ∨ TermsFormed s ∧ s.profile.rouse.code ≠ 11) →
        t.clp.currentOrder = .dark ∧ t.count .deepEntries = min 65535 (s.count .deepEntries + 1)) ∧
      (s.rsq.unsettled = true → TermsFormed s → s.profile.rouse.code = 11 →
        t.rsq.phase = .warming ∧ t.rsq.cover = s.rsq.cover ∧ t.rsq.wakeCause = some .rouse ∧
        t.rsq.unsettled = false ∧ t.plu.rouse = true ∧ t.clp.currentOrder = .run ∧
        t.count .deepEntries = min 65535 (s.count .deepEntries + 1) ∧
        t.count (.wakes .rouse) = min 65535 (s.count (.wakes .rouse) + 1))) ∧
    (¬(condition = .dark ∧ s.rsq.darkGiven = true) → t.rsq = reported.rsq) := by
  intro t reported
  have there : y.rsq.phase = .standby := h.phase.trans standby
  have taken : TakesWake s := .inr (.inl standby)
  have sequencer : t.rsq = (y.carrierStep condition).rsq := by simp [t]
  have step := State.carrierStep_standby (condition := condition) there
  have given : y.rsq.darkGiven = s.rsq.darkGiven := by rw [h.rsq]; rfl
  refine ⟨fun dark darkGiven => ?entry, fun other => ?other⟩
  case other =>
    rw [given, if_neg other] at step
    have kept : t.plu = y.plu := by simp [t, step]
    rw [sequencer, step, h.rsq, ← kept]
  case entry =>
    rw [given, if_pos ⟨dark, darkGiven⟩] at step
    refine ⟨fun settled => ?settled, fun unsettled formed other => ?unsettled, fun either => ?entered,
      fun unsettled formed tests => ?roused⟩
    case settled =>
      obtain ⟨plu, -⟩ := h.terms taken settled
      have rsq : reported.rsq = y.rsq := by rw [h.rsq, ← plu]
      have low := h.unsettled.trans settled
      rw [sequencer, step, State.enterDeep_settled low h.rouse, rsq]
      simp [State.deepened, low]
    case unsettled =>
      rw [h.enterDeep_unsettled taken unsettled formed other] at step
      have measured : y.deepened.formValues.rsq.restClock.measured = y.rsq.restClock.measured := by simp [State.deepened]
      have terms : TermsFormed (y.carrierStep condition) := by
        rw [step]
        exact termsFormed_formValues (by simp [State.deepened])
      refine ⟨?_, ?_, terms.replyToSample⟩
      · rw [sequencer, step, State.formValues_rsq]
        simp only [State.deepened, State.bump_frame, State.onRsq_rsq, h.rsq]
        rfl
      · rw [sequencer, step, measured, h.rsq]
        rfl
    case entered =>
      obtain ⟨deep, count⟩ := h.enterDeep_entered taken either
      rw [State.replied_order, State.count_replied (by simp), step, RestSequencer.order, deep]
      exact ⟨rfl, count⟩
    case roused =>
      obtain ⟨phase, cover, cause, settled, rouse, entries, wakes⟩ := h.enterDeep_roused taken unsettled formed tests
      rw [sequencer, State.replied_order, State.count_replied (by simp), State.count_replied (by simp), step,
        RestSequencer.order, phase]
      exact ⟨rfl, cover, cause, settled, by simpa [t, step] using rouse, rfl, entries, wakes⟩

/-- A carrier report in DEEP moves nothing (R95). -/
theorem QuietRead.deep (h : QuietRead s after condition y) (deep : s.rsq.phase = .deep) :
    let t := (y.carrierStep condition).replyToSample
    t.rsq = (s.holdReported after t.plu.hold).rsq := by
  intro t
  have still := State.carrierStep_deep (condition := condition) (h.phase.trans deep)
  simp only [t, still, State.replyToSample_frame]
  exact h.rsq

/-! ## The other phases -/

/-- A carrier report in WAKING and WARMING (R99). -/
theorem ReadAs.returning (h : ReadAs s after y) (returning : s.rsq.phase = .waking ∨ s.rsq.phase = .warming) :
    let t := (y.carrierStep condition).replyToSample
    (condition = .onAir →
      Returned s after t ∧
      (s.rsq.wakeCause = some .recall → s.profile.restGuard ≠ 0 →
        t.rsq.recentRecall = true ∧
        t.rsq.restGuard = some (s.clock + after + s.profile.restGuard * 60000000)) ∧
      ((s.rsq.wakeCause ≠ some .recall ∨ s.profile.restGuard = 0) →
        t.rsq.recentRecall = s.rsq.recentRecall ∧ t.rsq.restGuard = s.rsq.restGuard)) ∧
    (condition ≠ .onAir → t.rsq = (s.holdReported after t.plu.hold).rsq) := by
  intro t
  have there : y.rsq.phase = .waking ∨ y.rsq.phase = .warming := by rwa [h.phase]
  have step := State.carrierStep_returning (condition := condition) there
  have sequencer : t.rsq = (y.carrierStep condition).rsq := by simp [t]
  refine ⟨fun onAir => ?completed, fun other => ?other⟩
  case completed =>
    rw [if_pos onAir] at step
    obtain ⟨phase, cover, line⟩ := h.completeWake
    rw [← step] at phase cover line
    rw [Returned, sequencer]
    refine ⟨⟨phase, cover, line.congr (by simp [t])⟩, ?_⟩
    rw [step]
    exact h.completeWake_guard
  case other =>
    rw [if_neg other] at step
    have kept : t.plu = y.plu := by simp [t, step]
    rw [sequencer, step, h.rsq, ← kept]

/-- In SEEKING and MUTE no condition moves the sequencer (R156). -/
theorem State.carrierStep_unread (unread : y.rsq.phase = .seeking ∨ y.rsq.phase = .mute) : y.carrierStep condition = y := by
  unfold State.carrierStep
  rcases unread with is | is <;> rw [is]

end Sys2Proof.Machine
end

section
/-! PROOFS. CARRIER_FAULT as the rouse term's condition, and the statement on carrier reports (R134, R154 to R157; O40). -/

namespace Sys2Proof.Machine

variable {s x y z : State} {after : Micros} {u : BitVec 10} {n : BitVec 11} {condition : CarrierCondition}

/-! ## The rouse term that tests CARRIER_FAULT -/

/-- The carrier step of a station that ROUSE has woken: ON_AIR completes a wake from rest, and nothing else happens (R99). -/
theorem WokenRead.carrierStep_eq (h : WokenRead s after x) :
    x.carrierStep condition =
      if s.rsq.phase ≠ .draining ∧ condition = .onAir then
        x.resumeToCover.onRsq fun q => { q with cover := none, phase := .awake }
      else x := by
  by_cases draining : s.rsq.phase = .draining
  · rw [State.carrierStep_awake x condition (h.aborted draining).1, if_neg fun is => is.1 draining]
  · have returning : x.rsq.phase = .waking ∨ x.rsq.phase = .warming := (h.left draining).1 ▸ s.leftFor_returning
    rw [State.carrierStep_returning returning, State.completeWake_other (by simp [h.cause])]
    simp [draining]

theorem TermsFormed.estimated (h : TermsFormed x) : TermsFormed (x.estimated u n) :=
  h.congr (by simp) (State.condition_congr (by simp) (by simp) (by simp) (by simp) (by simp) (by simp) (by simp) (by simp))
    (by simp [State.profile, State.image]) (by simp) (by simp)

/-- The completion of a wake for another cause than RECALL changes no term and no condition (R132). -/
theorem TermsFormed.wakeCompleted (h : TermsFormed x) (up : x.rsq.phase ≠ .loading) :
    TermsFormed (x.resumeToCover.onRsq fun q => { q with cover := none, phase := .awake }) :=
  h.congr (by simp [up]) (State.condition_congr (by simp) (by simp) (by simp) (by simp) (by simp) (by simp) (by simp)
    (by simp)) (by simp [State.profile, State.image]) (by simp) (by simp)

/-- A rouse term that tests CARRIER_FAULT stays as formed through the wake it causes (R134). -/
theorem TermsFormed.wake_rouse_fault (h : TermsFormed y) (taken : TakesWake y) (term : y.profile.rouse.code = 9) :
    (y.wake .rouse).plu.rouse = y.plu.rouse := by
  have woken := h.wake (cause := .rouse) (by decide)
  have running : (y.wake .rouse).rsq.phase ≠ .loading := mt (y.wake_phase_iff .rouse).2.1.mp taken.running
  rw [TermsFormed, if_neg running] at woken
  rw [TermsFormed, if_neg taken.running] at h
  have profile : (y.wake .rouse).profile = y.profile := by simp [State.profile, State.image]
  have fault : (y.wake .rouse).clp = y.clp := by simp
  rw [woken.2, h.2, profile, State.testTerm, State.testTerm, term]
  change ((y.wake .rouse).clp.carrierFault != _) = (y.clp.carrierFault != _)
  rw [fault]

/-- The sample that turns the rouse term true by CARRIER_FAULT: the sequencer and the terms (R96 to R99, R134). -/
theorem ReadAs.rousedByFault (h : ReadAs s after y) (formed : TermsFormed y) (turned : y.plu.rouse = true)
    (term : s.profile.rouse.code = 9) (taken : TakesWake s) :
    let t := (((y.wake .rouse).estimated u n).carrierStep condition).replyToSample
    t.plu.rouse = true ∧ TermsFormed t ∧
      (s.rsq.phase = .draining →
        t.rsq =
          { (s.holdReported after t.plu.hold).rsq with
            phase := .awake, cover := none, drainTimer := none, wakeCause := some .rouse }) ∧
      (s.rsq.phase ≠ .draining →
        t.rsq =
          { (s.holdReported after t.plu.hold).rsq with
            phase := if condition = .onAir then .awake else s.leftFor
            cover := if condition = .onAir then none else s.rsq.cover
            wakeCause := some .rouse, settled := false, unsettled := false
            restClock := { mode := .stopped, measured := (s.elapse after).rsq.restClock.measured } }) := by
  intro t
  have there : TakesWake y := by rwa [TakesWake, h.phase]
  have woken := (h.woken taken).formedOver (.estimated (y.wake .rouse) u n)
  have step := woken.carrierStep_eq (condition := condition)
  have running : ((y.wake .rouse).estimated u n).rsq.phase ≠ .loading := by
    simpa using mt (y.wake_phase_iff .rouse).2.1.mp there.running
  have policy : t.plu = (y.wake .rouse).plu := by
    simp only [t, State.replyToSample_frame, step]
    split <;> simp
  have sequencer : t.rsq = (((y.wake .rouse).estimated u n).carrierStep condition).rsq := by simp [t]
  refine ⟨?rouse, ?formed, fun draining => ?aborted, fun other => ?left⟩
  case rouse => rw [policy, formed.wake_rouse_fault there (by rwa [h.profile]), turned]
  case formed =>
    have terms := (formed.wake (cause := .rouse) (by decide)).estimated (u := u) (n := n)
    refine TermsFormed.replyToSample ?_
    rw [step]
    split
    · exact terms.wakeCompleted running
    · exact terms
  case aborted =>
    have draining' := h.phase.trans draining
    have kept : t.plu = y.plu := by
      rw [policy, State.wake_of_draining .rouse draining', (State.abortDrain_policy (by decide)).1]
      simp
    have rsq : ((y.wake .rouse).estimated u n).rsq = (y.wake .rouse).rsq := by simp
    rw [sequencer, step, if_neg fun is => is.1 draining, rsq, State.wake_draining_rsq (by decide) draining', h.rsq, ← kept]
  case left =>
    have resting : y.rsq.phase = .standby ∨ y.rsq.phase = .deep := there.resolve_left (by rwa [h.phase])
    have rsq : ((y.wake .rouse).estimated u n).rsq = (y.wake .rouse).rsq := by simp
    rw [State.wake_resting_rsq .rouse resting, h.rsq] at rsq
    rw [sequencer, step]
    by_cases onAir : condition = .onAir
    · simp only [onAir, other, ne_eq, not_false_eq_true, and_self, if_true, State.onRsq_rsq, State.resumeToCover_frame, rsq]
      rfl
    · simp only [onAir, and_false, if_false, rsq]
      rfl

/-! ## The statement -/

/-- The drain timer's expiry fails the drain (R93). -/
theorem exec_drainTimerExpiry_due (out : s.held = false) (draining : s.rsq.phase = .draining)
    (due : Expired s.rsq.drainTimer s after) :
    exec (.drainTimerExpiry after) s = .next (s.elapse after).failDrain := by
  rw [exec_live _ out, commandWork, State.expiring_elapse rfl due]
  exact congrArg _ (if_pos draining)

/-- What a wake and a carrier report leave, in the words of the reply. -/
theorem WokenStep.replied (h : WokenStep s after condition z) :
    let t := z.replyToSample
    t.clp.currentOrder = .run ∧ t.pvt = s.pvt ∧ t.rsq.wakeCause = some .rouse ∧
      t.count (.wakes .rouse) = min 65535 (s.count (.wakes .rouse) + 1) ∧
      t.count .drainFailures = s.count .drainFailures ∧ t.rsq.backoff = s.rsq.backoff ∧
      (s.rsq.phase = .draining → t.rsq.drainTimer = none) ∧
      ((s.rsq.phase = .draining ∨ condition = .onAir) → Returned s after t) ∧
      (s.rsq.phase ≠ .draining → condition ≠ .onAir →
        t.rsq.phase = s.leftFor ∧ t.rsq.cover = s.rsq.cover ∧ t.lif = s.lif) := by
  have line : z.replyToSample.lif = z.lif := by simp
  have sequencer : z.replyToSample.rsq = z.rsq := by simp
  have view : z.replyToSample.pvt = z.pvt := by simp
  intro t
  rw [State.replied_order, State.count_replied (by simp), State.count_replied (by simp), Returned, LineReturned, line,
    sequencer, view]
  exact ⟨h.order, h.pvt, h.cause, h.wakes, h.failures, h.backoff, h.timer, h.returned, h.left⟩

/-- In SEEKING and MUTE a SAMPLE ends with the estimator's and the cover's work: its carrier condition is not read (R156). -/
theorem State.sampled_of_unread (unread : s.rsq.phase = .seeking ∨ s.rsq.phase = .mute) :
    ∃ z : State, s.sampled after u n condition = z.replyToSample ∧ z.rsq = ((s.elapse after).portStage condition).rsq ∧
      z.pvt = ((s.elapse after).portStage condition).pvt ∧ z.clp = ((s.elapse after).portStage condition).clp ∧
      (s.cvu.book = [] → z.lif = ((s.elapse after).portStage condition).lif) := by
  have up : TakesNoWake (s.elapse after) := by rcases unread with is | is <;> simp [TakesNoWake, is]
  have phase := (FormedOver.portStage up condition).phase
  have there : ((s.elapse after).portStage condition).rsq.phase = .seeking ∨
      ((s.elapse after).portStage condition).rsq.phase = .mute := by rwa [phase]
  have running : ((s.elapse after).portStage condition).rsq.phase ≠ .loading := by rcases there with is | is <;> simp [is]
  have arrived : (s.rsq.phase == .awake) = false := by rcases unread with is | is <;> simp [is]
  rw [State.sampled, arrived, State.sampleStages, if_neg running]
  split
  · refine ⟨(((s.elapse after).portStage condition).useSample u n false).coverStage, ?_, by simp, by simp, by simp,
      fun empty => ?_⟩
    · rw [State.carrierStep_unread (by simpa using there), State.eligibilityStage, if_neg (by simp)]
    · rw [State.coverStage_of_empty (by simpa using empty)]
      simp
  · refine ⟨((s.elapse after).portStage condition).bump .setAside, ?_, rfl, rfl, rfl, fun _ => rfl⟩
    rw [State.carrierStep_unread (by simpa using there)]

/-- In SEEKING and MUTE the terms alone are formed (R156). -/
theorem State.sampled_unread (unread : s.rsq.phase = .seeking ∨ s.rsq.phase = .mute) :
    let t := s.sampled after u n condition
    t.rsq = { (s.elapse after).rsq with restClock := t.rsq.restClock } ∧
      t.rsq.restClock.measured = (s.elapse after).rsq.restClock.measured ∧
      (s.rsq.restClock.mode = .stopped → t.rsq = (s.elapse after).rsq) ∧
      t.pvt = s.pvt ∧ t.clp.lastCondition = some condition ∧ (s.cvu.book = [] → t.lif = s.lif) := by
  have up : TakesNoWake (s.elapse after) := by rcases unread with is | is <;> simp [TakesNoWake, is]
  have formed := FormedOver.portStage up condition
  obtain ⟨z, sampled, rsq, pvt, clp, lif⟩ :=
    State.sampled_of_unread (after := after) (u := u) (n := n) (condition := condition) unread
  have sequencer : (s.sampled after u n condition).rsq = ((s.elapse after).portStage condition).rsq := by
    simp [sampled, rsq]
  intro t
  rw [show t.rsq = _ from sequencer]
  refine ⟨formed.rsq, formed.measured, fun stopped => formed.stopped (by rwa [State.elapse_clockMode]), ?_, ?_,
    fun empty => ?_⟩
  · rw [show t = _ from sampled]
    simp [pvt]
  · rw [show t = _ from sampled, State.replyToSample_clp, clp, State.portStage_clp]
  · rw [show t = _ from sampled]
    simpa [lif empty] using formed.lif

/-- Settles O40: the state in which the carrier condition is read differs from the time's own work by at most one report of
the hold term, or is that of a wake with cause ROUSE; the step is then taken phase by phase. -/
theorem drainAndCarrierReports : Obligations.DrainAndCarrierReports := by
  intro after u n condition s out failed timed resting left returned
  refine ⟨fun draining due => ?timer, fun unread => ?unread, fun link empty => ?sample,
    fun lost reported empty term was (taken : TakesWake s) => ?found⟩
  case timer =>
    have read : ReadAs s after (s.elapse after) := .written rfl rfl rfl rfl rfl rfl fun _ _ => rfl
    exact ⟨_, exec_drainTimerExpiry_due out draining due, read.failDrain rfl rfl,
      by simp, by simp, by simp, by simp, by simp⟩
  case unread => exact ⟨_, exec_validSample_live out after u n condition, State.sampled_unread unread⟩
  case found =>
    obtain ⟨y, read, formed⟩ :=
      State.portStage_of_return (after := after) (condition := condition) lost reported term was taken
    have woken := (read.woken taken).formedOver (formed.trans (.estimated _ u n))
    refine ⟨_, exec_validSample_live out after u n condition, ?_⟩
    rw [State.sampled_eq empty taken.asleep taken.running]
    exact (woken.carrierStep taken).replied
  case sample =>
    refine ⟨_, exec_validSample_live out after u n condition, ?_⟩
    intro reported
    refine ⟨fun was untested => ?quiet, fun returning => ?returning,
      fun formed term was changes (taken : TakesWake s) => ?roused⟩
    case quiet =>
      have read (taken : TakesWake s) : QuietRead s after condition
          (((s.elapse after).portStage condition).estimated u n) :=
        (QuietRead.portStage link taken.running was untested).estimated
      have sampled (taken : TakesWake s) := State.sampled_eq (after := after) (u := u) (n := n) (condition := condition)
        empty taken.asleep taken.running
      refine ⟨fun taken settled => ?terms, fun draining settled => ?draining, fun standby => ?standby, fun deep => ?deep⟩
      case terms =>
        rw [sampled taken]
        exact ((read taken).terms taken settled).2
      case draining =>
        have answered := (read (.inl draining)).draining draining settled
        rw [← sampled (.inl draining)] at answered
        exact answered
      case standby =>
        have answered := (read (.inr (.inl standby))).standby standby
        rw [← sampled (.inr (.inl standby))] at answered
        exact answered
      case deep =>
        have answered := (read (.inr (.inr deep))).deep deep
        rw [← sampled (.inr (.inr deep))] at answered
        exact answered
    case returning =>
      have up : TakesNoWake s := by rcases returning with is | is <;> simp [TakesNoWake, is]
      have answered := ((ReadAs.portStage link up (after := after) (condition := condition)).estimated (u := u) (n :=
        n)).returning
        (condition := condition) returning
      rw [← State.sampled_eq empty (by rcases returning with is | is <;> simp [is])
        (by rcases returning with is | is <;> simp [is])] at answered
      exact answered
    case roused =>
      obtain ⟨y, read, terms, turned, port⟩ :=
        State.portStage_of_fault (after := after) link taken.running formed term was changes
      have sampled := State.sampled_eq (after := after) (u := u) (n := n) (condition := condition) empty taken.asleep
        taken.running
      rw [port] at sampled
      have woken := (read.woken taken).formedOver (.estimated (y.wake .rouse) u n)
      have reported := read.rousedByFault (u := u) (n := n) (condition := condition) terms turned term taken
      have answered := (woken.carrierStep (condition := condition) taken).replied
      rw [← sampled] at reported answered
      obtain ⟨rouse, formedAfter, aborted, left⟩ := reported
      obtain ⟨order, view, -, wakes, failures, -, -, returned, kept⟩ := answered
      exact ⟨rouse, formedAfter, order, view, wakes, failures, fun draining => ⟨aborted draining, returned (.inl draining)⟩,
        fun other => ⟨left other, fun onAir => returned (.inr onAir), fun elsewhere => (kept other elsewhere).2.2⟩⟩

end Sys2Proof.Machine
end
